-- ==== Sys2Proof/Word.lean ====
section
/-! DEFINITION. The byte of the cab link and the sets of the protocol as bits. -/

namespace Sys2Proof

/-- One byte of the cab link (R170). -/
abbrev Byte := BitVec 8

/-- A set of workhead units, with LO, LI, RI and RO in bits 0 to 3 (R185). -/
abbrev UnitSet := BitVec 4

/-- A set of the twenty condition flags, flag number n in bit n − 1 (R185). -/
abbrev FlagSet := BitVec 20

/-- A set of the ten channels, in the fixed order of the channel table in bits 0 to 9 (R185). -/
abbrev ChannelSet := BitVec 10

end Sys2Proof
end

