-- ==== Sys2Proof/Syntax.lean ====
section
/-! DEFINITION. The names of the controller's parts that a command may carry, and the commands: one
constructor of `Instr` for each row of spec/opcode_table.json. -/

namespace Sys2Proof

/-- The four workhead units (00, "Names and writing"). -/
inductive UnitId where
  | LO | LI | RI | RO
  deriving DecidableEq, Repr

/-- The three axes (00, "Names and writing"). -/
inductive AxisId where
  | liftL | liftR | line
  deriving DecidableEq, Repr

/-- The ten count channels, in the fixed order of the channel table of 01. -/
inductive ChannelId where
  | odo | sat | lat | lvlL | lvlR | xl
  | dep (u : UnitId)
  deriving DecidableEq, Repr

/-- The twenty-five filtered input lines (R1): lines A and B of each channel, the detector line and the
four pressure lines. -/
inductive Line where
  | channelA (c : ChannelId)
  | channelB (c : ChannelId)
  | detector
  | pressure (u : UnitId)
  deriving DecidableEq, Repr

/-- One entry of a bearer list as a SEGMENT_APPEND request carries it (bearer table of 03; R185). The
sets are the bytes on the wire: bits 4 to 7 name something other than a unit. -/
structure BearerBody where
  offset : Nat
  tamp : Byte
  tilt : Byte
  insertions : Nat
  depthOffset : Int
  deriving DecidableEq, Repr

/-- The optional survey part of a segment (segment table of 03), 0.01 mm. -/
structure Survey where
  lat0 : Int
  lat1 : Int
  vert0 : Int
  vert1 : Int
  deriving DecidableEq, Repr

/-- The body of a SEGMENT_APPEND request (segment table of 03; segment body table of 11). An absent
optional part is `none`; `bearers = some []` is a bearer list that is present and empty (R39). -/
structure SegmentBody where
  id : Nat
  length : Int
  kh0 : Int
  kh1 : Int
  kv0 : Int
  kv1 : Int
  cant0 : Int
  cant1 : Int
  grade : Byte
  start : Option Int
  survey : Option Survey
  bearers : Option (List BearerBody)
  deriving DecidableEq, Repr

/-- The commands: one constructor for each row of spec/opcode_table.json, in the table's order.
`dt` is the time since the command before, in microseconds (DESIGN CHOICE, log 1). The expiry of a timer
carries none: its instant is the end of the timer (log 2). A request's command is the arrival of an
intact frame that carries it, with its tag (DESIGN CHOICE, log 4). -/
inductive Instr where
  /-- POWER_ON (R183). -/
  | powerOn
  /-- LINE_LEVEL_CHANGE (R1): the line's present level changes; `together` says that the other line of
  the same channel changes at the same instant (R5; DESIGN CHOICE, log 6). -/
  | lineLevelChange (dt : Nat) (line : Line) (together : Bool)
  /-- FILTER_WINDOW_EXPIRY (R1). -/
  | filterWindowExpiry (line : Line)
  /-- DESIGN_PASS_COMPLETE (R87). -/
  | designPassComplete (dt : Nat)
  /-- TARGET_PASS_COMPLETE (R88). -/
  | targetPassComplete (dt : Nat)
  /-- AXIS_SETTLE_EXPIRY (R109, R110). -/
  | axisSettleExpiry (a : AxisId)
  /-- AXIS_MOTION_TIMEOUT (R112). -/
  | axisMotionTimeout (a : AxisId)
  /-- TILT_EXPIRY (R122). -/
  | tiltExpiry (u : UnitId)
  /-- LOWER_TIMEOUT (R123). -/
  | lowerTimeout (u : UnitId)
  /-- SQUEEZE_TIMER_EXPIRY (R125). -/
  | squeezeTimerExpiry (u : UnitId)
  /-- OPEN_EXPIRY (R127). -/
  | openExpiry (u : UnitId)
  /-- RAISE_TIMEOUT (R128). -/
  | raiseTimeout (u : UnitId)
  /-- BLIND_RAISE_EXPIRY (R131). -/
  | blindRaiseExpiry (u : UnitId)
  /-- PARKING_EXPIRY (R137). -/
  | parkingExpiry (u : UnitId)
  /-- RECEIVE_HOLD_DROP (R172): a byte received; `stopLow` says its stop bit was low. -/
  | receiveHoldDrop (dt : Nat) (byte : Byte) (stopLow : Bool)
  /-- FRAME_DISCARD (R171): a byte received. -/
  | frameDiscard (dt : Nat) (byte : Byte) (stopLow : Bool)
  /-- FRAME_ARRIVAL (R172): a byte received. -/
  | frameArrival (dt : Nat) (byte : Byte) (stopLow : Bool)
  /-- TRANSMIT_END (R175). -/
  | transmitEnd
  /-- SUPERVISION_TIMEOUT (R178). -/
  | supervisionTimeout
  /-- SAVE_COMPLETE (R182): `matched` says whether the read-back matches what was written. -/
  | saveComplete (dt : Nat) (matched : Bool)
  /-- STATUS (R166). -/
  | status (dt : Nat) (tag : Byte)
  /-- SNAPSHOT (R13). -/
  | snapshot (dt : Nat) (tag : Byte)
  /-- NULL_CHANNELS (R11, R12): channel numbers with their reference values. -/
  | nullChannels (dt : Nat) (tag : Byte) (entries : List (Nat × Int))
  /-- SET_CHAINAGE (R19). -/
  | setChainage (dt : Nat) (tag : Byte) (x : Int)
  /-- SEGMENT_APPEND (R42 to R45). -/
  | segmentAppend (dt : Nat) (tag : Byte) (body : SegmentBody)
  /-- SEGMENT_TRUNCATE (R46 to R49). -/
  | segmentTruncate (dt : Nat) (tag : Byte) (x : Int)
  /-- HEAD_SET (R136): the unit set byte. -/
  | headSet (dt : Nat) (tag : Byte) (set : Byte)
  /-- START (R141). -/
  | start (dt : Nat) (tag : Byte)
  /-- PAUSE (R142). -/
  | pause (dt : Nat) (tag : Byte)
  /-- STOP (R143). -/
  | stop (dt : Nat) (tag : Byte)
  /-- CLEAR_HALT (R144). -/
  | clearHalt (dt : Nat) (tag : Byte)
  /-- JOB_CLEAR (R145). -/
  | jobClear (dt : Nat) (tag : Byte)
  /-- SET_ENABLES (R163): the notice-enable and stop-enable sets as the wire's 24 bits. -/
  | setEnables (dt : Nat) (tag : Byte) (notice : BitVec 24) (stop : BitVec 24)
  /-- CLEAR_FLAGS (R164): the flag set as the wire's 24 bits. -/
  | clearFlags (dt : Nat) (tag : Byte) (set : BitVec 24)
  /-- CONFIGURE (R180, R181). -/
  | configure (dt : Nat) (tag : Byte) (id : Byte) (value : BitVec 32)
  /-- READ_PARAM (R181). -/
  | readParam (dt : Nat) (tag : Byte) (id : Byte)
  /-- SAVE_SETTINGS (R182). -/
  | saveSettings (dt : Nat) (tag : Byte)
  /-- RESTART (R184). -/
  | restart (dt : Nat) (tag : Byte)
  /-- BYTE_RECEIVED (R171): a byte received. -/
  | byteReceived (dt : Nat) (byte : Byte) (stopLow : Bool)
  /-- POWER_FAILURE (R182). -/
  | powerFailure (dt : Nat)
  deriving DecidableEq, Repr

end Sys2Proof
end

