-- ==== Sys2Proof/Config.lean ====
section
/-! DEFINITION. The values the spec leaves open: constants without a body, so that no proof can see
what they are. -/

namespace Sys2Proof

/-- The bytes an image holds after a write that failed or was cut off by a power failure: byte `i` of the
`n`-th such event (R182: "in whatever state the write had reached"; free value, log 9). -/
opaque Config.tornByte : Nat → Nat → Byte

/-- Which of two reports or judgements that fall together inside one event is taken first, at the `n`-th
such event (R30, R116 with R132; free value, logs 10 and 11). -/
opaque Config.eitherOrder : Nat → Bool

/-- The number sent in a signed field for a value that does not fit it (R185 states none; free value,
log 24). -/
opaque Config.wideField : Int → Nat

end Sys2Proof
end

