-- ==== Sys2Proof/WellFormed.lean ====
section
/-! DEFINITION. Which commands can come from outside: a request's operands fit the fields of its body
(R185) and the body fits a frame of at most 240 body bytes (R170). The rules' own range checks are not
here: a request that fails one of those arrives and is refused by its owner. -/

namespace Sys2Proof

/-- The value fits a signed field of `w` bytes, two's complement (R185). -/
def fitsSigned (w : Nat) (x : Int) : Bool := decide (-(256 ^ w : Nat) ≤ 2 * x ∧ 2 * x < (256 ^ w : Nat))

/-- The value fits an unsigned field of `w` bytes (R185). -/
def fitsUnsigned (w : Nat) (x : Nat) : Bool := decide (x < 256 ^ w)

/-- The fields of one bearer entry fit the eight bytes of the segment body table of 11. -/
def BearerBody.fits (b : BearerBody) : Bool :=
  fitsUnsigned 4 b.offset && fitsUnsigned 1 b.insertions && fitsSigned 1 b.depthOffset

/-- The fields of a survey part fit two bytes each. -/
def Survey.fits (v : Survey) : Bool :=
  fitsSigned 2 v.lat0 && fitsSigned 2 v.lat1 && fitsSigned 2 v.vert0 && fitsSigned 2 v.vert1

/-- The fields of a segment body fit the segment body table of 11, and the whole fits a frame: with 21
bytes of fixed fields, 4 for a start and 8 for a survey part, 25 bearers at most. -/
def SegmentBody.fits (b : SegmentBody) : Bool :=
  fitsUnsigned 2 b.id && fitsSigned 4 b.length
    && fitsSigned 2 b.kh0 && fitsSigned 2 b.kh1 && fitsSigned 2 b.kv0 && fitsSigned 2 b.kv1
    && fitsSigned 2 b.cant0 && fitsSigned 2 b.cant1
    && b.start.all (fitsSigned 4) && b.survey.all Survey.fits
    && (b.bearers.getD []).all BearerBody.fits
    && decide (21 + (if b.start.isSome then 4 else 0) + (if b.survey.isSome then 8 else 0)
        + 8 * (b.bearers.getD []).length ≤ 240)

/-- The entries of a NULL_CHANNELS request fit: at most 47 in 240 body bytes, a channel in one byte and a
reference in four (R185). -/
def nullEntriesFit (entries : List (Nat × Int)) : Bool :=
  decide (entries.length ≤ 47) && entries.all fun e => fitsUnsigned 1 e.1 && fitsSigned 4 e.2

/-- A command that can come from outside. Operands that are bytes or bit fields always fit; the others
are checked. Every constructor is named. -/
def Instr.wellFormed : Instr → Bool
  | .powerOn => true
  | .lineLevelChange _ _ _ => true
  | .filterWindowExpiry _ => true
  | .designPassComplete _ => true
  | .targetPassComplete _ => true
  | .axisSettleExpiry _ => true
  | .axisMotionTimeout _ => true
  | .tiltExpiry _ => true
  | .lowerTimeout _ => true
  | .squeezeTimerExpiry _ => true
  | .openExpiry _ => true
  | .raiseTimeout _ => true
  | .blindRaiseExpiry _ => true
  | .parkingExpiry _ => true
  | .receiveHoldDrop _ _ _ => true
  | .frameDiscard _ _ _ => true
  | .frameArrival _ _ _ => true
  | .transmitEnd => true
  | .supervisionTimeout => true
  | .saveComplete _ _ => true
  | .status _ _ => true
  | .snapshot _ _ => true
  | .nullChannels _ _ entries => nullEntriesFit entries
  | .setChainage _ _ x => fitsSigned 4 x
  | .segmentAppend _ _ body => body.fits
  | .segmentTruncate _ _ x => fitsSigned 4 x
  | .headSet _ _ _ => true
  | .start _ _ => true
  | .pause _ _ => true
  | .stop _ _ => true
  | .clearHalt _ _ => true
  | .jobClear _ _ => true
  | .setEnables _ _ _ _ => true
  | .clearFlags _ _ _ => true
  | .configure _ _ _ _ => true
  | .readParam _ _ _ => true
  | .saveSettings _ _ => true
  | .restart _ _ => true
  | .byteReceived _ _ _ => true
  | .powerFailure _ => true

end Sys2Proof
end

