-- ==== Sys2Proof/Machine/Wire.lean ====
section
/-! DEFINITION. Byte order, signed fields, absent values, the CHECK and the frame of the cab link (R170,
R185). -/

namespace Sys2Proof.Machine

/-- A number as `w` bytes, the most significant first (R170, R185). -/
def beBytes : Nat → Nat → List Byte
  | 0, _ => []
  | w + 1, n => BitVec.ofNat 8 (n / 256 ^ w) :: beBytes w n

/-- The number that bytes stand for, the most significant first (R170, R185). -/
def beNat (bytes : List Byte) : Nat := bytes.foldl (fun acc b => acc * 256 + b.toNat) 0

/-- The two's complement value of an unsigned number read from `w` bytes (R185). -/
def signedOf (w : Nat) (n : Nat) : Int := if 2 * n < 256 ^ w then (n : Int) else (n : Int) - (256 ^ w : Nat)

/-- A signed value in a field of `w` bytes, two's complement (R185). What is sent for a value that does
not fit the field is not stated: a free value (log 24). -/
def signedField (w : Nat) (x : Int) : List Byte :=
  if fitsSigned w x then beBytes w (x % (256 ^ w : Nat)).toNat else beBytes w (Config.wideField x)

/-- The code of an absent value: 8000_0000h in four bytes, 8000h in two, FFh in one (R185). -/
def absentField (w : Nat) : List Byte := if w = 1 then [0xFF] else beBytes w (128 * 256 ^ (w - 1))

/-- An optional signed value (R185). -/
def optField (w : Nat) : Option Int → List Byte
  | some x => signedField w x
  | none => absentField w

/-- A one-byte code. -/
def codeByte (n : Nat) : List Byte := [BitVec.ofNat 8 n]

/-- An optional one-byte code, FFh when absent (R185). -/
def optCode : Option Nat → List Byte
  | some n => codeByte n
  | none => absentField 1

/-- A marker that has a byte of its own: 1 set, 0 clear (DESIGN CHOICE, log 44). -/
def markerByte (b : Bool) : List Byte := codeByte (if b then 1 else 0)

/-- The polynomial x¹⁶ + x¹² + x⁵ + 1 without its leading term (R170). -/
def crcPolynomial : Nat := 0x1021

/-- `k` single-bit shifts of the CRC register, most significant bit first, not reflected (R170). -/
def crcShift : Nat → Nat → Nat
  | 0, r => r
  | k + 1, r => crcShift k (if r < 32768 then 2 * r else ((2 * r) % 65536) ^^^ crcPolynomial)

/-- One byte fed to the register, its most significant bit first (R170). -/
def crcByte (r : Nat) (b : Byte) : Nat := crcShift 8 (r ^^^ (b.toNat * 256))

/-- The CRC-16 of R170: it starts from all sixteen bits set and receives no final inversion. -/
def crc16 (bytes : List Byte) : Nat := bytes.foldl crcByte 0xFFFF

/-- SYNC (frame table of 11). -/
def syncByte : Byte := 0xA5

/-- The bytes the CHECK covers: LENGTH, KIND, TAG and the body, in the order sent (R170). -/
def checkedBytes (kind tag : Byte) (body : List Byte) : List Byte :=
  BitVec.ofNat 8 body.length :: kind :: tag :: body

/-- A whole frame: SYNC, LENGTH, KIND, TAG, the body, and the CHECK with its high byte first (R170). -/
def frameBytes (kind tag : Byte) (body : List Byte) : List Byte :=
  syncByte :: checkedBytes kind tag body ++ beBytes 2 (crc16 (checkedBytes kind tag body))

end Sys2Proof.Machine
end

