-- ==== Sys2Proof/Machine/State.lean ====
section
/-! DEFINITION. The state of the controller, block by block, as plain data, and the state right after
power-on. INVENTORY.md, heading "State", lists every field with its rule and its reset value. -/

namespace Sys2Proof.Machine

/-! ## Things there are four or three of -/

/-- One thing for each workhead unit. -/
structure Four (α : Type) where
  LO : α
  LI : α
  RI : α
  RO : α
  deriving DecidableEq, Repr

/-- One thing for each axis. -/
structure Three (α : Type) where
  liftL : α
  liftR : α
  line : α
  deriving DecidableEq, Repr

/-- A running timer: the duration it was loaded with, in ms, and the instant it was started, in µs. A
stopped timer is `none`. -/
structure Timer where
  loaded : Nat
  started : Nat
  deriving DecidableEq, Repr

/-! ## Parameters (11, "The parameters") -/

/-- P31. -/
inductive SqueezeMode where
  | time | pressure
  deriving DecidableEq, Repr

/-- The parameters P01 to P39, each under its own id. Distances and pitches are whole numbers of the unit
of the table; durations and counts are natural numbers. -/
structure Params where
  p01 : Int
  p02 : Int
  p03 : Int
  p04 : Int
  p05 : Int
  p06 : Int
  p07 : Int
  p08 : Int
  p09 : Int
  p10 : Int
  p11 : Int
  p12 : Int
  p13 : Int
  p14 : Int
  p15 : Int
  p16 : Int
  p17 : Int
  p18 : Int
  p19 : Int
  p20 : Int
  p21 : Nat
  p22 : Nat
  p23 : Nat
  p24 : Int
  p25 : Int
  p26 : Int
  p27 : Nat
  p28 : Nat
  p29 : Nat
  p30 : Nat
  p31 : SqueezeMode
  p32 : Nat
  p33 : Int
  p34min : Int
  p34max : Int
  p35 : Int
  p36 : Int
  p37 : Nat
  p38 : Nat
  p39polarity : ChannelSet
  p39low : Bool
  deriving DecidableEq, Repr

/-- The defaults of the parameter table of 11. -/
def Params.defaults : Params where
  p01 := 12000
  p02 := 4800
  p03 := 9600
  p04 := 4800
  p05 := 500
  p06 := 100
  p07 := 200
  p08 := 9000
  p09 := 5500
  p10 := 1500
  p11 := 600
  p12 := 10
  p13 := 150
  p14 := 40
  p15 := 1000
  p16 := 500
  p17 := 8000
  p18 := 5000
  p19 := 30
  p20 := 50
  p21 := 4000
  p22 := 4000
  p23 := 3
  p24 := 450
  p25 := 60
  p26 := 10
  p27 := 2500
  p28 := 3000
  p29 := 900
  p30 := 350
  p31 := .pressure
  p32 := 400
  p33 := 450
  p34min := 150
  p34max := 320
  p35 := 120
  p36 := 60000
  p37 := 1000
  p38 := 2
  p39polarity := 0
  p39low := false

/-- The settings store (R182): the image as the bytes it holds, `none` while it has never been written,
and the bytes a save in progress is writing. -/
structure Store where
  image : Option (List Byte)
  saving : Option (List Byte)
  deriving DecidableEq, Repr

/-! ## Count unit (01) -/

/-- The filter of one line (R1): the accepted level, the present level of the line (true is high), and
the instant at which the change being timed began. -/
structure LineFilter where
  accepted : Bool
  present : Bool
  since : Option Nat
  deriving DecidableEq, Repr

/-- One quadrature channel (channel state table of 01). `paired` says that the changes being timed on its
two lines began at one instant, so that they are accepted at one instant (R5, log 6). -/
structure Channel where
  a : LineFilter
  b : LineFilter
  paired : Bool
  count : Int
  nulled : Bool
  countAtNull : Int
  reference : Int
  fault : Bool
  deriving DecidableEq, Repr

/-- The count unit: ten channels, the detector line and the four pressure lines. -/
structure CountUnit where
  odo : Channel
  sat : Channel
  lat : Channel
  lvlL : Channel
  lvlR : Channel
  xl : Channel
  depth : Four Channel
  detector : LineFilter
  pressure : Four LineFilter
  deriving DecidableEq, Repr

/-! ## Position unit (02) -/

/-- The ODO direction (R18). -/
inductive Direction where
  | forward | backward
  deriving DecidableEq, Repr

/-- The state of the satellite drive (drive table of 02). -/
inductive Drive where
  | riding | indexing | holding
  deriving DecidableEq, Repr

/-- The five commands of the satellite drive outputs (02, "The satellite drive"). -/
inductive DriveCommand where
  | stop | fwdFast | fwdSlow | backFast | backSlow
  deriving DecidableEq, Repr

/-- The travel demand (02, "The travel governor"). -/
inductive Demand where
  | go | creep | stop
  deriving DecidableEq, Repr

/-- The position unit. -/
structure Position where
  datum : Int
  countAtDatum : Int
  direction : Direction
  drive : Drive
  target : Option Int
  output : DriveCommand
  holdLost : Bool
  strokeEnd : Bool
  demand : Demand
  strokeTerm : Demand
  deriving DecidableEq, Repr

/-! ## Segment queue (03) -/

/-- A grade rail. -/
inductive Grade where
  | left | right
  deriving DecidableEq, Repr

/-- A held bearer entry (R39). -/
structure Bearer where
  offset : Nat
  chainage : Int
  tamp : UnitSet
  tilt : UnitSet
  insertions : Nat
  depthOffset : Int
  consumed : Bool
  deriving DecidableEq, Repr

/-- A held segment (R38); `planned` says that its bearer list is present, even with no entries (R39). -/
structure Segment where
  id : Nat
  start : Int
  length : Int
  kh0 : Int
  kh1 : Int
  kv0 : Int
  kv1 : Int
  cant0 : Int
  cant1 : Int
  grade : Grade
  survey : Option Survey
  planned : Bool
  bearers : List Bearer
  deriving DecidableEq, Repr

/-- The segment queue (state table of 03). -/
structure SegmentQueue where
  segments : List Segment
  lookAhead : Bool
  starved : Bool
  deriving DecidableEq, Repr

/-! ## Sleeper queue (04) -/

/-- How a record entered. -/
inductive Source where
  | detected | matched | planned
  deriving DecidableEq, Repr

/-- The state of a sleeper record (R61). -/
inductive RecordState where
  | queued | designed | inWork | done | skipped | aborted
  deriving DecidableEq, Repr

/-- Why a record was skipped. -/
inductive SkipReason where
  | noHeads | noCover | outOfReach
  deriving DecidableEq, Repr

/-- How an axis's motion ended. -/
inductive AxisOutcome where
  | reached | timeout | hunt | cut
  deriving DecidableEq, Repr

/-- A plan copied from a bearer entry. -/
structure Plan where
  tamp : UnitSet
  tilt : UnitSet
  insertions : Nat
  depthOffset : Int
  segmentId : Nat
  deriving DecidableEq, Repr

/-- The design part (R87). -/
structure DesignPart where
  dLat : Int
  dLvl : Int
  cant : Int
  grade : Grade
  eLat : Int
  eLvl : Int
  deriving DecidableEq, Repr

/-- The four snapshot readings of a target request (R85). -/
structure Readings where
  vmLat : Int
  vmL : Int
  vmR : Int
  xl : Int
  deriving DecidableEq, Repr

/-- The target part (R88). -/
structure TargetPart where
  readings : Readings
  liftL : Int
  liftR : Int
  shift : Int
  vtLat : Int
  vtL : Int
  vtR : Int
  deriving DecidableEq, Repr

/-- An axis's report (R118). -/
structure AxisReport where
  outcome : Option AxisOutcome
  final : Option Int
  overshoot : Option Int
  reversals : Option Nat
  deriving DecidableEq, Repr

/-- A workhead unit's report (R133). -/
structure UnitReport where
  participated : Bool
  insertions : Nat
  pressureCount : Nat
  blocked : Bool
  faulted : Bool
  deepest : Option Int
  deriving DecidableEq, Repr

/-- The result part (R148, R153, R156). -/
structure ResultPart where
  active : UnitSet
  axes : Three AxisReport
  units : Four UnitReport
  cycleTime : Nat
  skip : Option SkipReason
  flags : FlagSet
  deriving DecidableEq, Repr

/-- A sleeper record (record table of 04). -/
structure Sleeper where
  seq : Nat
  chainage : Int
  width : Option Int
  source : Source
  plan : Option Plan
  state : RecordState
  unplanned : Bool
  flags : FlagSet
  design : Option DesignPart
  target : Option TargetPart
  result : Option ResultPart
  deriving DecidableEq, Repr

/-- The sleeper queue (state table of 04). The detection state is IDLE (`none`) or OPEN with the activation
chainage; `held` lists the chainages of the bearers whose passing is held (R72); `staying` says that the
front record stays in transmission after a JOB_CLEAR (R76, log 33). -/
structure SleeperQueue where
  records : List Sleeper
  highWater : Option Int
  nextSeq : Nat
  detection : Option Int
  held : List Int
  staying : Bool
  deriving DecidableEq, Repr

/-! ## Correction engine (05) -/

/-- An exact rational: numerator and denominator (R93). -/
structure Ratio where
  num : Int
  den : Int
  deriving DecidableEq, Repr

/-- The four arms as a pass took them (R86). -/
structure Arms where
  p01 : Int
  p02 : Int
  p03 : Int
  p04 : Int
  deriving DecidableEq, Repr

/-- The exact sums of a design pass: Σ(b) and Σ(a + b) of the two chords (R95). -/
structure DesignSums where
  latB : Ratio
  latAB : Ratio
  lvlB : Ratio
  lvlAB : Ratio
  deriving DecidableEq, Repr

/-- A design pass in flight: its record, its inputs (R86) and its working sums. -/
structure DesignPass where
  seq : Nat
  chainage : Int
  arms : Arms
  segments : List Segment
  sums : DesignSums
  deriving DecidableEq, Repr

/-- A target pass in flight: its record, its inputs (R86) and its working sums, the two front corrections
before rounding (R100, R101). -/
structure TargetPass where
  seq : Nat
  readings : Readings
  design : DesignPart
  arms : Arms
  baseLift : Int
  minLift : Int
  liftLimit : Int
  shiftLimit : Int
  cLat : Ratio
  cLvl : Ratio
  deriving DecidableEq, Repr

/-- What the engine is doing (R81). -/
inductive Activity where
  | idle
  | designing (p : DesignPass)
  | targeting (p : TargetPass)
  deriving DecidableEq, Repr

/-- A held target request (R85). -/
structure TargetRequest where
  seq : Nat
  readings : Readings
  deriving DecidableEq, Repr

/-- The correction engine. -/
structure Engine where
  activity : Activity
  request : Option TargetRequest
  deriving DecidableEq, Repr

/-! ## Axes (06) -/

/-- The state of an axis. -/
inductive AxisState where
  | idle | moving | hold
  deriving DecidableEq, Repr

/-- The stage of a MOVING axis. -/
inductive AxisStage where
  | driving | settling
  deriving DecidableEq, Repr

/-- The direction of a lining drive output. -/
inductive LineDir where
  | left | right
  deriving DecidableEq, Repr

/-- The parameters an axis latches at its start (R107). -/
structure AxisLatch where
  deadband : Int
  timeout : Nat
  reversalLimit : Nat
  deriving DecidableEq, Repr

/-- One axis (state table of 06). -/
structure Axis where
  state : AxisState
  stage : Option AxisStage
  started : Bool
  target : Option Int
  latched : Option AxisLatch
  motion : Option Timer
  settle : Option Timer
  lastDir : Option LineDir
  reversals : Nat
  outcome : Option AxisOutcome
  overshoot : Option Int
  final : Option Int
  released : Bool
  releasePending : Bool
  deriving DecidableEq, Repr

/-! ## Workhead units (07) -/

/-- The state of a workhead unit. -/
inductive HeadState where
  | parking | up | tilting | lowering | inserted | squeezing | opening | raising | faulted
  deriving DecidableEq, Repr

/-- The raising stage. -/
inductive RaiseStage where
  | normal | stuck | blind
  deriving DecidableEq, Repr

/-- The plan in hand (R121). -/
structure HeadPlan where
  tilted : Bool
  depth : Int
  insertions : Nat
  deriving DecidableEq, Repr

/-- The depths latched at the entry into RAISING (R128). -/
structure HeadLatch where
  clear : Int
  top : Int
  deriving DecidableEq, Repr

/-- One workhead unit (state table of 07); `tilted` is the tilt position. -/
structure Head where
  state : HeadState
  stage : Option RaiseStage
  tilted : Bool
  timer : Option Timer
  plan : Option HeadPlan
  pendingLower : Bool
  abort : Bool
  squeezeMode : SqueezeMode
  pressureSeen : Bool
  latched : Option HeadLatch
  report : UnitReport
  deriving DecidableEq, Repr

/-! ## Condition unit (09) -/

/-- The twenty condition flags, in the order of the table of 09. -/
inductive Flag where
  | highSpot | liftLimit | lineLimit | cantUnmet | overshoot | liftTimeout | lineTimeout | lineHunt
  | lowPressure | headBlocked | unplanned | skippedSleeper | channelFault | unitFault | detectReject
  | queueOverrun | segStarved | strokeLow | linkError | settingsDefaulted
  deriving DecidableEq, Repr

/-- The condition unit. -/
structure Conditions where
  flags : FlagSet
  notice : FlagSet
  stop : FlagSet
  armed : Option Flag
  deriving DecidableEq, Repr

/-! ## Cycle controller (08) -/

/-- The mode. -/
inductive Mode where
  | ready | work | paused | halted
  deriving DecidableEq, Repr

/-- The cycle phase. -/
inductive Phase where
  | none | seek | waitDesign | indexing | arrived | working | clearing
  deriving DecidableEq, Repr

/-- The cause of the last halt. -/
inductive HaltCause where
  | none | operator | cabSilent | strokeEnd | holdLost | channelLost | unitStuck | flagStop
  deriving DecidableEq, Repr

/-- The detail of a halt cause (cycle state table of 08). -/
inductive Detail where
  | flag (f : Flag)
  | unit (u : UnitId)
  | channel (c : ChannelId)
  deriving DecidableEq, Repr

/-- The last reset cause (R165, R184). -/
inductive ResetCause where
  | power | restart
  deriving DecidableEq, Repr

/-- The cycle controller. The current record is named by its sequence number; the stopwatch is stopped
(`none`) or was started at an instant. -/
structure Cycle where
  mode : Mode
  phase : Phase
  pausePending : Bool
  current : Option Nat
  active : Option UnitSet
  stopwatch : Option Nat
  cause : HaltCause
  detail : Option Detail
  resetCause : ResetCause
  deriving DecidableEq, Repr

/-! ## Cab link port (10) -/

/-- The statuses of a reply (code table of 11). -/
inductive Status where
  | ok | badLength | unknownKind | queueFull | wrongMode | outOfRange | busy | notNulled | segGap | segFull
  | poolFull | segBehind | inUse | storeFailed
  deriving DecidableEq, Repr

/-- A request as the port reads it from its kind and body (R173, R185): of an unknown kind, with a body
whose length does not agree, or one of the eighteen. -/
inductive Request where
  | unknownKind
  | badLength
  | status
  | snapshot
  | nullChannels (entries : List (Nat × Int))
  | setChainage (x : Int)
  | segmentAppend (body : SegmentBody)
  | segmentTruncate (x : Int)
  | headSet (set : Byte)
  | start
  | pause
  | stop
  | clearHalt
  | jobClear
  | setEnables (notice stop : BitVec 24)
  | clearFlags (set : BitVec 24)
  | configure (id : Byte) (value : BitVec 32)
  | readParam (id : Byte)
  | saveSettings
  | restart
  deriving DecidableEq, Repr

/-- The progress of a queued request (port state table of 10). -/
inductive Progress where
  | waiting | taking | replied
  deriving DecidableEq, Repr

/-- A queued request. -/
structure QueuedRequest where
  kind : Byte
  tag : Byte
  request : Request
  progress : Progress
  deriving DecidableEq, Repr

/-- A reply in the reply queue: its frame's kind and tag, its status, and on OK its content (R173). -/
structure Reply where
  kind : Byte
  tag : Byte
  status : Status
  content : List Byte
  deriving DecidableEq, Repr

/-- The content of a MODE notice (R165). -/
structure ModeNotice where
  mode : Mode
  cause : HaltCause
  detail : Option Detail
  resetCause : ResetCause
  deriving DecidableEq, Repr

/-- The content of a CONDITION notice (R160). -/
structure ConditionNotice where
  flags : FlagSet
  raised : FlagSet
  deriving DecidableEq, Repr

/-- The content of a SEGMENTS_WANTED notice (R53). -/
structure SegmentsNotice where
  queueEnd : Option Int
  freeSegments : Nat
  freeEntries : Nat
  wanted : Int
  deriving DecidableEq, Repr

/-- A pending notice slot: its content and its age (R161), the number of the command at whose instant it
was filled (log 27). An empty slot is `none`. -/
structure Slot (α : Type) where
  content : α
  age : Nat
  deriving DecidableEq, Repr

/-- What the frame being sent is (R175). -/
inductive TxSource where
  | queueFull | reply | workRecord | notice
  deriving DecidableEq, Repr

/-- The frame being sent: its bytes and the instant at which it began. -/
structure Transmission where
  source : TxSource
  bytes : List Byte
  began : Nat
  deriving DecidableEq, Repr

/-- The receive assembler (R171), with the bytes of the frame so far. The body is held newest byte last. -/
inductive Assembler where
  | hunt
  | length
  | kind (len : Nat)
  | tag (len : Nat) (kind : Byte)
  | body (len : Nat) (kind tag : Byte) (bytes : List Byte)
  | checkHigh (kind tag : Byte) (bytes : List Byte)
  | checkLow (kind tag : Byte) (bytes : List Byte) (high : Byte)
  deriving DecidableEq, Repr

/-- The cab link port (port state table of 10). The QUEUE_FULL list holds the kind beside the tag, since
the reply's kind is made from it (R185, log 26). -/
structure Link where
  assembler : Assembler
  lastByte : Nat
  hold : Bool
  requests : List QueuedRequest
  replies : List Reply
  full : List (Byte × Byte)
  modeSlot : Option (Slot ModeNotice)
  condSlot : Option (Slot ConditionNotice)
  segSlot : Option (Slot SegmentsNotice)
  tx : Option Transmission
  restart : Bool
  supervision : Option Timer
  deriving DecidableEq, Repr

/-! ## The whole -/

/-- The state of the controller, with the queue of commands that wait. -/
structure State where
  pending : List Instr
  clock : Nat
  eventNo : Nat
  freeNext : Nat
  powered : Bool
  params : Params
  store : Store
  count : CountUnit
  pos : Position
  seg : SegmentQueue
  slp : SleeperQueue
  eng : Engine
  axes : Three Axis
  heads : Four Head
  headSet : UnitSet
  cyc : Cycle
  cond : Conditions
  link : Link
  deriving DecidableEq, Repr

/-- No rule of the spec stops the controller, so no command faults: there is no reason to name. -/
inductive Fault
  deriving DecidableEq, Repr

/-- Why a command has no meaning. -/
inductive Refusal where
  /-- The command of this mnemonic is not modelled; raised by a refused arm of `exec` alone; safe. No arm
  is refused. -/
  | notModelled (mnemonic : String)
  deriving DecidableEq, Repr

/-! ## The state after a reset -/

/-- A report as an arrival order clears it (R121, R133). -/
def UnitReport.cleared : UnitReport where
  participated := false
  insertions := 0
  pressureCount := 0
  blocked := false
  faulted := false
  deepest := none

/-- An axis report where nothing is reported (R118, R148). -/
def AxisReport.absent : AxisReport where
  outcome := none
  final := none
  overshoot := none
  reversals := none

/-- A line's filter after a reset (R16): idle, its accepted level set to the present level. -/
def LineFilter.atReset (f : LineFilter) : LineFilter where
  accepted := f.present
  present := f.present
  since := none

/-- A channel after a reset (R16). -/
def Channel.atReset (c : Channel) : Channel where
  a := c.a.atReset
  b := c.b.atReset
  paired := false
  count := 0
  nulled := false
  countAtNull := 0
  reference := 0
  fault := false

/-- The count unit after a reset (R16): only the present levels of the lines survive. -/
def CountUnit.atReset (c : CountUnit) : CountUnit where
  odo := c.odo.atReset
  sat := c.sat.atReset
  lat := c.lat.atReset
  lvlL := c.lvlL.atReset
  lvlR := c.lvlR.atReset
  xl := c.xl.atReset
  depth := ⟨c.depth.LO.atReset, c.depth.LI.atReset, c.depth.RI.atReset, c.depth.RO.atReset⟩
  detector := c.detector.atReset
  pressure := ⟨c.pressure.LO.atReset, c.pressure.LI.atReset, c.pressure.RI.atReset, c.pressure.RO.atReset⟩

/-- The position unit after a reset (R37). -/
def Position.atReset : Position where
  datum := 0
  countAtDatum := 0
  direction := .forward
  drive := .riding
  target := none
  output := .stop
  holdLost := false
  strokeEnd := false
  demand := .go
  strokeTerm := .go

/-- An axis after a reset (R119). -/
def Axis.atReset : Axis where
  state := .idle
  stage := none
  started := false
  target := none
  latched := none
  motion := none
  settle := none
  lastDir := none
  reversals := 0
  outcome := none
  overshoot := none
  final := none
  released := false
  releasePending := false

/-- A workhead unit after a reset (R137): PARKING, its phase timer loaded with P28. The squeeze mode and
the pressure-seen marker are DESIGN CHOICES (log 28). -/
def Head.atReset (p28 clock : Nat) : Head where
  state := .parking
  stage := none
  tilted := false
  timer := some ⟨p28, clock⟩
  plan := none
  pendingLower := false
  abort := false
  squeezeMode := .pressure
  pressureSeen := false
  latched := none
  report := .cleared

/-- The cycle controller after a reset (R140, R165). -/
def Cycle.atReset (cause : ResetCause) : Cycle where
  mode := .ready
  phase := .none
  pausePending := false
  current := none
  active := none
  stopwatch := none
  cause := .none
  detail := none
  resetCause := cause

/-- The condition unit after a reset (R169), with SETTINGS_DEFAULTED, flag 20, raised where the image was
invalid (R183). -/
def Conditions.atReset (defaulted : Bool) : Conditions where
  flags := if defaulted then 0x80000#20 else 0
  notice := 0
  stop := 0
  armed := none

/-- The chainage range (00, "Units"). -/
def chainageMax : Int := 2000000000

/-- The cab link port after a reset (R179): everything empty, then the MODE slot filled, then the
SEGMENTS_WANTED slot (R58), with detector chainage at P08, so that the wanted chainage is P08 + a_max + P36
(R52), held to the chainage range. -/
def Link.atReset (p : Params) (cause : ResetCause) (eventNo : Nat) : Link where
  assembler := .hunt
  lastByte := 0
  hold := false
  requests := []
  replies := []
  full := []
  modeSlot := some ⟨⟨.ready, .none, none, cause⟩, eventNo⟩
  condSlot := none
  segSlot := some ⟨⟨none, 32, 192, min chainageMax (p.p08 + max p.p01 p.p03 + p.p36)⟩, eventNo⟩
  tx := none
  restart := false
  supervision := none

/-- The whole controller at a reset, before the transmit arbitration of that instant: `params` are the
values the store loaded, `defaulted` says that the image was invalid (R183). What survives is the image,
the lines' present levels, the queue of commands and the model's own clock and counters. -/
def State.atReset (s : State) (params : Params) (defaulted : Bool) (cause : ResetCause) : State where
  pending := s.pending
  clock := s.clock
  eventNo := s.eventNo
  freeNext := s.freeNext
  powered := true
  params := params
  store := ⟨s.store.image, none⟩
  count := s.count.atReset
  pos := .atReset
  seg := ⟨[], true, false⟩
  slp := ⟨[], none, 1, none, [], false⟩
  eng := ⟨.idle, none⟩
  axes := ⟨.atReset, .atReset, .atReset⟩
  heads := ⟨.atReset params.p28 s.clock, .atReset params.p28 s.clock, .atReset params.p28 s.clock,
    .atReset params.p28 s.clock⟩
  headSet := 0b1111#4
  cyc := .atReset cause
  cond := .atReset defaulted
  link := .atReset params cause s.eventNo

/-- A line that stands low and is accepted low (DESIGN CHOICE, log 7). -/
def LineFilter.low : LineFilter := ⟨false, false, none⟩

/-- A channel at rest with both lines low. -/
def Channel.low : Channel := ⟨.low, .low, false, 0, false, 0, 0, false⟩

/-- The count unit with every line low (DESIGN CHOICE, log 7). -/
def CountUnit.low : CountUnit where
  odo := .low
  sat := .low
  lat := .low
  lvlL := .low
  lvlR := .low
  xl := .low
  depth := ⟨.low, .low, .low, .low⟩
  detector := .low
  pressure := ⟨.low, .low, .low, .low⟩

/-- The frame of the start-up MODE notice (R176, R185): kind C0h, tag 0, READY, halt cause NONE, detail
absent, reset cause POWER. -/
def startUpModeFrame : List Byte := frameBytes 0xC0 0 [0, 0, 0xFF, 0]

/-- The controller right after a power-on that found an image never written (log 8): the defaults are in
force and SETTINGS_DEFAULTED is set (R183), every block stands at its reset values, and of the two notices
of start-up the elder, MODE, has been taken for transmission at the same instant (R175, R179). The queue
of commands is empty. -/
def State.reset : State where
  pending := []
  clock := 0
  eventNo := 0
  freeNext := 0
  powered := true
  params := .defaults
  store := ⟨none, none⟩
  count := .low
  pos := .atReset
  seg := ⟨[], true, false⟩
  slp := ⟨[], none, 1, none, [], false⟩
  eng := ⟨.idle, none⟩
  axes := ⟨.atReset, .atReset, .atReset⟩
  heads := ⟨.atReset 3000 0, .atReset 3000 0, .atReset 3000 0, .atReset 3000 0⟩
  headSet := 0b1111#4
  cyc := .atReset .power
  cond := .atReset true
  link := { Link.atReset .defaults .power 0 with
    modeSlot := none
    tx := some ⟨.notice, startUpModeFrame, 0⟩ }

end Sys2Proof.Machine
end

