-- ==== Sys2Proof/Machine/Ops.lean ====
section
/-! DEFINITION. The named operations the blocks share: access by name, updates of one block of the state,
sets, time, readings and chainages. -/

namespace Sys2Proof.Machine

/-! ## Access by name -/

/-- The part of a unit. -/
def Four.get {α : Type} (x : Four α) : UnitId → α
  | .LO => x.LO
  | .LI => x.LI
  | .RI => x.RI
  | .RO => x.RO

/-- The same with one unit's part replaced. -/
def Four.set {α : Type} (x : Four α) (u : UnitId) (v : α) : Four α :=
  match u with
  | .LO => { x with LO := v }
  | .LI => { x with LI := v }
  | .RI => { x with RI := v }
  | .RO => { x with RO := v }

/-- The part of an axis. -/
def Three.get {α : Type} (x : Three α) : AxisId → α
  | .liftL => x.liftL
  | .liftR => x.liftR
  | .line => x.line

/-- The same with one axis's part replaced. -/
def Three.set {α : Type} (x : Three α) (a : AxisId) (v : α) : Three α :=
  match a with
  | .liftL => { x with liftL := v }
  | .liftR => { x with liftR := v }
  | .line => { x with line := v }

/-- The four units in their order (00, "Names and writing"). -/
def allUnits : List UnitId := [.LO, .LI, .RI, .RO]

/-- The three axes in their order. -/
def allAxes : List AxisId := [.liftL, .liftR, .line]

/-- The ten channels in the fixed order of the channel table of 01. -/
def allChannels : List ChannelId :=
  [.odo, .sat, .lat, .lvlL, .lvlR, .xl, .dep .LO, .dep .LI, .dep .RI, .dep .RO]

/-- A unit's number, 0 to 3 for LO to RO (code table of 11). -/
def unitNumber : UnitId → Nat
  | .LO => 0
  | .LI => 1
  | .RI => 2
  | .RO => 3

/-- A channel's number, 0 to 9 in the fixed order (R185). -/
def channelNumber : ChannelId → Nat
  | .odo => 0
  | .sat => 1
  | .lat => 2
  | .lvlL => 3
  | .lvlR => 4
  | .xl => 5
  | .dep u => 6 + unitNumber u

/-- The channel of a number (R185); R11 refuses a number that names none. -/
def channelOfNumber (n : Nat) : Option ChannelId := allChannels[n]?

/-- A flag's number in the table of 09. -/
def Flag.number : Flag → Nat
  | .highSpot => 1
  | .liftLimit => 2
  | .lineLimit => 3
  | .cantUnmet => 4
  | .overshoot => 5
  | .liftTimeout => 6
  | .lineTimeout => 7
  | .lineHunt => 8
  | .lowPressure => 9
  | .headBlocked => 10
  | .unplanned => 11
  | .skippedSleeper => 12
  | .channelFault => 13
  | .unitFault => 14
  | .detectReject => 15
  | .queueOverrun => 16
  | .segStarved => 17
  | .strokeLow => 18
  | .linkError => 19
  | .settingsDefaulted => 20

/-- One channel of the count unit. -/
def CountUnit.get (c : CountUnit) : ChannelId → Channel
  | .odo => c.odo
  | .sat => c.sat
  | .lat => c.lat
  | .lvlL => c.lvlL
  | .lvlR => c.lvlR
  | .xl => c.xl
  | .dep u => c.depth.get u

/-- The count unit with one channel replaced. -/
def CountUnit.set (c : CountUnit) (ch : ChannelId) (v : Channel) : CountUnit :=
  match ch with
  | .odo => { c with odo := v }
  | .sat => { c with sat := v }
  | .lat => { c with lat := v }
  | .lvlL => { c with lvlL := v }
  | .lvlR => { c with lvlR := v }
  | .xl => { c with xl := v }
  | .dep u => { c with depth := c.depth.set u v }

/-- The filter of a line. -/
def CountUnit.filter (c : CountUnit) : Line → LineFilter
  | .channelA ch => (c.get ch).a
  | .channelB ch => (c.get ch).b
  | .detector => c.detector
  | .pressure u => c.pressure.get u

/-- The count unit with one line's filter replaced. -/
def CountUnit.setFilter (c : CountUnit) (l : Line) (f : LineFilter) : CountUnit :=
  match l with
  | .channelA ch => c.set ch { c.get ch with a := f }
  | .channelB ch => c.set ch { c.get ch with b := f }
  | .detector => { c with detector := f }
  | .pressure u => { c with pressure := c.pressure.set u f }

/-! ## Sets -/

/-- Membership of a unit set. -/
def unitIn (u : UnitId) (s : UnitSet) : Bool := s.getLsbD (unitNumber u)

/-- The set of all four units. -/
def allUnitSet : UnitSet := 0b1111#4

/-- The set of the units that meet a test. -/
def unitsWhere (p : UnitId → Bool) : UnitSet :=
  (if p .LO then 1#4 else 0#4) ||| (if p .LI then 2#4 else 0#4)
    ||| (if p .RI then 4#4 else 0#4) ||| (if p .RO then 8#4 else 0#4)

/-- Membership of a flag set. -/
def flagIn (f : Flag) (s : FlagSet) : Bool := s.getLsbD (f.number - 1)

/-- A flag added to a set. -/
def flagAdd (f : Flag) (s : FlagSet) : FlagSet := s ||| BitVec.twoPow 20 (f.number - 1)

/-- Membership of a channel set. -/
def channelIn (c : ChannelId) (s : ChannelSet) : Bool := s.getLsbD (channelNumber c)

/-- The channels that meet a test, as the number the wire carries (R185). -/
def channelMask (p : ChannelId → Bool) : Nat :=
  allChannels.foldl (fun n c => if p c then n + 2 ^ channelNumber c else n) 0

/-! ## Updates of one block -/

/-- An update of the count unit. -/
def State.modCount (s : State) (f : CountUnit → CountUnit) : State := { s with count := f s.count }

/-- An update of the position unit. -/
def State.modPos (s : State) (f : Position → Position) : State := { s with pos := f s.pos }

/-- An update of the segment queue. -/
def State.modSeg (s : State) (f : SegmentQueue → SegmentQueue) : State := { s with seg := f s.seg }

/-- An update of the sleeper queue. -/
def State.modSlp (s : State) (f : SleeperQueue → SleeperQueue) : State := { s with slp := f s.slp }

/-- An update of the correction engine. -/
def State.modEng (s : State) (f : Engine → Engine) : State := { s with eng := f s.eng }

/-- An update of one axis. -/
def State.modAxis (s : State) (a : AxisId) (f : Axis → Axis) : State :=
  { s with axes := s.axes.set a (f (s.axes.get a)) }

/-- An update of one workhead unit. -/
def State.modHead (s : State) (u : UnitId) (f : Head → Head) : State :=
  { s with heads := s.heads.set u (f (s.heads.get u)) }

/-- An update of the cycle controller. -/
def State.modCyc (s : State) (f : Cycle → Cycle) : State := { s with cyc := f s.cyc }

/-- An update of the condition unit. -/
def State.modCond (s : State) (f : Conditions → Conditions) : State := { s with cond := f s.cond }

/-- An update of the cab link port. -/
def State.modLink (s : State) (f : Link → Link) : State := { s with link := f s.link }

/-- An update of the settings store. -/
def State.modStore (s : State) (f : Store → Store) : State := { s with store := f s.store }

/-- An update of the live parameter set. -/
def State.modParams (s : State) (f : Params → Params) : State := { s with params := f s.params }

/-! ## Time -/

/-- The beginning of a command that comes `dt` µs after the one before (log 1). -/
def State.beginAt (s : State) (dt : Nat) : State := { s with clock := s.clock + dt, eventNo := s.eventNo + 1 }

/-- The beginning of a command whose instant is `t`, or now where `t` has passed (log 2). -/
def State.beginBy (s : State) (t : Nat) : State := { s with clock := max s.clock t, eventNo := s.eventNo + 1 }

/-- The instant at which a running timer expires. -/
def Timer.ends (t : Timer) : Nat := t.started + 1000 * t.loaded

/-- A timer loaded now with a duration in ms. -/
def State.loadTimer (s : State) (ms : Nat) : Timer := ⟨ms, s.clock⟩

/-- One free choice between two orders (R30, R116; logs 10, 11), and the state with it used up. -/
def State.freeOrder (s : State) : Bool × State :=
  (Config.eitherOrder s.freeNext, { s with freeNext := s.freeNext + 1 })

/-- The 158 bytes an image is left with after a write that did not succeed (R182; free value, log 9). -/
def State.tornImage (s : State) : List Byte := (List.range 158).map (Config.tornByte s.freeNext)

/-! ## Readings (R7, R8) -/

/-- The pitch of a channel whose reading is in millimetres, in µm per count; `none` for a measuring
channel, whose scale is fixed (channel table of 01). -/
def channelPitch (p : Params) : ChannelId → Option Int
  | .sat => some p.p06
  | .dep _ => some p.p07
  | _ => none

/-- The reading of a channel other than ODO: absent unless it is nulled; floor division of the exact
product for SAT and the depth channels (R7), exact for the measuring channels (R8). -/
def reading (c : ChannelId) (s : State) : Option Int :=
  let ch := s.count.get c
  if ch.nulled then
    match channelPitch s.params c with
    | some pitch => some (ch.reference + (ch.count - ch.countAtNull) * pitch / 1000)
    | none => some (ch.reference + (ch.count - ch.countAtNull))
  else none

/-- A unit's depth, the reading of its depth channel (R7). -/
def depthOf (u : UnitId) (s : State) : Option Int := reading (.dep u) s

/-- The detector line is active: high unless P39 selects active low (R14). -/
def detectorActive (s : State) : Bool := s.count.detector.accepted != s.params.p39low

/-- A unit's pressure line is active: its accepted level is high (R15). -/
def pressureActive (u : UnitId) (s : State) : Bool := (s.count.pressure.get u).accepted

/-! ## Chainages (R17, R21, R22) -/

/-- A chainage held within the chainage range (R17, R21, R22). -/
def holdRange (x : Int) : Int := max (-chainageMax) (min chainageMax x)

/-- Frame chainage in micrometres (R17). -/
def frameMicrons (s : State) : Int :=
  s.pos.datum + (s.count.odo.count - s.pos.countAtDatum) * s.params.p05

/-- Frame chainage in millimetres (R17). -/
def frameChainage (s : State) : Int := holdRange (frameMicrons s / 1000)

/-- The satellite offset: the SAT reading, not clamped (R21). -/
def satOffset (s : State) : Option Int := reading .sat s

/-- Head chainage, absent while SAT is not nulled (R21). -/
def headChainage (s : State) : Option Int := (satOffset s).map fun o => holdRange (frameChainage s + o)

/-- Detector chainage (R22). -/
def detectorChainage (s : State) : Int := holdRange (frameChainage s + s.params.p08)

/-- The larger front arm, a_max (R52, R83). -/
def aMax (p : Params) : Int := max p.p01 p.p03

/-- The larger rear arm, b_max (R50, R83). -/
def bMax (p : Params) : Int := max p.p02 p.p04

/-- A notice slot filled: an empty slot takes the age given, a pending one keeps its own (R161). -/
def fillSlot {α : Type} (old : Option (Slot α)) (content : α) (age : Nat) : Option (Slot α) :=
  some ⟨content, match old with
    | some x => x.age
    | none => age⟩

end Sys2Proof.Machine
end

