-- ==== Sys2Proof/Machine/Flags.lean ====
section
/-! DEFINITION. The condition unit (09): the raising of a condition flag, its notice and the arming of an
orderly stop. What the cycle controller does with an armed stop stands in Machine/Halts.lean. -/

namespace Sys2Proof.Machine

/-- The filling of the CONDITION slot at a rising of `f` (R160, R161): the whole flag set as it stands, and
the raised set, which gathers the risings since the slot's content was last taken. -/
def fillCondition (f : Flag) (s : State) : State :=
  let raised := match s.link.condSlot with
    | some x => x.content.raised
    | none => 0
  s.modLink fun l => { l with condSlot := fillSlot l.condSlot ⟨s.cond.flags, flagAdd f raised⟩ s.eventNo }

/-- The arming of an orderly stop at a rising of `f` (R162): in WORK, where the flag is stop-enabled and no
stop is armed. -/
def armStop (f : Flag) (s : State) : State :=
  if flagIn f s.cond.stop && decide (s.cyc.mode = .work) && s.cond.armed.isNone then
    s.modCond fun c => { c with armed := some f }
  else s

/-- The raising of a condition flag (R159): on a rising, the CONDITION notice where it is notice-enabled
(R160) and the arming of a stop (R162); a raising that finds the flag set changes nothing. -/
def setFlag (f : Flag) (s : State) : State :=
  if flagIn f s.cond.flags then s
  else
    let risen := s.modCond fun c => { c with flags := flagAdd f c.flags }
    armStop f (if flagIn f s.cond.notice then fillCondition f risen else risen)

/-- The flag added to the flag set of the record IN_WORK, where there is one (R62, R117, R134). -/
def addRecordFlag (f : Flag) (s : State) : State :=
  s.modSlp fun q =>
    { q with records := q.records.map fun r =>
        if r.state = .inWork then { r with flags := flagAdd f r.flags } else r }

/-- The raising of a record flag by a block that does the record's work (R62): it enters the record IN_WORK,
where there is one, and the condition flag of the same name is set. -/
def recordFlag (f : Flag) (s : State) : State := setFlag f (addRecordFlag f s)

/-- The ANY summary (R159). -/
def anyFlag (c : Conditions) : Bool := c.flags != 0

end Sys2Proof.Machine
end

