-- ==== Sys2Proof/Machine/Position.lean ====
section
/-! DEFINITION. The position unit (02): the satellite drive and the travel governor. What the cycle
controller does on the drive's reports stands in Machine/Cycle.lean. -/

namespace Sys2Proof.Machine

/-- The drive's reports to the cycle controller (02, before R23). -/
inductive DriveReport where
  | arrived | outOfReach | holdLost | strokeEnd | channelLost
  deriving DecidableEq, Repr

/-- The states in which a unit permits fast satellite speeds (R24). -/
def permitsFast : HeadState → Bool
  | .up | .tilting | .parking | .faulted => true
  | _ => false

/-- Every unit permits fast satellite speeds (R24). -/
def allPermitFast (s : State) : Bool := allUnits.all fun u => permitsFast (s.heads.get u).state

/-- A fast command slowed (R24). -/
def slowed : DriveCommand → DriveCommand
  | .fwdFast => .fwdSlow
  | .backFast => .backSlow
  | c => c

/-- The intended command while INDEXING (R26). -/
def indexingCommand (slowZone head t : Int) : DriveCommand :=
  if head < t then (if t - head > slowZone then .fwdFast else .fwdSlow)
  else if head > t then (if head - t > slowZone then .backFast else .backSlow)
  else .stop

/-- The command while HOLDING (R28). -/
def holdingCommand (window head t : Int) : DriveCommand :=
  if head - t > window then .backSlow else if head - t < -window then .fwdSlow else .stop

/-- The stroke limit (R23). -/
def strokeLimited (stroke offset : Int) : DriveCommand → DriveCommand
  | .stop => .stop
  | .fwdFast => if offset ≥ stroke then .stop else .fwdFast
  | .fwdSlow => if offset ≥ stroke then .stop else .fwdSlow
  | .backFast => if offset ≤ 0 then .stop else .backFast
  | .backSlow => if offset ≤ 0 then .stop else .backSlow

/-- The command the drive places on its outputs in its present state (R23, R24, R26, R28). -/
def driveCommand (s : State) : DriveCommand :=
  match s.pos.drive, s.pos.target, headChainage s, satOffset s with
  | .indexing, some t, some h, some o =>
    let c := indexingCommand s.params.p13 h t
    strokeLimited s.params.p09 o (if allPermitFast s then c else slowed c)
  | .holding, some t, some h, some o => strokeLimited s.params.p09 o (holdingCommand s.params.p12 h t)
  | _, _, _, _ => .stop

/-- The drive's output re-determined in its present state (R23). -/
def refreshOutput (s : State) : State := s.modPos fun p => { p with output := driveCommand s }

/-! ## The travel governor -/

/-- The stroke term (R35), judged in WORK alone (R36). -/
def strokeTermOf (s : State) : Demand :=
  if s.cyc.mode = .work ∧ s.pos.drive = .holding then
    match satOffset s with
    | some o => if o ≤ s.params.p11 then .stop else if o ≤ s.params.p10 then .creep else .go
    | none => .go
  else .go

/-- The travel demand (R34, R35): GO in READY, STOP in PAUSED and HALTED, and in WORK the most restrictive
of the queue, design, stroke and base terms. -/
def demandOf (s : State) : Demand :=
  match s.cyc.mode with
  | .ready => .go
  | .paused => .stop
  | .halted => .stop
  | .work =>
    if s.slp.records.length ≥ 15 ∨ s.cyc.phase = .waitDesign then .stop else strokeTermOf s

/-- The changes of the stroke term that set STROKE_LOW (R36). -/
def tightened : Demand → Demand → Bool
  | .go, .creep => true
  | .go, .stop => true
  | .creep, .stop => true
  | _, _ => false

/-- The travel demand re-determined (R34), with STROKE_LOW where the stroke term tightens (R36). -/
def refreshDemand (s : State) : State :=
  let judged := s.modPos fun p => { p with demand := demandOf s, strokeTerm := strokeTermOf s }
  if tightened s.pos.strokeTerm (strokeTermOf s) then setFlag .strokeLow judged else judged

/-! ## Orders and re-determination -/

/-- The drive in RIDING with output STOP and its target absent, the report markers cleared: the release and
halt orders (R32), and the ends of R25, R27 and R31. The travel demand is re-determined (R34). -/
def rideDrive (s : State) : State :=
  refreshDemand
    (s.modPos fun p =>
      { p with drive := .riding, target := none, output := .stop, holdLost := false, strokeEnd := false })

/-- The entry into HOLDING with target `t` (R25, R26): the markers are cleared, ARRIVED is reported, and
the offset is judged, with STROKE_END after the ARRIVED where it is 0 or less (R30). -/
def enterHolding (t o : Int) (s : State) : State × List DriveReport :=
  let atEnd := decide (o ≤ 0)
  (refreshOutput
    (s.modPos fun p =>
      { p with drive := .holding, target := some t, holdLost := false, strokeEnd := atEnd }),
    if atEnd then [.arrived, .strokeEnd] else [.arrived])

/-- The index order with target `t`, judged at the instant it is taken by the table of R25. -/
def indexOrder (t : Int) (s : State) : State × List DriveReport :=
  match headChainage s, satOffset s with
  | some h, some o =>
    if t - frameChainage s < 0 then (rideDrive s, [.outOfReach])
    else if ((h - t).natAbs : Int) ≤ s.params.p12 then enterHolding t o s
    else (refreshOutput (s.modPos fun p => { p with drive := .indexing, target := some t }), [])
  | _, _ => (rideDrive s, [.channelLost])

/-- The reports of HOLDING that become due with the excursion beyond P14 and the offset at 0 or less
(R29, R30), each once while its marker stays set. Where both become due, their order is a free value
(R30, log 10). -/
def holdingReports (lost atEnd : Bool) (s : State) : State × List DriveReport :=
  let dueLost := lost && !s.pos.holdLost
  let dueEnd := atEnd && !s.pos.strokeEnd
  let marked := refreshOutput (s.modPos fun p => { p with holdLost := lost, strokeEnd := atEnd })
  match dueLost, dueEnd with
  | true, true =>
    let (lostFirst, s') := marked.freeOrder
    (s', if lostFirst then [.holdLost, .strokeEnd] else [.strokeEnd, .holdLost])
  | true, false => (marked, [.holdLost])
  | false, true => (marked, [.strokeEnd])
  | false, false => (marked, [])

/-- The re-determination of the drive (R23) with the transitions and reports its state calls for: reach is
judged before arrival while INDEXING (R26, R27; log 15), HOLD_LOST and STROKE_END while HOLDING (R29, R30).
With SAT not nulled the drive is RIDING, by R31. -/
def redetermine (s : State) : State × List DriveReport :=
  match s.pos.drive, s.pos.target, headChainage s, satOffset s with
  | .indexing, some t, some h, some o =>
    if t - frameChainage s < 0 then (rideDrive s, [.outOfReach])
    else if ((h - t).natAbs : Int) ≤ s.params.p12 then enterHolding t o s
    else (refreshOutput s, [])
  | .holding, some t, some h, some o =>
    holdingReports (decide (((h - t).natAbs : Int) > s.params.p14)) (decide (o ≤ 0)) s
  | _, _, _, _ => (refreshOutput s, [])

end Sys2Proof.Machine
end

