-- ==== Sys2Proof/Machine/Axes.lean ====
section
/-! DEFINITION. The three axes (06). -/

namespace Sys2Proof.Machine

/-- An axis's measuring channel (axis table of 06). -/
def axisChannel : AxisId → ChannelId
  | .liftL => .lvlL
  | .liftR => .lvlR
  | .line => .lat

/-- The reading an axis drives on. -/
def axisReading (a : AxisId) (s : State) : Option Int := reading (axisChannel a) s

/-- The settle time, 150 ms for all three axes (06, "The three axes"). -/
def settleTime : Nat := 150

/-- The drive outputs of the axes. -/
inductive AxisOutput where
  | raise | left | right
  deriving DecidableEq, Repr

/-- The drive output that is on (R105): one in MOVING with stage DRIVING, none otherwise. -/
def driveOutput (a : AxisId) (x : Axis) : Option AxisOutput :=
  if x.state = .moving ∧ x.stage = some .driving then
    match a, x.lastDir with
    | .line, some .left => some .left
    | .line, some .right => some .right
    | .line, none => none
    | _, _ => some .raise
  else none

/-- The float output (R105): on in IDLE alone. -/
def floatOn (x : Axis) : Bool := decide (x.state = .idle)

/-- The deadband in force for a motion: the one latched at its start (R108). -/
def deadbandOf (x : Axis) : Int :=
  match x.latched with
  | some l => l.deadband
  | none => 0

/-- The target versine, present while started. -/
def targetOf (x : Axis) : Int := x.target.getD 0

/-- The band of a lift axis (R109): readings at or below vt + P19. The band of LINE (R110): readings within
P20 of vt. -/
def inBand (a : AxisId) (vt deadband vm : Int) : Bool :=
  match a with
  | .line => decide (((vm - vt).natAbs : Int) ≤ deadband)
  | _ => decide (vm ≤ vt + deadband)

/-- The wanted direction of LINE outside its band (R110). -/
def wantedDir (vt vm : Int) : LineDir := if vm - vt > 0 then .left else .right

/-- The flag of a timeout while DRIVING (R112). -/
def timeoutFlag : AxisId → Flag
  | .line => .lineTimeout
  | _ => .liftTimeout

/-- The measuring of a lift's overshoot at an entry into HOLD or a CUT (R109): the larger of 0 and vt − vm,
with OVERSHOOT where it exceeds the latched deadband; 0 where the reading is absent. -/
def measureOvershoot (a : AxisId) (s : State) : State :=
  match a with
  | .line => s
  | _ =>
    let x := s.axes.get a
    match axisReading a s with
    | none => s.modAxis a fun x => { x with overshoot := some 0 }
    | some vm =>
      let excess := max 0 (targetOf x - vm)
      let measured := s.modAxis a fun x => { x with overshoot := some excess }
      if excess > deadbandOf x then recordFlag .overshoot measured else measured

/-- The entry into HOLD with an outcome: outputs off, timers stopped (R107, R109 to R112, R116). -/
def enterHold (a : AxisId) (outcome : AxisOutcome) (s : State) : State :=
  measureOvershoot a
    (s.modAxis a fun x =>
      { x with state := .hold, stage := none, motion := none, settle := none, outcome := some outcome })

/-- The prepare order, taken in IDLE (R106). -/
def prepareAxis (a : AxisId) (s : State) : State :=
  s.modAxis a fun x =>
    if x.state = .idle then
      { x with
        started := false
        released := false
        target := none
        latched := none
        outcome := none
        overshoot := none
        final := none
        lastDir := none
        reversals := 0 }
    else x

/-- The parameters an axis latches at its start (R107). -/
def axisLatch (a : AxisId) (p : Params) : AxisLatch :=
  match a with
  | .line => ⟨p.p20, p.p22, p.p23⟩
  | _ => ⟨p.p19, p.p21, 0⟩

/-- The entry into MOVING, stage DRIVING, with the motion timer started (R107). -/
def enterDriving (a : AxisId) (dir : Option LineDir) (s : State) : State :=
  s.modAxis a fun x =>
    { x with
      state := .moving
      stage := some .driving
      lastDir := dir
      motion := some (s.loadTimer (axisLatch a s.params).timeout) }

/-- An axis takes a start order (R107): it stands in IDLE and has not been started. -/
def takesStart (x : Axis) : Bool := decide (x.state = .idle) && !x.started

/-- The start order with target `vt` (R107), judged on the live reading. -/
def startAxis (a : AxisId) (vt : Int) (s : State) : State :=
  if takesStart (s.axes.get a) then
    let l := axisLatch a s.params
    let begun := s.modAxis a fun x => { x with started := true, target := some vt, latched := some l }
    match axisReading a s with
    | none => enterHold a .cut begun
    | some vm =>
      if inBand a vt l.deadband vm then enterHold a .reached begun
      else
        match a with
        | .line => enterDriving a (some (wantedDir vt vm)) begun
        | _ => enterDriving a none begun
  else s

/-- A reversal of LINE from SETTLING, judged against the latched limit (R111). -/
def judgeReversal (a : AxisId) (dir : LineDir) (s : State) : State :=
  let x := s.axes.get a
  let limit := match x.latched with
    | some l => l.reversalLimit
    | none => 0
  if x.reversals < limit then
    s.modAxis a fun x =>
      { x with stage := some .driving, settle := none, lastDir := some dir, reversals := x.reversals + 1 }
  else recordFlag .lineHunt (enterHold a .hunt s)

/-- The judgement of a MOVING axis at an accepted change of its reading (R109, R110). -/
def judgeAxis (a : AxisId) (s : State) : State :=
  let x := s.axes.get a
  if x.state = .moving then
    match axisReading a s, x.stage with
    | some vm, some .driving =>
      if inBand a (targetOf x) (deadbandOf x) vm then
        s.modAxis a fun x => { x with stage := some .settling, settle := some (s.loadTimer settleTime) }
      else s
    | some vm, some .settling =>
      if inBand a (targetOf x) (deadbandOf x) vm then s
      else
        match a with
        | .line =>
          let dir := wantedDir (targetOf x) vm
          if x.lastDir = some dir then
            s.modAxis a fun x => { x with stage := some .driving, settle := none }
          else judgeReversal a dir s
        | _ => s.modAxis a fun x => { x with stage := some .driving, settle := none }
    | _, _ => s
  else s

/-- The expiry of a motion timer (R112): TIMEOUT with its flag while DRIVING, REACHED while SETTLING. -/
def timeOutAxis (a : AxisId) (s : State) : State :=
  if (s.axes.get a).stage = some .settling then enterHold a .reached s
  else recordFlag (timeoutFlag a) (enterHold a .timeout s)

/-- The loss of an axis's channel (R116): a MOVING axis goes to HOLD with outcome CUT. -/
def cutAxis (a : AxisId) (s : State) : State :=
  if (s.axes.get a).state = .moving then enterHold a .cut s else s

/-! ## Release (R114) -/

/-- Some workhead unit is SQUEEZING. -/
def anySqueezing (s : State) : Bool := allUnits.any fun u => decide ((s.heads.get u).state = .squeezing)

/-- The return to IDLE with the final versine recorded (R114). -/
def finishRelease (a : AxisId) (s : State) : State :=
  s.modAxis a fun x =>
    { x with
      state := .idle
      stage := none
      motion := none
      settle := none
      final := axisReading a s
      released := true
      releasePending := false }

/-- The release taken by one axis, by the table of R114. -/
def takeRelease (a : AxisId) (s : State) : State :=
  match (s.axes.get a).state with
  | .moving => finishRelease a (measureOvershoot a (s.modAxis a fun x => { x with outcome := some .cut }))
  | .hold => finishRelease a s
  | .idle => s.modAxis a fun x => { x with releasePending := false }

/-- The release order given to one axis: taken at once if no unit is SQUEEZING, held pending otherwise
(R114). -/
def releaseAxis (a : AxisId) (s : State) : State :=
  if anySqueezing s then s.modAxis a fun x => { x with releasePending := true } else takeRelease a s

/-- The release order given to all three axes. -/
def releaseAxes (s : State) : State := allAxes.foldl (fun s a => releaseAxis a s) s

/-- The pending releases taken, once no unit is SQUEEZING (R114). -/
def settleReleases (s : State) : State :=
  if anySqueezing s then s
  else allAxes.foldl (fun s a => if (s.axes.get a).releasePending then takeRelease a s else s) s

/-- All three axes stand in HOLD and none holds a release pending (R124). -/
def gateOpen (s : State) : Bool :=
  allAxes.all fun a => decide ((s.axes.get a).state = .hold) && !(s.axes.get a).releasePending

/-- All three axes stand in IDLE (R144, R153). -/
def axesIdle (s : State) : Bool := allAxes.all fun a => decide ((s.axes.get a).state = .idle)

/-- The report of one axis on the record in work (R118). -/
def axisReport (a : AxisId) (s : State) : AxisReport :=
  let x := s.axes.get a
  let lift := decide (a ≠ .line)
  if x.started then
    match x.state with
    | .moving =>
      { outcome := some .cut
        final := axisReading a s
        overshoot := if lift then some (match axisReading a s with
          | some vm => max 0 (targetOf x - vm)
          | none => 0) else none
        reversals := if lift then none else some x.reversals }
    | .hold =>
      { outcome := x.outcome
        final := axisReading a s
        overshoot := if lift then x.overshoot else none
        reversals := if lift then none else some x.reversals }
    | .idle =>
      { outcome := x.outcome
        final := x.final
        overshoot := if lift then x.overshoot else none
        reversals := if lift then none else some x.reversals }
  else .absent

end Sys2Proof.Machine
end

