-- ==== Sys2Proof/Machine/Workheads.lean ====
section
/-! DEFINITION. The four workhead units (07). Their report UNIT_STUCK and what the cycle controller does
with it stand in Machine/Cycle.lean. -/

namespace Sys2Proof.Machine

/-- The five valve outputs of a unit. -/
structure Valves where
  lower : Bool
  raise : Bool
  squeeze : Bool
  spread : Bool
  tilt : Bool
  deriving DecidableEq, Repr

/-- The valve combination of a unit (R120); `spread` is the OPEN output. -/
def valves (h : Head) : Valves where
  lower := decide (h.state = .lowering)
  raise := decide (h.state = .parking) || decide (h.state = .raising)
  squeeze := decide (h.state = .squeezing)
  spread := decide (h.state = .opening)
  tilt := h.tilted

/-! ## Down into the ballast and through the insertion train -/

/-- The entry into OPENING, with P30 loaded (R127). -/
def enterOpening (u : UnitId) (s : State) : State :=
  s.modHead u fun h => { h with state := .opening, timer := some (s.loadTimer s.params.p30) }

/-- The end of a squeeze phase (R125): one insertion counted, OPENING entered, and LOW_PRESSURE where no
pressure was seen. -/
def endPhase (u : UnitId) (s : State) : State :=
  let counted := s.modHead u fun h => { h with report := { h.report with insertions := h.report.insertions + 1 } }
  let opened := enterOpening u counted
  if (s.heads.get u).pressureSeen then opened else recordFlag .lowPressure opened

/-- Pressure seen in a squeeze phase (R125): counted once a phase, and the end of the phase in PRESSURE
mode. Outside SQUEEZING, or seen already, it has no effect. -/
def seePressure (u : UnitId) (s : State) : State :=
  let h := s.heads.get u
  if h.state = .squeezing ∧ h.pressureSeen = false then
    let seen := s.modHead u fun h =>
      { h with pressureSeen := true, report := { h.report with pressureCount := h.report.pressureCount + 1 } }
    if h.squeezeMode = .pressure then endPhase u seen else seen
  else s

/-- The entry into SQUEEZING (R125): P29 loaded, P31 latched, and the pressure line judged. -/
def enterSqueezing (u : UnitId) (s : State) : State :=
  let begun := s.modHead u fun h =>
    { h with
      state := .squeezing
      timer := some (s.loadTimer s.params.p29)
      squeezeMode := s.params.p31
      pressureSeen := false }
  if pressureActive u s then seePressure u begun else begun

/-- The squeeze gate judged for one unit (R124). -/
def judgeGate (u : UnitId) (s : State) : State :=
  if (s.heads.get u).state = .inserted ∧ gateOpen s = true then enterSqueezing u s else s

/-- The squeeze gate judged for all four units, at an entry of an axis into HOLD (R124). -/
def openGate (s : State) : State := allUnits.foldl (fun s u => judgeGate u s) s

/-- The entry into INSERTED, which judges the gate (R123, R124). -/
def enterInserted (u : UnitId) (s : State) : State :=
  judgeGate u (s.modHead u fun h => { h with state := .inserted, timer := none })

/-- The judgement of a LOWERING unit's depth against its target (R123). -/
def judgeLowering (u : UnitId) (s : State) : State :=
  match depthOf u s, (s.heads.get u).plan with
  | some d, some p => if d ≥ p.depth then enterInserted u s else s
  | _, _ => s

/-- The entry into LOWERING, with P27 loaded and the depth judged (R123). -/
def enterLowering (u : UnitId) (s : State) : State :=
  judgeLowering u
    (s.modHead u fun h => { h with state := .lowering, timer := some (s.loadTimer s.params.p27) })

/-- The entry into TILTING (R122): the tilt position becomes the wanted tilt, P32 loaded. -/
def enterTilting (u : UnitId) (tilted : Bool) (s : State) : State :=
  s.modHead u fun h =>
    { h with state := .tilting, tilted := tilted, timer := some (s.loadTimer s.params.p32) }

/-- The lower order of a plan (R121): participated set, deepest depth set to the present depth, and TILTING
or LOWERING entered. -/
def takeLower (u : UnitId) (p : HeadPlan) (s : State) : State :=
  let joined := s.modHead u fun h =>
    { h with report := { h.report with participated := true, deepest := depthOf u s } }
  if p.tilted = (s.heads.get u).tilted then enterLowering u joined else enterTilting u p.tilted joined

/-- The entry into UP, at which a pending lower is taken (R121, R128). -/
def enterUp (u : UnitId) (s : State) : State :=
  let h := s.heads.get u
  let up := s.modHead u fun h =>
    { h with state := .up, stage := none, timer := none, latched := none, pendingLower := false }
  match h.plan with
  | some p => if h.pendingLower then takeLower u p up else up
  | none => up

/-! ## Raising -/

/-- The judgement of a raising unit's depth against the latched top depth, in stages NORMAL and STUCK (R128,
R129). -/
def judgeRaising (u : UnitId) (s : State) : State :=
  match depthOf u s, (s.heads.get u).latched with
  | some d, some l => if d ≤ l.top then enterUp u s else s
  | _, _ => s

/-- The entry into RAISING, stage NORMAL, with P28 loaded, P25 and P26 latched and the depth judged
(R128). -/
def enterRaising (u : UnitId) (s : State) : State :=
  judgeRaising u
    (s.modHead u fun h =>
      { h with
        state := .raising
        stage := some .normal
        timer := some (s.loadTimer s.params.p28)
        latched := some ⟨s.params.p25, s.params.p26⟩ })

/-- The entry into stage BLIND, with P28 loaded (R131). The abort marker stays as it is (DESIGN CHOICE,
log 43). -/
def enterBlind (u : UnitId) (s : State) : State :=
  s.modHead u fun h =>
    { h with
      state := .raising
      stage := some .blind
      timer := some (s.loadTimer s.params.p28)
      latched := if h.state = .raising then h.latched else some ⟨s.params.p25, s.params.p26⟩ }

/-- The entry into FAULTED (R130, R131, R137): the phase timer stopped, the tilt position kept. -/
def enterFaulted (u : UnitId) (s : State) : State :=
  s.modHead u fun h => { h with state := .faulted, stage := none, timer := none, latched := none }

/-- The faulted field set, a pending lower dropped and UNIT_FAULT raised (R130). -/
def markFaulted (u : UnitId) (s : State) : State :=
  setFlag .unitFault
    (s.modHead u fun h => { h with pendingLower := false, report := { h.report with faulted := true } })

/-- The loss of a unit's depth channel, by the table of R130. A PARKING unit goes on parking, its timer with
it (log 32). -/
def loseDepth (u : UnitId) (s : State) : State :=
  let h := s.heads.get u
  match h.state with
  | .parking => markFaulted u s
  | .up => markFaulted u (enterFaulted u s)
  | .raising => if h.stage = some .blind then s else markFaulted u (enterBlind u s)
  | .faulted => s
  | .tilting => markFaulted u (enterBlind u s)
  | .lowering => markFaulted u (enterBlind u s)
  | .inserted => markFaulted u (enterBlind u s)
  | .squeezing => markFaulted u (enterBlind u s)
  | .opening => markFaulted u (enterBlind u s)

/-- The deepest depth raised to a greater reading, from the lower order on (R133). -/
def deepen (u : UnitId) (s : State) : State :=
  match depthOf u s with
  | some d =>
    s.modHead u fun h =>
      if h.report.participated then
        { h with report := { h.report with deepest := some (match h.report.deepest with
            | some old => max old d
            | none => d) } }
      else h
  | none => s

/-- An accepted change of a unit's depth (R123, R128, R129, R133). -/
def changeDepth (u : UnitId) (s : State) : State :=
  let s := deepen u s
  let h := s.heads.get u
  match h.state, h.stage with
  | .lowering, _ => judgeLowering u s
  | .raising, some .normal => judgeRaising u s
  | .raising, some .stuck => judgeRaising u s
  | _, _ => s

/-! ## Orders -/

/-- The arrival order to one unit, with its plan or without (R121). -/
def arrivalOrder (u : UnitId) (plan : Option HeadPlan) (s : State) : State :=
  let cleared := s.modHead u fun h => { h with report := .cleared, pendingLower := false, plan := plan }
  match plan with
  | none => cleared
  | some p =>
    let h := s.heads.get u
    match h.state, h.stage with
    | .up, _ =>
      if (depthOf u s).isSome then takeLower u p cleared else markFaulted u (enterFaulted u cleared)
    | .raising, some .normal => cleared.modHead u fun h => { h with pendingLower := true }
    | _, _ => cleared

/-- The abort order to one unit, by the table of R132. -/
def abortHead (u : UnitId) (s : State) : State :=
  match (s.heads.get u).state with
  | .lowering => enterRaising u s
  | .inserted => enterRaising u s
  | .squeezing => enterOpening u (s.modHead u fun h => { h with abort := true })
  | .opening => s.modHead u fun h => { h with abort := true }
  | .tilting => s.modHead u fun h => { h with abort := true }
  | .raising => s.modHead u fun h => { h with pendingLower := false }
  | .up => s
  | .parking => s
  | .faulted => s

/-- The abort order to all four units. -/
def abortHeads (s : State) : State := allUnits.foldl (fun s u => abortHead u s) s

/-! ## Timer expiries -/

/-- The expiry of a tilt (R122). -/
def endTilt (u : UnitId) (s : State) : State :=
  if (s.heads.get u).abort then enterUp u (s.modHead u fun h => { h with abort := false })
  else enterLowering u s

/-- The expiry of a lower timer (R123): the head is blocked and rises. -/
def blockHead (u : UnitId) (s : State) : State :=
  recordFlag .headBlocked
    (enterRaising u (s.modHead u fun h => { h with report := { h.report with blocked := true } }))

/-- The expiry of an opening, by the table of R127. -/
def endOpening (u : UnitId) (s : State) : State :=
  let h := s.heads.get u
  let planned := match h.plan with
    | some p => p.insertions
    | none => 0
  if h.abort then enterRaising u (s.modHead u fun h => { h with abort := false })
  else if h.report.insertions < planned then enterInserted u s
  else enterRaising u s

/-- The stage STUCK (R129): RAISE stays on and the phase timer is stopped. -/
def enterStuck (u : UnitId) (s : State) : State :=
  s.modHead u fun h => { h with stage := some .stuck, timer := none }

/-- A raise that has timed out finds the head clear of the ballast: its depth is the latched P25 or less
(R128). -/
def clearAtTimeout (u : UnitId) (s : State) : Bool :=
  match depthOf u s, (s.heads.get u).latched with
  | some d, some l => decide (d ≤ l.clear)
  | _, _ => false

/-- The expiry of a parking raise (R137). -/
def endParking (u : UnitId) (s : State) : State :=
  if (s.count.get (.dep u)).fault then setFlag .unitFault (enterFaulted u s) else enterUp u s

/-- A unit's depth channel has been nulled: a FAULTED unit returns to UP (R131). -/
def restoreHead (u : UnitId) (s : State) : State :=
  if (s.heads.get u).state = .faulted then s.modHead u fun h => { h with state := .up } else s

end Sys2Proof.Machine
end

