-- ==== Sys2Proof/Machine/Records.lean ====
section
/-! DEFINITION. The sleeper records (04, "The sleeper record"): finding them and finishing them. -/

namespace Sys2Proof.Machine

/-- A record is finished in state DONE, SKIPPED or ABORTED (00, "Terms"). -/
def RecordState.finished : RecordState → Bool
  | .done => true
  | .skipped => true
  | .aborted => true
  | .queued => false
  | .designed => false
  | .inWork => false

/-- The first unfinished record (R61). -/
def firstUnfinished (s : State) : Option Sleeper := s.slp.records.find? fun r => !r.state.finished

/-- The oldest QUEUED record, which is the one of lowest chainage (R82). -/
def oldestQueued (s : State) : Option Sleeper := s.slp.records.find? fun r => decide (r.state = .queued)

/-- The unfinished record of a sequence number. A record that stays in transmission after a JOB_CLEAR may
carry the same number, but it is finished (R78). -/
def unfinishedRecord (seq : Nat) (s : State) : Option Sleeper :=
  s.slp.records.find? fun r => !r.state.finished && decide (r.seq = seq)

/-- The cycle controller's current record. -/
def currentRecord (s : State) : Option Sleeper :=
  match s.cyc.current with
  | some seq => unfinishedRecord seq s
  | none => none

/-- The unfinished record of a sequence number changed. -/
def modRecord (seq : Nat) (f : Sleeper → Sleeper) (s : State) : State :=
  s.modSlp fun q =>
    { q with records := q.records.map fun r => if !r.state.finished && decide (r.seq = seq) then f r else r }

/-- The default plan (04, after the record table): all four units, no tilt, one insertion, offset 0. -/
def planTamp (r : Sleeper) : UnitSet :=
  match r.plan with
  | some p => p.tamp
  | none => allUnitSet

/-- The plan a unit takes with the arrival order (R121, R151): the wanted tilt, P24 plus the depth offset,
and the insertions, or those of the default plan. -/
def headPlan (u : UnitId) (r : Sleeper) (s : State) : HeadPlan :=
  match r.plan with
  | some p => ⟨unitIn u p.tilt, s.params.p24 + p.depthOffset, p.insertions⟩
  | none => ⟨false, s.params.p24, 1⟩

/-- A record is IN_WORK and is the current record (R157). -/
def recordInWork (s : State) : Bool :=
  match currentRecord s with
  | some r => decide (r.state = .inWork)
  | none => false

/-- The stopwatch's value in whole milliseconds, rounded down, held at 65,535 as a cycle time (R153). -/
def cycleTime (s : State) : Nat :=
  match s.cyc.stopwatch with
  | some t => min 65535 ((s.clock - t) / 1000)
  | none => 0

/-- The result part of a record that was worked, from the reports as they stand (R153, R156). -/
def workedResult (flags : FlagSet) (s : State) : ResultPart where
  active := s.cyc.active.getD 0
  axes := ⟨axisReport .liftL s, axisReport .liftR s, axisReport .line s⟩
  units := ⟨s.heads.LO.report, s.heads.LI.report, s.heads.RI.report, s.heads.RO.report⟩
  cycleTime := cycleTime s
  skip := none
  flags := flags

/-- The result part of a skipped record (R148). -/
def skippedResult (active : UnitSet) (reason : SkipReason) (flags : FlagSet) : ResultPart where
  active := active
  axes := ⟨.absent, .absent, .absent⟩
  units := ⟨.cleared, .cleared, .cleared, .cleared⟩
  cycleTime := 0
  skip := some reason
  flags := flags

end Sys2Proof.Machine
end

