-- ==== Sys2Proof/Machine/Halts.lean ====
section
/-! DEFINITION. Changes of mode (R140, R158) and the orderly halt (R157). -/

namespace Sys2Proof.Machine

/-- The filling of the MODE slot with the mode, the last halt cause and detail, and the reset cause (R158,
R165). -/
def fillMode (s : State) : State :=
  s.modLink fun l =>
    { l with modeSlot := fillSlot l.modeSlot ⟨s.cyc.mode, s.cyc.cause, s.cyc.detail, s.cyc.resetCause⟩ s.eventNo }

/-- The cycle controller's part of a change of mode: in WORK the phase is SEEK; outside it the phase is NONE;
the current record and active set are absent and the stopwatch stops (R140). Pause-pending is cleared on
entering WORK (R141), PAUSED (R142) and HALTED (R155, R157). -/
def modeCycle (m : Mode) (c : Cycle) : Cycle :=
  { c with
    mode := m
    phase := if m = .work then .seek else .none
    pausePending := if m = .ready then c.pausePending else false
    current := none
    active := none
    stopwatch := none }

/-- A change of mode (R140), with all that follows it at that instant: an armed stop is dropped in PAUSED and
HALTED (R142, R155, R157), an open detection is abandoned and its held bearers released in HALTED (R64,
R72), the starved state is reset outside WORK (R55), the MODE slot is filled (R158) and the travel demand is
re-determined (R34). -/
def enterMode (m : Mode) (s : State) : State :=
  let changed := s.modCyc (modeCycle m)
  let unarmed := changed.modCond fun c =>
    { c with armed := if m = .paused ∨ m = .halted then none else c.armed }
  let detached := unarmed.modSlp fun q =>
    if m = .halted then { q with detection := none, held := [] } else q
  let fed := detached.modSeg fun q => { q with starved := if m = .work then q.starved else false }
  refreshDemand (fillMode fed)

/-- The three orders of a halt (R155, R157): the halt order to the satellite drive, the abort order to the
units and the release order to the axes. Given in this order, every release is taken at once; R114 and R155
give the same end in the other order. -/
def haltOrders (s : State) : State := releaseAxes (abortHeads (rideDrive s))

/-- The cause and detail of a halt recorded, and the mode changed to HALTED (R155, R157). -/
def enterHalted (cause : HaltCause) (detail : Option Detail) (s : State) : State :=
  enterMode .halted (s.modCyc fun c => { c with cause := cause, detail := detail })

/-- The orderly halt on the armed flag (R157). -/
def orderlyHalt (f : Flag) (s : State) : State :=
  haltOrders (enterHalted .flagStop (some (.flag f)) s)

/-- The phases in which an armed stop is acted on at once, since no record is IN_WORK (R157). -/
def stopsAtOnce : Phase → Bool
  | .seek => true
  | .waitDesign => true
  | .indexing => true
  | _ => false

/-- What the cycle controller does with an armed stop by its phase (R157): the orderly halt at once where no
record is IN_WORK; otherwise the stop waits for the end of CLEARING. -/
def actOnStop (s : State) : State :=
  match s.cond.armed with
  | some f => if s.cyc.mode = .work ∧ stopsAtOnce s.cyc.phase = true then orderlyHalt f s else s
  | none => s

/-- A change of cycle phase, with the travel demand re-determined (R34). -/
def setPhase (p : Phase) (s : State) : State := refreshDemand (s.modCyc fun c => { c with phase := p })

/-- The raising of a flag outside the work on a record, and what an armed stop does at once (R159, R157). -/
def raiseFlag (f : Flag) (s : State) : State := actOnStop (setFlag f s)

end Sys2Proof.Machine
end

