-- ==== Sys2Proof/Machine/Segments.lean ====
section
/-! DEFINITION. The segment queue (03): the window of segments, its rear bound, retirement, look-ahead and
starvation. -/

namespace Sys2Proof.Machine

/-- The most segments held (R40). -/
def maxSegments : Nat := 32

/-- The bearer entries of the pool (R40). -/
def poolSize : Nat := 192

/-- The end of a segment: its start plus its length (R38). -/
def Segment.endAt (g : Segment) : Int := g.start + g.length

/-- The queue start (R41). -/
def queueStart (segs : List Segment) : Option Int := segs.head?.map (·.start)

/-- The queue end (R41). -/
def queueEnd (segs : List Segment) : Option Int := segs.getLast?.map Segment.endAt

/-- The number of bearer entries held (R40). -/
def bearersHeld (segs : List Segment) : Nat := (segs.map fun g => g.bearers.length).sum

/-- The number of free pool entries. -/
def freeEntries (segs : List Segment) : Nat := poolSize - bearersHeld segs

/-- The segment at a chainage (R38): the one whose start is at or below it and whose end lies above it; at
the queue end, the last one. -/
def segmentAt (segs : List Segment) (x : Int) : Option Segment :=
  match segs.find? fun g => decide (g.start ≤ x ∧ x < g.endAt) with
  | some g => some g
  | none => segs.getLast?.filter fun g => decide (g.endAt = x)

/-- The stretch from `p` to `q` is covered (R41). -/
def covered (segs : List Segment) (p q : Int) : Bool :=
  match queueStart segs, queueEnd segs with
  | some a, some b => decide (a ≤ p ∧ q ≤ b)
  | _, _ => false

/-- The rear bound (R50), exact and not held to the chainage range. -/
def rearBound (s : State) : Int :=
  match oldestQueued s with
  | some r => min (detectorChainage s) r.chainage - bMax s.params
  | none => detectorChainage s - bMax s.params

/-- The leading segments that end at or below the rear bound retired, with their bearers (R51). -/
def retireSegments (s : State) : State :=
  s.modSeg fun q => { q with segments := q.segments.dropWhile fun g => decide (g.endAt ≤ rearBound s) }

/-- The wanted chainage before it is held to the range: detector chainage plus a_max plus P36 (R52). -/
def wantedReach (s : State) : Int := detectorChainage s + aMax s.params + s.params.p36

/-- The look-ahead condition (R52). -/
def lookAheadHolds (s : State) : Bool :=
  decide (s.seg.segments.length < maxSegments) &&
    match queueEnd s.seg.segments with
    | some e => decide (e < wantedReach s)
    | none => true

/-- The filling of the SEGMENTS_WANTED slot (R53). -/
def fillWanted (s : State) : State :=
  s.modLink fun l =>
    { l with segSlot :=
        fillSlot l.segSlot ⟨queueEnd s.seg.segments, maxSegments - s.seg.segments.length,
          freeEntries s.seg.segments, min chainageMax (wantedReach s)⟩ s.eventNo }

/-- The look-ahead condition judged (R52): the slot is filled where it becomes true, and after an accepted
append (`appended`) where it holds (R53). -/
def judgeLookAhead (appended : Bool) (s : State) : State :=
  let holds := lookAheadHolds s
  let filled := if holds && (appended || !s.seg.lookAhead) then fillWanted s else s
  filled.modSeg fun q => { q with lookAhead := holds }

/-- The queue is starved: empty, or detector chainage above its end (R55). -/
def isStarved (s : State) : Bool :=
  match queueEnd s.seg.segments with
  | some e => decide (detectorChainage s > e)
  | none => true

/-- The starved state judged, in WORK alone (R55): SEG_STARVED is set where the queue becomes starved. -/
def judgeStarved (s : State) : State :=
  if s.cyc.mode = .work then
    let marked := s.modSeg fun q => { q with starved := isStarved s }
    if isStarved s && !s.seg.starved then setFlag .segStarved marked else marked
  else s

/-- The judgements of the segment queue at an event that changes one of their terms: the rear bound with
retirement (R50, R51), the look-ahead condition (R52) and the starved state (R55). Retirement comes first, so
that a SEGMENTS_WANTED notice filled at the same instant carries the counts after it (DESIGN CHOICE, log 40). -/
def judgeSegments (s : State) : State := actOnStop (judgeStarved (judgeLookAhead false (retireSegments s)))

/-! ## Waiting bearers -/

/-- The WAITING bearer of a chainage, with the segment that holds it. No two held bearers have the same
chainage (R40). -/
def waitingBearer (c : Int) (segs : List Segment) : Option (Segment × Bearer) :=
  segs.findSome? fun g =>
    (g.bearers.find? fun b => !b.consumed && decide (b.chainage = c)).map fun b => (g, b)

/-- A bearer becomes CONSUMED (R39). -/
def consumeBearer (c : Int) (s : State) : State :=
  s.modSeg fun q =>
    { q with segments := q.segments.map fun g =>
        { g with bearers := g.bearers.map fun b =>
            if b.chainage = c then { b with consumed := true } else b } }

/-- The plan of a bearer, with the id of its segment (R68, R73). -/
def bearerPlan (g : Segment) (b : Bearer) : Plan := ⟨b.tamp, b.tilt, b.insertions, b.depthOffset, g.id⟩

/-- The chainages of the WAITING bearers in ascending order (R40). -/
def waitingChainages (segs : List Segment) : List Int :=
  segs.flatMap fun g => (g.bearers.filter fun b => !b.consumed).map (·.chainage)

end Sys2Proof.Machine
end

