-- ==== Sys2Proof/Machine/Correction.lean ====
section
/-! DEFINITION. The arithmetic of the correction engine (05, R92 to R104): exact sums, rounded once. -/

namespace Sys2Proof.Machine

/-- The quotient rounded to the nearest whole number, halves away from zero (R92); `d` is positive. -/
def roundDiv (n d : Int) : Int :=
  if n ≥ 0 then (2 * n + d) / (2 * d) else -((-(2 * n) + d) / (2 * d))

/-- The exact sum of two rationals (R93). -/
def Ratio.add (a b : Ratio) : Ratio :=
  if a.den = b.den then ⟨a.num + b.num, a.den⟩ else ⟨a.num * b.den + b.num * a.den, a.den * b.den⟩

/-- A rational rounded (R92). -/
def Ratio.rounded (r : Ratio) : Int := roundDiv r.num r.den

/-! ## Chords -/

/-- One piece of a chord, within one segment (R94): from `lo` to `hi` (chainages), with the curvatures at
its two ends as numerators over `den`, the segment's length. -/
structure Piece where
  lo : Int
  hi : Int
  k0 : Int
  k1 : Int
  den : Int
  deriving DecidableEq, Repr

/-- A linear value at distance `u` from the start of a segment of length `L`, times `L` (R38). -/
def linearAt (v0 v1 L u : Int) : Int := v0 * L + (v1 - v0) * u

/-- The piece of a segment between two chainages inside it, for the curvature with end values `v0` and
`v1`. -/
def segmentPiece (g : Segment) (v0 v1 lo hi : Int) : Piece where
  lo := lo
  hi := hi
  k0 := linearAt v0 v1 g.length (lo - g.start)
  k1 := linearAt v0 v1 g.length (hi - g.start)
  den := g.length

/-- The pieces of one segment under the chord from `rear` to `front` with middle point `mid` (R94). -/
def piecesOf (v0 v1 : Segment → Int) (rear mid front : Int) (g : Segment) : List Piece :=
  let lo := max g.start rear
  let hi := min g.endAt front
  if lo < hi then
    if lo < mid ∧ mid < hi then
      [segmentPiece g (v0 g) (v1 g) lo mid, segmentPiece g (v0 g) (v1 g) mid hi]
    else [segmentPiece g (v0 g) (v1 g) lo hi]
  else []

/-- The pieces of a chord in ascending order (R94). -/
def chordPieces (v0 v1 : Segment → Int) (rear mid front : Int) (segs : List Segment) : List Piece :=
  segs.flatMap (piecesOf v0 v1 rear mid front)

/-- The contribution of a piece to the sum at chainage `x` (R95), with h the piece's length and w the
distance from its lower end to `x`. -/
def contribution (x : Int) (p : Piece) : Ratio :=
  let h := p.hi - p.lo
  let w := x - p.lo
  ⟨h * (3 * p.k0 * (2 * w - h) + (p.k1 - p.k0) * (3 * w - 2 * h)), p.den⟩

/-- Σ at chainage `x`: the contributions of the pieces that lie before `x` (R95). -/
def sigma (pieces : List Piece) (x : Int) : Ratio :=
  (pieces.filter fun p => decide (p.hi ≤ x)).foldl (fun acc p => acc.add (contribution x p)) ⟨0, 1⟩

/-- The design versine of a chord with arms `a` and `b` from its two sums (R96), rounded. -/
def versine (a b : Int) (sumB sumAB : Ratio) : Int :=
  roundDiv (b * sumAB.num * sumB.den - (a + b) * sumB.num * sumAB.den)
    ((a + b) * 60000000 * (sumAB.den * sumB.den))

/-- The sums of a chord at a sleeper (R94, R95): Σ(b) at the middle point and Σ(a + b) at the front point. -/
def chordSums (v0 v1 : Segment → Int) (a b c : Int) (segs : List Segment) : Ratio × Ratio :=
  let pieces := chordPieces v0 v1 (c - b) c (c + a) segs
  (sigma pieces c, sigma pieces (c + a))

/-- The working sums of a design pass (R94, R95). -/
def designSums (arms : Arms) (c : Int) (segs : List Segment) : DesignSums :=
  let lat := chordSums (·.kh0) (·.kh1) arms.p01 arms.p02 c segs
  let lvl := chordSums (·.kv0) (·.kv1) arms.p03 arms.p04 c segs
  ⟨lat.1, lat.2, lvl.1, lvl.2⟩

/-- The design cant at a chainage of a segment, in 0.01 mm, rounded (R97). -/
def cantAt (g : Segment) (c : Int) : Int :=
  roundDiv (10 * linearAt g.cant0 g.cant1 g.length (c - g.start)) g.length

/-- A front error at a chainage of a segment (R98): rounded, and 0 where there is no survey part. -/
def frontError (v0 v1 : Survey → Int) (g : Option Segment) (x : Int) : Int :=
  match g with
  | none => 0
  | some g =>
    match g.survey with
    | none => 0
    | some v => roundDiv (linearAt (v0 v) (v1 v) g.length (x - g.start)) g.length

/-- The design part a design pass writes (R87, R96 to R98), from its inputs and its sums. -/
def designPart (p : DesignPass) : DesignPart :=
  let here := segmentAt p.segments p.chainage
  { dLat := versine p.arms.p01 p.arms.p02 p.sums.latB p.sums.latAB
    dLvl := versine p.arms.p03 p.arms.p04 p.sums.lvlB p.sums.lvlAB
    cant := match here with
      | some g => cantAt g p.chainage
      | none => 0
    grade := match here with
      | some g => g.grade
      | none => .left
    eLat := frontError (·.lat0) (·.lat1) (segmentAt p.segments (p.chainage + p.arms.p01))
      (p.chainage + p.arms.p01)
    eLvl := frontError (·.vert0) (·.vert1) (segmentAt p.segments (p.chainage + p.arms.p03))
      (p.chainage + p.arms.p03) }

/-! ## The target pass -/

/-- The front correction b × e / (a + b) before rounding (R100, R101). -/
def frontCorrection (a b e : Int) : Ratio := ⟨b * e, a + b⟩

/-- A value clamped into a range. -/
def clamp (lo hi x : Int) : Int := if x < lo then lo else if x > hi then hi else x

/-- The shift with its limit (R100): the sign is kept. -/
def limitShift (limit raw : Int) : Int := if raw > limit then limit else if raw < -limit then -limit else raw

/-- The target part a target pass writes, and the flags it raises, HIGH_SPOT or LIFT_LIMIT first, then
LINE_LIMIT, then CANT_UNMET, as the table of 09 lists them (R99 to R104; the order is a DESIGN CHOICE, log
13). -/
def targetPart (p : TargetPass) : TargetPart × List Flag :=
  let v := p.readings
  let d := p.design
  let rawShift := v.vmLat - (d.dLat - p.cLat.rounded)
  let shift := limitShift p.shiftLimit rawShift
  let vmG := if d.grade = .left then v.vmL else v.vmR
  let rawLift := vmG - d.dLvl - p.cLvl.rounded + p.baseLift
  let grade := clamp p.minLift p.liftLimit rawLift
  let rawOther := if d.grade = .left then grade + (v.xl - d.cant) else grade + (d.cant - v.xl)
  let other := clamp 0 p.liftLimit rawOther
  let left := if d.grade = .left then grade else other
  let right := if d.grade = .left then other else grade
  ({ readings := v
     liftL := left
     liftR := right
     shift := shift
     vtLat := v.vmLat - shift
     vtL := v.vmL - left
     vtR := v.vmR - right },
    (if rawLift < p.minLift then [.highSpot] else if rawLift > p.liftLimit then [.liftLimit] else [])
      ++ (if shift ≠ rawShift then [.lineLimit] else [])
      ++ (if other ≠ rawOther then [.cantUnmet] else []))

end Sys2Proof.Machine
end

