-- ==== Sys2Proof/Machine/Engine.lean ====
section
/-! DEFINITION. The correction engine (05, R81 to R91): which pass it takes next, the beginning and the
abandonment of passes, and the NO_COVER skip. The completions stand in Machine/PassEvents.lean. -/

namespace Sys2Proof.Machine

/-- The arms in force. -/
def armsOf (p : Params) : Arms := ⟨p.p01, p.p02, p.p03, p.p04⟩

/-- The segments that lie under a record's chord span, those at the two front points among them (R56). -/
def segmentsUnder (s : State) (c : Int) : List Segment :=
  s.seg.segments.filter fun g => decide (c - bMax s.params < g.endAt ∧ g.start ≤ c + aMax s.params)

/-- The beginning of a design pass: every input is taken (R86), and the working sums are formed (log 23). -/
def beginDesign (r : Sleeper) (s : State) : State :=
  let segs := segmentsUnder s r.chainage
  let arms := armsOf s.params
  s.modEng fun e =>
    { e with activity := .designing ⟨r.seq, r.chainage, arms, segs, designSums arms r.chainage segs⟩ }

/-- The beginning of a target pass: every input is taken (R86). The record is IN_WORK and holds its design
part. -/
def beginTarget (req : TargetRequest) (s : State) : State :=
  match (unfinishedRecord req.seq s).bind (·.design) with
  | some d =>
    s.modEng fun e =>
      { e with
        request := none
        activity := .targeting
          { seq := req.seq
            readings := req.readings
            design := d
            arms := armsOf s.params
            baseLift := s.params.p15
            minLift := s.params.p16
            liftLimit := s.params.p17
            shiftLimit := s.params.p18
            cLat := frontCorrection s.params.p01 s.params.p02 d.eLat
            cLvl := frontCorrection s.params.p03 s.params.p04 d.eLvl } }
  | none => s.modEng fun e => { e with request := none }

/-- The outcomes of the judgement of the oldest QUEUED record (R83). -/
inductive DesignJudgement where
  | wait
  | skip (r : Sleeper)
  | begin (r : Sleeper)
  deriving DecidableEq, Repr

/-- The judgement of the oldest QUEUED record against the segment queue, by the table of R83. -/
def judgeDesign (s : State) : DesignJudgement :=
  match oldestQueued s, queueStart s.seg.segments, queueEnd s.seg.segments with
  | some r, some a, some b =>
    if a > r.chainage - bMax s.params then
      if firstUnfinished s = some r then .skip r else .wait
    else if b < r.chainage + aMax s.params then .wait
    else .begin r
  | _, _, _ => .wait

/-- The cycle controller waits in WAIT_DESIGN for the record of a sequence number. -/
def waitsDesignOf (seq : Nat) (s : State) : Bool :=
  decide (s.cyc.mode = .work ∧ s.cyc.phase = .waitDesign ∧ s.cyc.current = some seq)

/-- The current record and active set let go and SEEK entered; the selection follows in `seekLoop`. -/
def returnToSeek (s : State) : State :=
  setPhase .seek (s.modCyc fun c => { c with current := none, active := none })

/-- The NO_COVER skip (R84): the record is SKIPPED with the result part of R148 (with the active set fixed
for it, log 34), SKIPPED_SLEEPER is set, a cycle controller waiting for it returns to SEEK, and the rear
bound is judged afresh. -/
def noCoverSkip (r : Sleeper) (s : State) : State :=
  let waits := waitsDesignOf r.seq s
  let active := if waits then s.cyc.active.getD 0 else 0
  let skipped := modRecord r.seq (fun r =>
    { r with state := .skipped, result := some (skippedResult active .noCover r.flags) }) s
  judgeSegments (raiseFlag .skippedSleeper (if waits then returnToSeek skipped else skipped))

/-- What an IDLE engine takes next (R82, R85): a held target request before any design pass; else the
judgement of R83, made again after each NO_COVER skip. Each skip finishes a record, so as many rounds as
there are records, and one, are enough. -/
def engineLoop : Nat → State → State
  | 0, s => s
  | n + 1, s =>
    match s.eng.activity, s.eng.request with
    | .idle, some req => beginTarget req s
    | .idle, none =>
      match judgeDesign s with
      | .wait => s
      | .begin r => beginDesign r s
      | .skip r => engineLoop n (noCoverSkip r s)
    | _, _ => s

/-- The engine judges which pass it takes next (R81, R82). -/
def judgeEngine (s : State) : State := engineLoop (s.slp.records.length + 1) s

/-- A design pass in flight abandoned where it meets a test; nothing is written (R89). -/
def abandonDesign (test : DesignPass → Bool) (s : State) : State :=
  s.modEng fun e =>
    match e.activity with
    | .designing p => if test p then { e with activity := .idle } else e
    | _ => e

/-- A target pass in flight abandoned and a held target request withdrawn (R89). -/
def withdrawTarget (s : State) : State :=
  s.modEng fun e =>
    { e with
      request := none
      activity := match e.activity with
        | .targeting _ => .idle
        | x => x }

/-- A target pass asked for (R85): it begins at once where the engine is IDLE, and is held otherwise. -/
def requestTarget (req : TargetRequest) (s : State) : State :=
  let asked := s.modEng fun e => { e with request := some req }
  match s.eng.activity with
  | .idle => beginTarget req asked
  | _ => asked

end Sys2Proof.Machine
end

