-- ==== Sys2Proof/Machine/Cycle.lean ====
section
/-! DEFINITION. The cycle controller (08): the hard halt, the phases of one sleeper, and what it does on the
reports of the other blocks. -/

namespace Sys2Proof.Machine

/-! ## The hard halt -/

/-- The record IN_WORK made ABORTED, its result part written from the reports as they stand (R155, R156). -/
def abortCurrent (s : State) : State :=
  match currentRecord s with
  | some r =>
    if r.state = .inWork then
      modRecord r.seq (fun r => { r with state := .aborted, result := some (workedResult r.flags s) }) s
    else s
  | none => s

/-- The hard halt (R154, R155): in WORK and PAUSED; a cause taken in READY or HALTED has no effect. The
engine judges its next pass, since a target pass may have been abandoned and a record finished (R82, R89). -/
def hardHalt (cause : HaltCause) (detail : Option Detail) (s : State) : State :=
  if s.cyc.mode = .work ∨ s.cyc.mode = .paused then
    judgeEngine (haltOrders (enterHalted cause detail (withdrawTarget (abortCurrent s))))
  else s

/-! ## Skips and arrival -/

/-- The current record finished as SKIPPED (R148): its result part, SKIPPED_SLEEPER, the return to SEEK, and
the judgements that a finished record calls for (R50, R82), the segment queue's (DESIGN CHOICE, log 13) and the
engine's (DESIGN CHOICE, log 42) before the selection of SEEK. A design pass in flight for it is abandoned (R89).
Where SKIPPED_SLEEPER arms a stop, the orderly halt is taken at that instant. -/
def skipCurrent (reason : SkipReason) (s : State) : State :=
  match currentRecord s with
  | some r =>
    let skipped := modRecord r.seq (fun r =>
      { r with
        state := .skipped
        result := some (skippedResult (s.cyc.active.getD 0) reason r.flags) }) s
    let free := abandonDesign (fun p => decide (p.seq = r.seq)) skipped
    judgeEngine (judgeSegments (raiseFlag .skippedSleeper (returnToSeek free)))
  | none => s

/-- The four readings of the arrival snapshot, where each channel has one (R151). -/
def snapshotReadings (s : State) : Option Readings :=
  match reading .lat s, reading .lvlL s, reading .lvlR s, reading .xl s with
  | some a, some b, some c, some d => some ⟨a, b, c, d⟩
  | _, _, _, _ => none

/-- The first measuring channel without a reading, in the order LAT, LVL-L, LVL-R, XL (R151). -/
def missingChannel (s : State) : ChannelId :=
  if (reading .lat s).isNone then .lat
  else if (reading .lvlL s).isNone then .lvlL
  else if (reading .lvlR s).isNone then .lvlR
  else .xl

/-- The arrival order to the four units, with a plan for each unit of the active set where `withPlans`
(R121, R151). -/
def arrivalOrders (r : Sleeper) (withPlans : Bool) (s : State) : State :=
  let active := s.cyc.active.getD 0
  refreshOutput
    (allUnits.foldl
      (fun t u => arrivalOrder u (if withPlans && unitIn u active then some (headPlan u r s) else none) t) s)

/-- The prepare order to the three axes (R106). -/
def prepareAxes (s : State) : State := allAxes.foldl (fun s a => prepareAxis a s) s

/-- Arrival on the current record (R151). Where a measuring channel has no reading, the stroke term is judged at the
entry into ARRIVED, before the hard halt, so that STROKE_LOW is set where it tightens (DESIGN CHOICE, log 18). -/
def arrival (s : State) : State :=
  match currentRecord s with
  | some r =>
    let taken := modRecord r.seq (fun r => { r with state := .inWork }) s
    let arrived := prepareAxes (setPhase .arrived (taken.modCyc fun c => { c with stopwatch := some s.clock }))
    match snapshotReadings s with
    | some v => arrivalOrders r true (requestTarget ⟨r.seq, v⟩ arrived)
    | none => hardHalt .channelLost (some (.channel (missingChannel s))) (arrivalOrders r false arrived)
  | none => s

/-- The phases in which a drive report about a held sleeper halts the work (R150). -/
def recordPhase : Phase → Bool
  | .arrived => true
  | .working => true
  | .clearing => true
  | _ => false

/-- The phases in which the answer to an index order, or the report of an indexing drive, is taken (R150). -/
def indexPhase : Phase → Bool
  | .seek => true
  | .indexing => true
  | _ => false

/-- What the cycle controller does on a report of the satellite drive, by the table of R150. The stroke term
is judged before HOLD_LOST and STROKE_END are acted on (log 18). -/
def onDriveReport (s : State) (report : DriveReport) : State :=
  if s.cyc.mode = .work then
    match report with
    | .arrived => if indexPhase s.cyc.phase then arrival s else s
    | .outOfReach => if indexPhase s.cyc.phase then skipCurrent .outOfReach s else s
    | .channelLost =>
      if indexPhase s.cyc.phase || recordPhase s.cyc.phase then
        hardHalt .channelLost (some (.channel .sat)) s
      else s
    | .holdLost => if recordPhase s.cyc.phase then hardHalt .holdLost none (refreshDemand s) else s
    | .strokeEnd => if recordPhase s.cyc.phase then hardHalt .strokeEnd none (refreshDemand s) else s
  else s

/-! ## SEEK -/

/-- The reach judgement of the current record (R147). -/
def judgeReach (r : Sleeper) (s : State) : State :=
  let seeking := setPhase .seek s
  let ahead := r.chainage - frameChainage s
  if ahead < 0 then skipCurrent .outOfReach seeking
  else if ahead ≤ s.params.p09 then
    let (ordered, reports) := indexOrder r.chainage seeking
    if ordered.pos.drive = .indexing then setPhase .indexing ordered
    else reports.foldl onDriveReport ordered
  else seeking

/-- The active set of a record (R146): its tamp set, the head set and the units that are not FAULTED. -/
def activeSetFor (r : Sleeper) (s : State) : UnitSet :=
  unitsWhere fun u =>
    unitIn u (planTamp r) && unitIn u s.headSet && decide ((s.heads.get u).state ≠ .faulted)

/-- The selection of a record in SEEK (R146). -/
def selectRecord (r : Sleeper) (s : State) : State :=
  let active := activeSetFor r s
  let chosen := s.modCyc fun c => { c with current := some r.seq, active := some active }
  if active = 0 then skipCurrent .noHeads chosen
  else
    match r.state with
    | .queued => setPhase .waitDesign chosen
    | .designed => judgeReach r chosen
    | _ => chosen

/-- In SEEK with no current record: a pause is pending, or an unfinished record can be selected (R142,
R146). -/
def seekDue (s : State) : Bool :=
  decide (s.cyc.mode = .work ∧ s.cyc.phase = .seek ∧ s.cyc.current = none)
    && (s.cyc.pausePending || (firstUnfinished s).isSome)

/-- One entry into SEEK (R142, R146). -/
def seekOnce (s : State) : State :=
  if s.cyc.pausePending then enterMode .paused s
  else
    match firstUnfinished s with
    | some r => selectRecord r s
    | none => s

/-- SEEK, entered again after each skip. Each skip finishes a record, so as many rounds as there are
records, and one, are enough. -/
def seekLoop : Nat → State → State
  | 0, s => s
  | n + 1, s => if seekDue s then seekLoop n (seekOnce s) else s

/-- The selection of SEEK, made while it is due (R146). -/
def seek (s : State) : State := seekLoop (s.slp.records.length + 1) s

/-- The reach judgement made again for a record that is waited for in SEEK, at a change of frame chainage
(R147). -/
def reachAgain (s : State) : State :=
  if s.cyc.mode = .work ∧ s.cyc.phase = .seek then
    match currentRecord s with
    | some r => if r.state = .designed then judgeReach r s else s
    | none => s
  else s

/-- The end of a re-determination of the drive: its reports taken in order, the travel demand re-determined,
an armed stop acted on, and SEEK. -/
def afterDrive (p : State × List DriveReport) : State :=
  seek (actOnStop (refreshDemand (p.2.foldl onDriveReport p.1)))

/-! ## WORKING and CLEARING -/

/-- The states of a unit that hold the release condition back (R152). -/
def inTrain : HeadState → Bool
  | .tilting => true
  | .lowering => true
  | .inserted => true
  | .squeezing => true
  | .opening => true
  | _ => false

/-- The release condition (R152). -/
def releaseCondition (s : State) : Bool :=
  allUnits.all fun u =>
    !unitIn u (s.cyc.active.getD 0) || (!inTrain (s.heads.get u).state && !(s.heads.get u).pendingLower)

/-- A unit counts as clear for the release of the satellite: UP or FAULTED, or at a depth of P25 or less
(R153). -/
def headClear (u : UnitId) (s : State) : Bool :=
  decide ((s.heads.get u).state = .up) || decide ((s.heads.get u).state = .faulted)
    || match depthOf u s with
      | some d => decide (d ≤ s.params.p25)
      | none => false

/-- The satellite may be let go (R153). -/
def clearingDone (s : State) : Bool :=
  axesIdle s && allUnits.all fun u => !unitIn u (s.cyc.active.getD 0) || headClear u s

/-- The end of CLEARING (R153): the satellite released, the stopwatch stopped, the result part written and
the record DONE; then PAUSED, the orderly halt, or SEEK. The finished record makes the engine judge (R82), before
the selection of SEEK (DESIGN CHOICE, log 42). -/
def finishWork (s : State) : State :=
  match currentRecord s with
  | some r =>
    let done := modRecord r.seq (fun r =>
      { r with state := .done, result := some (workedResult r.flags s) }) s
    let freed := done.modCyc fun c => { c with current := none, active := none, stopwatch := none }
    let ridden := rideDrive freed
    let ended :=
      if s.cyc.pausePending then enterMode .paused ridden
      else
        match s.cond.armed with
        | some f => orderlyHalt f ridden
        | none => setPhase .seek ridden
    seek (judgeEngine ended)
  | none => s

/-- The judgement of CLEARING (R153). -/
def judgeClearing (s : State) : State :=
  if s.cyc.mode = .work ∧ s.cyc.phase = .clearing ∧ clearingDone s = true then finishWork s else s

/-- The judgement of the release condition in WORKING (R152): the release order to the axes and CLEARING,
judged at its entry (R153). -/
def judgeRelease (s : State) : State :=
  if s.cyc.mode = .work ∧ s.cyc.phase = .working ∧ releaseCondition s = true then
    judgeClearing (setPhase .clearing (releaseAxes s))
  else s

/-- What follows a change of state of a unit: an armed stop (R157), pending releases (R114), the drive's
command (R24; log 19), the release condition (R152), and, where the unit is of the active set or an axis
became IDLE, the judgement of CLEARING (R153). -/
def afterUnit (u : UnitId) (s : State) : State :=
  let stopped := actOnStop s
  let settled := settleReleases stopped
  let judged := judgeRelease (refreshOutput settled)
  if unitIn u (stopped.cyc.active.getD 0) || decide (settled.axes ≠ stopped.axes) then judgeClearing judged
  else judged

/-- What follows an event at a unit that may leave its state as it was, `before` being the state before the
event: where the unit's state has changed all that follows such a change, and where the depth of a unit of the
active set alone has changed the judgement of CLEARING (R153). -/
def followUnit (u : UnitId) (before s : State) : State :=
  if (s.heads.get u).state ≠ (before.heads.get u).state then afterUnit u s
  else if unitIn u (s.cyc.active.getD 0) = true ∧ depthOf u s ≠ depthOf u before then judgeClearing s
  else s

/-- What follows an entry of an axis into HOLD: the squeeze gate (R113, R124), an armed stop and the drive's
command. -/
def afterAxis (s : State) : State := refreshOutput (actOnStop (openGate s))

/-- A hard halt for the channel of a MOVING axis that has been CUT (R116). Where the CUT is also the last
entry into HOLD that opens the squeeze gate for an INSERTED unit, the order of the two is a free value (R132,
log 11). -/
def axisChannelLost (c : ChannelId) (s : State) : State :=
  let contested := gateOpen s && allUnits.any fun u => decide ((s.heads.get u).state = .inserted)
  let (gateFirst, t) := if contested then s.freeOrder else (false, s)
  afterAxis (hardHalt .channelLost (some (.channel c)) (if gateFirst then openGate t else t))

end Sys2Proof.Machine
end

