-- ==== Sys2Proof/Machine/Sleepers.lean ====
section
/-! DEFINITION. The entries of the sleeper queue (04): when they are taken, the passing of planned bearers,
and the detections. -/

namespace Sys2Proof.Machine

/-- The sleeper queue takes entries (R63). -/
def takesEntries (s : State) : Bool := decide (s.cyc.mode = .work) || decide (s.cyc.mode = .paused)

/-- The sleeper queue takes detector edges (R63). -/
def takesEdges (s : State) : Bool := takesEntries s && decide (s.pos.direction = .forward)

/-- The sequence number after one (R78). -/
def nextSeqAfter (n : Nat) : Nat := if n = 65535 then 1 else n + 1

/-- The most records held (R67). -/
def maxRecords : Nat := 16

/-- The record flags a record enters with (R62). -/
def entryFlags (unplanned : Bool) : FlagSet := if unplanned then flagAdd .unplanned 0 else 0

/-- The record that an entry makes (R70). -/
def newRecord (seq : Nat) (c : Int) (width : Option Int) (source : Source) (plan : Option Plan)
    (unplanned : Bool) : Sleeper where
  seq := seq
  chainage := c
  width := width
  source := source
  plan := plan
  state := .queued
  unplanned := unplanned
  flags := entryFlags unplanned
  design := none
  target := none
  result := none

/-- A record added at the end of the sleeper queue (R70, R78). -/
def appendRecord (c : Int) (width : Option Int) (source : Source) (plan : Option Plan) (unplanned : Bool)
    (s : State) : State :=
  s.modSlp fun q =>
    { q with
      records := q.records ++ [newRecord q.nextSeq c width source plan unplanned]
      highWater := some c
      nextSeq := nextSeqAfter q.nextSeq }

/-- What the neighbours of the sleeper queue do at an entry (R70): the travel demand, the rear bound, the
correction engine and the selection of SEEK. A flag that the entry raises is raised first (log 13). -/
def afterEntry (raised : Option Flag) (s : State) : State :=
  let flagged := match raised with
    | some f => raiseFlag f s
    | none => s
  seek (judgeEngine (judgeSegments (actOnStop (refreshDemand flagged))))

/-- A record enters (R70), with the flag that its entry raises. -/
def enterRecord (c : Int) (width : Option Int) (source : Source) (plan : Option Plan) (unplanned : Bool)
    (raised : Option Flag) (s : State) : State :=
  afterEntry raised (appendRecord c width source plan unplanned s)

/-- A chainage fails the spacing check (R66, R73). -/
def tooClose (c : Int) (s : State) : Bool :=
  match s.slp.highWater with
  | some h => decide (c ≤ h + s.params.p33)
  | none => false

/-- The queue has no room (R67). -/
def queueFull (s : State) : Bool := decide (maxRecords ≤ s.slp.records.length)

/-! ## Planned bearers -/

/-- The WAITING bearers with their segments, in ascending chainage (R40). -/
def waitingBearers (segs : List Segment) : List (Segment × Bearer) :=
  segs.flatMap fun g => (g.bearers.filter fun b => !b.consumed).map fun b => (g, b)

/-- A bearer consumed by its passing is judged for entry (R73). -/
def judgePlanned (g : Segment) (b : Bearer) (s : State) : State :=
  let used := consumeBearer b.chainage s
  if tooClose b.chainage s then used
  else if queueFull s then raiseFlag .queueOverrun used
  else enterRecord b.chainage none .planned (some (bearerPlan g b)) false none used

/-- Passed bearers judged one at a time in ascending chainage (R71, R72), each while entries are still taken
(log 20). -/
def judgeInTurn (found : List (Segment × Bearer)) (s : State) : State :=
  found.foldl (fun s x => if takesEntries s then judgePlanned x.1 x.2 s else s) s

/-- The WAITING bearers passed by the detector (R71). -/
def passedBearers (s : State) : List (Segment × Bearer) :=
  (waitingBearers s.seg.segments).filter fun x => decide (x.2.chainage + s.params.p35 ≤ detectorChainage s)

/-- The chainages of passed bearers added to those held (R72). -/
def holdPassed (held found : List Int) : List Int := held ++ found.filter fun c => !held.contains c

/-- The judgement of the waiting bearers for passing (R71), held while a detection is OPEN (R72). -/
def judgePassing (s : State) : State :=
  if takesEntries s then
    if s.slp.detection.isSome then
      s.modSlp fun q => { q with held := holdPassed q.held ((passedBearers s).map (·.2.chainage)) }
    else judgeInTurn (passedBearers s) s
  else s

/-- The held bearers that are still WAITING, judged in ascending chainage; no bearer is held after it
(R72). -/
def judgeHeld (s : State) : State :=
  let found := (waitingBearers s.seg.segments).filter fun x => s.slp.held.contains x.2.chainage
  judgeInTurn found (s.modSlp fun q => { q with held := [] })

/-! ## Detections -/

/-- The candidates for a detection's centre (R68). -/
def candidates (c : Int) (s : State) : List (Segment × Bearer) :=
  (waitingBearers s.seg.segments).filter fun x =>
    decide (c - s.params.p35 ≤ x.2.chainage ∧ x.2.chainage ≤ c + s.params.p35)

/-- The candidate nearest to the centre; of two equally near, the first, which is the lower (R68). -/
def nearest (c : Int) : List (Segment × Bearer) → Option (Segment × Bearer)
  | [] => none
  | x :: xs =>
    match nearest c xs with
    | none => some x
    | some y => if (y.2.chainage - c).natAbs < (x.2.chainage - c).natAbs then some y else some x

/-- The width of a detection within the limits of P34 (R65). -/
def widthOk (w : Int) (p : Params) : Bool := decide (p.p34min ≤ w ∧ w ≤ p.p34max)

/-- The entry of a detection that has passed its checks: MATCHED to a bearer (R68), or DETECTED with its
flag by the segment at its centre (R69). -/
def enterDetection (c w : Int) (s : State) : State :=
  match nearest c (candidates c s) with
  | some (g, b) =>
    enterRecord c (some w) .matched (some (bearerPlan g b)) false none (consumeBearer b.chainage s)
  | none =>
    match segmentAt s.seg.segments c with
    | some g => enterRecord c (some w) .detected none g.planned (if g.planned then some .unplanned else none) s
    | none => enterRecord c (some w) .detected none false (some .segStarved) s

/-- The judgement of a closed detection from its two chainages (R65 to R69). -/
def judgeDetection (a d : Int) (s : State) : State :=
  let c := (a + d) / 2
  if widthOk (d - a) s.params then
    if tooClose c s then s
    else if queueFull s then raiseFlag .queueOverrun s
    else enterDetection c (d - a) s
  else raiseFlag .detectReject s

/-- The close of an OPEN detection by a deactivation (R64, R72): it is judged first, then the held bearers. -/
def closeDetection (a : Int) (s : State) : State :=
  judgeHeld (judgeDetection a (detectorChainage s) (s.modSlp fun q => { q with detection := none }))

/-- The abandonment of an OPEN detection as the direction becomes BACKWARD (R64, R72). -/
def abandonDetection (s : State) : State :=
  if s.slp.detection.isSome then judgeHeld (s.modSlp fun q => { q with detection := none }) else s

/-- An accepted change of the detector line, delivered as an activation or a deactivation (R14, R64). -/
def detectorEdge (s : State) : State :=
  if takesEdges s then
    match s.slp.detection, detectorActive s with
    | none, true => s.modSlp fun q => { q with detection := some (detectorChainage s) }
    | some a, false => closeDetection a s
    | _, _ => s
  else s

end Sys2Proof.Machine
end

