-- ==== Sys2Proof/Machine/Count.lean ====
section
/-! DEFINITION. The count unit (01): the filters, the decoding of accepted changes, and what the other blocks
do on a count change, on the loss of a null and on an edge. -/

namespace Sys2Proof.Machine

/-! ## Filters (R1) -/

/-- A change accepted: the accepted level takes the present one and the filter is idle. -/
def LineFilter.accept (f : LineFilter) : LineFilter := { f with accepted := f.present, since := none }

/-- The present level of a line changes at instant `t` under a window that is not empty: timing starts where
it comes to differ from the accepted level, and stops where it returns. -/
def LineFilter.toggle (f : LineFilter) (t : Nat) : LineFilter :=
  { f with present := !f.present, since := if f.accepted = f.present then some t else none }

/-- The other line of a channel. -/
def linePartner : Line → Option Line
  | .channelA c => some (.channelB c)
  | .channelB c => some (.channelA c)
  | .detector => none
  | .pressure _ => none

/-- The channel of a line. -/
def lineChannel : Line → Option ChannelId
  | .channelA c => some c
  | .channelB c => some c
  | .detector => none
  | .pressure _ => none

/-- The marker that the changes being timed on the two lines of a channel began at one instant (R5). -/
def CountUnit.setPaired (c : CountUnit) (l : Line) (v : Bool) : CountUnit :=
  match lineChannel l with
  | some ch => c.set ch { c.get ch with paired := v }
  | none => c

/-! ## Loss of a null (R10) -/

/-- What an axis does when its channel loses its null (R116). -/
def loseAxisChannel (a : AxisId) (s : State) : State :=
  if (s.axes.get a).state = .moving then axisChannelLost (axisChannel a) (cutAxis a s) else s

/-- What the satellite drive does when SAT loses its null (R31). -/
def loseSatellite (s : State) : State :=
  match s.pos.drive with
  | .riding => refreshOutput s
  | .indexing => afterDrive (rideDrive s, [.channelLost])
  | .holding => afterDrive (rideDrive s, [.channelLost])

/-- What the blocks do at the instant a channel other than ODO loses its nulled marker, by the table of
R10. -/
def nullLost (c : ChannelId) (s : State) : State :=
  match c with
  | .odo => s
  | .sat => loseSatellite s
  | .lat => loseAxisChannel .line s
  | .lvlL => loseAxisChannel .liftL s
  | .lvlR => loseAxisChannel .liftR s
  | .xl => s
  | .dep u => afterUnit u (loseDepth u s)

/-- A nulled marker cleared, with what the other blocks do (R4, R5, R6, R10). ODO has none. -/
def clearNull (c : ChannelId) (s : State) : State :=
  if (s.count.get c).nulled then
    nullLost c (s.modCount fun q => q.set c { q.get c with nulled := false })
  else s

/-- An illegal transition or a range fault on a channel (R5, R6): the fault marker, the loss of the null, and
CHANNEL_FAULT. The other blocks act on the loss before the flag is raised (log 14). -/
def channelFault (c : ChannelId) (s : State) : State :=
  raiseFlag .channelFault
    (clearNull c (s.modCount fun q => q.set c { q.get c with fault := true }))

/-! ## Decoding (R3, R5, R6) -/

/-- The lower end of the count range. -/
def countMin : Int := -2147483648

/-- The upper end of the count range. -/
def countMax : Int := 2147483647

/-- A count moved by one, `none` where it would leave its range (R6). -/
def stepCount (up : Bool) (n : Int) : Option Int :=
  if up then (if n < countMax then some (n + 1) else none)
  else (if countMin < n then some (n - 1) else none)

/-- A change of line A counts up when the new level of A differs from B (R3), the other way under the
polarity bit. -/
def upOnA (inverted a b : Bool) : Bool := (a != b) != inverted

/-- A change of line B counts up when the new level of B equals A (R3), the other way under the polarity
bit. -/
def upOnB (inverted a b : Bool) : Bool := (a == b) != inverted

/-! ## What follows a count change -/

/-- The ODO direction set by the sense of a count change (R18), with the abandonment of an open detection as
it becomes BACKWARD (R64). -/
def setDirection (up : Bool) (s : State) : State :=
  if up then s.modPos fun p => { p with direction := .forward }
  else abandonDetection (s.modPos fun p => { p with direction := .backward })

/-- What follows a change of detector chainage: the passing of bearers (R71), the segment queue (R50, R52,
R55) and the engine (R82). -/
def detectorMoved (s : State) : State := seek (judgeEngine (judgeSegments (judgePassing s)))

/-- What follows an accepted change of the ODO count, `before` being the state before it (R17, R18, R21 to
R23, R34, R147): the bearers, the segment queue and the engine, then the satellite drive, then the reach
judgement of a record waited for in SEEK (DESIGN CHOICE, log 13). -/
def odoMoved (up : Bool) (before s : State) : State :=
  let turned := setDirection up s
  let moved := if detectorChainage s ≠ detectorChainage before then detectorMoved turned else turned
  let driven := afterDrive (redetermine moved)
  if frameChainage s ≠ frameChainage before then seek (actOnStop (reachAgain driven)) else driven

/-- A measuring axis judges its reading (R109, R110); an entry into HOLD opens the squeeze gate (R113). -/
def axisMoved (a : AxisId) (s : State) : State :=
  let judged := judgeAxis a s
  if (s.axes.get a).state = .moving ∧ (judged.axes.get a).state = .hold then afterAxis judged else judged

/-- What the owning block does on an accepted count change of a channel. -/
def countMoved (c : ChannelId) (up : Bool) (before s : State) : State :=
  match c with
  | .odo => odoMoved up before s
  | .sat => afterDrive (redetermine s)
  | .lat => axisMoved .line s
  | .lvlL => axisMoved .liftL s
  | .lvlR => axisMoved .liftR s
  | .xl => s
  | .dep u => followUnit u before (changeDepth u s)

/-- One legal step of a channel (R3), or the range fault it makes (R6). -/
def countStep (c : ChannelId) (up : Bool) (s : State) : State :=
  match stepCount up (s.count.get c).count with
  | some n => countMoved c up s (s.modCount fun q => q.set c { q.get c with count := n })
  | none => channelFault c s

/-- The acceptance of a change of line A, of line B or of both of a channel (R3, R5). -/
def acceptChannel (c : ChannelId) (onA onB : Bool) (s : State) : State :=
  let ch := s.count.get c
  let a := if onA then ch.a.accept else ch.a
  let b := if onB then ch.b.accept else ch.b
  let inverted := channelIn c s.params.p39polarity
  let taken := s.modCount fun q => q.set c { q.get c with a := a, b := b, paired := false }
  match onA, onB with
  | true, true => channelFault c taken
  | true, false => countStep c (upOnA inverted a.accepted b.accepted) taken
  | false, true => countStep c (upOnB inverted a.accepted b.accepted) taken
  | false, false => s

/-- The acceptance of a change of a line, for a channel's line with its partner where `both` (R1, R14,
R15). -/
def acceptLine (l : Line) (both : Bool) (s : State) : State :=
  match l with
  | .channelA c => acceptChannel c true both s
  | .channelB c => acceptChannel c both true s
  | .detector => detectorEdge (s.modCount fun q => { q with detector := q.detector.accept })
  | .pressure u =>
    let taken := s.modCount fun q => { q with pressure := q.pressure.set u (q.pressure.get u).accept }
    if pressureActive u taken then followUnit u taken (seePressure u taken) else taken

/-- The present level of a line changes, and with it that of its partner where `together` (R1). -/
def toggleLines (l : Line) (together : Bool) (s : State) : State :=
  let one := s.modCount fun q => q.setFilter l ((q.filter l).toggle s.clock)
  let two := match linePartner l with
    | some m => if together then one.modCount fun q => q.setFilter m ((q.filter m).toggle s.clock) else one
    | none => one
  two.modCount fun q =>
    q.setPaired l (together && (q.filter l).since.isSome &&
      match linePartner l with
      | some m => (q.filter m).since.isSome
      | none => false)

/-- The line's present level differs from its accepted one. -/
def differs (l : Line) (s : State) : Bool := (s.count.filter l).present != (s.count.filter l).accepted

/-- A change of the present level of a line (R1). With the window at 0 it is accepted at once. -/
def changeLevel (l : Line) (together : Bool) (s : State) : State :=
  let t := toggleLines l together s
  if s.params.p38 = 0 ∧ differs l t = true then
    acceptLine l (together && match linePartner l with
      | some m => differs m t
      | none => false) t
  else t

/-- The channel of a line holds the marker that its two lines are timed from one instant. -/
def pairedLine (l : Line) (s : State) : Bool :=
  match lineChannel l with
  | some c => (s.count.get c).paired
  | none => false

/-! ## A new filter window (R2) -/

/-- A change being timed has been steady for the window. -/
def steady (f : LineFilter) (s : State) : Bool :=
  match f.since with
  | some t => decide (t + s.params.p38 ≤ s.clock)
  | none => false

/-- The changes that have been steady for the new window accepted at once: channel by channel in the fixed
order, then the detector, then the pressure lines (R2; log 13). -/
def acceptSteady (s : State) : State :=
  let channels := allChannels.foldl
    (fun t c => acceptChannel c (steady (t.count.get c).a t) (steady (t.count.get c).b t) t) s
  let detected := if steady channels.count.detector channels then acceptLine .detector false channels else channels
  allUnits.foldl (fun t u => if steady (t.count.pressure.get u) t then acceptLine (.pressure u) false t else t)
    detected

end Sys2Proof.Machine
end

