-- ==== Sys2Proof/Machine/Settings.lean ====
section
/-! DEFINITION. The settings (11): the parameters by id, their ranges and cross-conditions, the image of the
store, and what the blocks do when a parameter changes. -/

namespace Sys2Proof.Machine

/-! ## Parameters by id (table of 11; R185 for P31, P34 and P39) -/

/-- P31 as a number. -/
def squeezeCode : SqueezeMode → Nat
  | .time => 0
  | .pressure => 1

/-- The value of a parameter as the number CONFIGURE, READ_PARAM and the image carry; 0 for an id that names
none. -/
def Params.value (p : Params) (id : Nat) : Nat :=
  match id with
  | 1 => p.p01.toNat
  | 2 => p.p02.toNat
  | 3 => p.p03.toNat
  | 4 => p.p04.toNat
  | 5 => p.p05.toNat
  | 6 => p.p06.toNat
  | 7 => p.p07.toNat
  | 8 => p.p08.toNat
  | 9 => p.p09.toNat
  | 10 => p.p10.toNat
  | 11 => p.p11.toNat
  | 12 => p.p12.toNat
  | 13 => p.p13.toNat
  | 14 => p.p14.toNat
  | 15 => p.p15.toNat
  | 16 => p.p16.toNat
  | 17 => p.p17.toNat
  | 18 => p.p18.toNat
  | 19 => p.p19.toNat
  | 20 => p.p20.toNat
  | 21 => p.p21
  | 22 => p.p22
  | 23 => p.p23
  | 24 => p.p24.toNat
  | 25 => p.p25.toNat
  | 26 => p.p26.toNat
  | 27 => p.p27
  | 28 => p.p28
  | 29 => p.p29
  | 30 => p.p30
  | 31 => squeezeCode p.p31
  | 32 => p.p32
  | 33 => p.p33.toNat
  | 34 => 65536 * p.p34min.toNat + p.p34max.toNat
  | 35 => p.p35.toNat
  | 36 => p.p36.toNat
  | 37 => p.p37
  | 38 => p.p38
  | 39 => p.p39polarity.toNat + (if p.p39low then 1024 else 0)
  | _ => 0

/-- A number lies in a range, both ends included. -/
def within (lo hi v : Nat) : Bool := decide (lo ≤ v ∧ v ≤ hi)

/-- A value lies within its parameter's range (table of 11; R180). -/
def inRange (id v : Nat) : Bool :=
  match id with
  | 1 => within 3000 20000 v
  | 2 => within 2000 12000 v
  | 3 => within 3000 20000 v
  | 4 => within 2000 12000 v
  | 5 => within 100 5000 v
  | 6 => within 10 1000 v
  | 7 => within 10 1000 v
  | 8 => within 4000 20000 v
  | 9 => within 1000 8000 v
  | 10 => within 200 4000 v
  | 11 => within 100 3000 v
  | 12 => within 2 50 v
  | 13 => within 50 500 v
  | 14 => within 20 200 v
  | 15 => within 0 5000 v
  | 16 => within 0 2000 v
  | 17 => within 500 20000 v
  | 18 => within 500 10000 v
  | 19 => within 0 300 v
  | 20 => within 0 300 v
  | 21 => within 500 10000 v
  | 22 => within 500 10000 v
  | 23 => within 0 7 v
  | 24 => within 100 700 v
  | 25 => within 20 200 v
  | 26 => within 0 50 v
  | 27 => within 500 5000 v
  | 28 => within 500 6000 v
  | 29 => within 200 3000 v
  | 30 => within 100 1500 v
  | 31 => decide (v ≤ 1)
  | 32 => within 100 1500 v
  | 33 => within 300 800 v
  | 34 => within 80 400 (v / 65536) && within 150 600 (v % 65536)
  | 35 => within 20 300 v
  | 36 => within 10000 200000 v
  | 37 => decide (v = 0) || within 200 5000 v
  | 38 => within 0 15 v
  | 39 => decide (v < 2048)
  | _ => false

/-- The parameter set with one value replaced. -/
def Params.put (p : Params) (id v : Nat) : Params :=
  match id with
  | 1 => { p with p01 := v }
  | 2 => { p with p02 := v }
  | 3 => { p with p03 := v }
  | 4 => { p with p04 := v }
  | 5 => { p with p05 := v }
  | 6 => { p with p06 := v }
  | 7 => { p with p07 := v }
  | 8 => { p with p08 := v }
  | 9 => { p with p09 := v }
  | 10 => { p with p10 := v }
  | 11 => { p with p11 := v }
  | 12 => { p with p12 := v }
  | 13 => { p with p13 := v }
  | 14 => { p with p14 := v }
  | 15 => { p with p15 := v }
  | 16 => { p with p16 := v }
  | 17 => { p with p17 := v }
  | 18 => { p with p18 := v }
  | 19 => { p with p19 := v }
  | 20 => { p with p20 := v }
  | 21 => { p with p21 := v }
  | 22 => { p with p22 := v }
  | 23 => { p with p23 := v }
  | 24 => { p with p24 := v }
  | 25 => { p with p25 := v }
  | 26 => { p with p26 := v }
  | 27 => { p with p27 := v }
  | 28 => { p with p28 := v }
  | 29 => { p with p29 := v }
  | 30 => { p with p30 := v }
  | 31 => { p with p31 := if v = 0 then .time else .pressure }
  | 32 => { p with p32 := v }
  | 33 => { p with p33 := v }
  | 34 => { p with p34min := (v / 65536 : Nat), p34max := (v % 65536 : Nat) }
  | 35 => { p with p35 := v }
  | 36 => { p with p36 := v }
  | 37 => { p with p37 := v }
  | 38 => { p with p38 := v }
  | 39 => { p with p39polarity := BitVec.ofNat 10 (v % 1024), p39low := decide (1024 ≤ v) }
  | _ => p

/-- The cross-conditions (R180). -/
def Params.crossOk (p : Params) : Bool :=
  decide (p.p01 + p.p02 ≤ 24000) && decide (p.p03 + p.p04 ≤ 24000)
    && decide (p.p11 < p.p10 ∧ p.p10 < p.p09) && decide (p.p12 < p.p14)
    && decide (p.p26 < p.p25 ∧ p.p25 < p.p24 - 50) && decide (p.p16 ≤ p.p17)
    && decide (p.p34min < p.p34max)

/-- A rest parameter (table of 11). -/
def isRest (id : Nat) : Bool := decide (1 ≤ id ∧ id ≤ 9) || [33, 35, 38, 39].contains id

/-! ## The image of the store (R182, R183) -/

/-- The thirty-nine ids in order. -/
def allIds : List Nat := (List.range 39).map (· + 1)

/-- The thirty-nine values in id order, four bytes each (R182). -/
def valueBytes (p : Params) : List Byte := allIds.flatMap fun id => beBytes 4 (p.value id)

/-- The image of a parameter set: its values and their check word (R182), the word's high byte first, as R170 sends
its CHECK (DEDUCED, log 46). -/
def imageOf (p : Params) : List Byte := valueBytes p ++ beBytes 2 (crc16 (valueBytes p))

/-- The value an image holds for an id. -/
def imageValue (image : List Byte) (id : Nat) : Nat := beNat ((image.drop (4 * (id - 1))).take 4)

/-- The parameter set an image holds. -/
def imageParams (image : List Byte) : Params :=
  allIds.foldl (fun p id => p.put id (imageValue image id)) .defaults

/-- An image is valid (R183): its check word, read high byte first (DEDUCED, log 46), matches its values, every
value lies within its range, and every cross-condition holds. -/
def imageValid (image : List Byte) : Bool :=
  decide (image.length = 158)
    && decide (beNat (image.drop 156) = crc16 (image.take 156))
    && (allIds.all fun id => inRange id (imageValue image id))
    && (imageParams image).crossOk

/-- What the store loads at a reset (R183): the values, and whether they are the defaults for want of a valid
image. -/
def loadImage (image : Option (List Byte)) : Params × Bool :=
  match image with
  | some bytes => if imageValid bytes then (imageParams bytes, false) else (.defaults, true)
  | none => (.defaults, true)

/-! ## What a change of a parameter does (R181) -/

/-- A DESIGNED record returned to QUEUED, its design part discarded (R48, R90). -/
def Sleeper.revert (r : Sleeper) : Sleeper := { r with state := .queued, design := none }

/-- A change of P01, P02, P03 or P04 (R90): a design pass in flight is abandoned, every DESIGNED record
returns to QUEUED, and the segment queue and the engine judge afresh. -/
def changeArms (s : State) : State :=
  let free := abandonDesign (fun _ => true) s
  let reverted := free.modSlp fun q =>
    { q with records := q.records.map fun r => if r.state = .designed then r.revert else r }
  judgeEngine (judgeSegments reverted)

/-- A change of P05 (R20): the datum takes the frame chainage that stood before it, in micrometres. -/
def rebaseDatum (before s : State) : State :=
  s.modPos fun p => { p with datum := frameMicrons before, countAtDatum := s.count.odo.count }

/-- A change of P37 (R178): a running supervision timer is loaded afresh, or stopped. -/
def reloadSupervision (s : State) : State :=
  s.modLink fun l =>
    { l with supervision :=
        match l.supervision with
        | some _ => if s.params.p37 = 0 then none else some (s.loadTimer s.params.p37)
        | none => none }

/-- A change of P39 (R4, R14): every channel but ODO whose polarity bit changed loses its null. The
detector's accepted level is read anew with no edge. -/
def changePolarity (before s : State) : State :=
  allChannels.foldl
    (fun t c =>
      if c ≠ .odo ∧ channelIn c before.params.p39polarity ≠ channelIn c s.params.p39polarity then clearNull c t
      else t) s

/-- What the blocks do at the instant a parameter's value changes (R2, R4, R20, R33, R34, R54, R90, R178); a
parameter not named here acts at its next use. -/
def parameterChanged (id : Nat) (before s : State) : State :=
  match id with
  | 1 => changeArms s
  | 2 => changeArms s
  | 3 => changeArms s
  | 4 => changeArms s
  | 5 => rebaseDatum before s
  | 8 => judgeEngine (judgeSegments s)
  | 10 => actOnStop (refreshDemand s)
  | 11 => actOnStop (refreshDemand s)
  | 12 => afterDrive (redetermine s)
  | 13 => afterDrive (redetermine s)
  | 14 => afterDrive (redetermine s)
  | 36 => judgeEngine (judgeSegments s)
  | 37 => reloadSupervision s
  | 38 => acceptSteady s
  | 39 => changePolarity before s
  | _ => s

end Sys2Proof.Machine
end

