-- ==== Sys2Proof/Machine/Bodies.lean ====
section
/-! DEFINITION. The codes and the bodies of the frames the port sends (11, R185): the STATUS and SNAPSHOT
bodies, the three notices and the work record. -/

namespace Sys2Proof.Machine

/-! ## Codes (code table of 11) -/

/-- The code of a status. -/
def statusCode : Status → Nat
  | .ok => 0x00
  | .badLength => 0x01
  | .unknownKind => 0x02
  | .queueFull => 0x03
  | .wrongMode => 0x04
  | .outOfRange => 0x05
  | .busy => 0x06
  | .notNulled => 0x07
  | .segGap => 0x08
  | .segFull => 0x09
  | .poolFull => 0x0A
  | .segBehind => 0x0B
  | .inUse => 0x0C
  | .storeFailed => 0x0D

/-- The code of a mode. -/
def modeCode : Mode → Nat
  | .ready => 0
  | .work => 1
  | .paused => 2
  | .halted => 3

/-- The code of a cycle phase. -/
def phaseCode : Phase → Nat
  | .none => 0
  | .seek => 1
  | .waitDesign => 2
  | .indexing => 3
  | .arrived => 4
  | .working => 5
  | .clearing => 6

/-- The code of a halt cause. -/
def causeCode : HaltCause → Nat
  | .none => 0
  | .operator => 1
  | .cabSilent => 2
  | .strokeEnd => 3
  | .holdLost => 4
  | .channelLost => 5
  | .unitStuck => 6
  | .flagStop => 7

/-- The code of a cause detail: a flag number, a channel number or a unit number. -/
def detailCode : Detail → Nat
  | .flag f => f.number
  | .unit u => unitNumber u
  | .channel c => channelNumber c

/-- The code of a reset cause. -/
def resetCode : ResetCause → Nat
  | .power => 0
  | .restart => 1

/-- The code of a grade rail. -/
def gradeCode : Grade → Nat
  | .left => 0
  | .right => 1

/-- The code of a record's source. -/
def sourceCode : Source → Nat
  | .detected => 0
  | .matched => 1
  | .planned => 2

/-- The code of a record state. -/
def recordCode : RecordState → Nat
  | .queued => 0
  | .designed => 1
  | .inWork => 2
  | .done => 3
  | .skipped => 4
  | .aborted => 5

/-- The code of a skip reason. -/
def skipCode : SkipReason → Nat
  | .noHeads => 0
  | .noCover => 1
  | .outOfReach => 2

/-- The code of an axis outcome. -/
def outcomeCode : AxisOutcome → Nat
  | .reached => 0
  | .timeout => 1
  | .hunt => 2
  | .cut => 3

/-- The code of a drive state. -/
def driveCode : Drive → Nat
  | .riding => 0
  | .indexing => 1
  | .holding => 2

/-- The code of a travel demand. -/
def demandCode : Demand → Nat
  | .go => 0
  | .creep => 1
  | .stop => 2

/-- The code of an axis state. -/
def axisCode : AxisState → Nat
  | .idle => 0
  | .moving => 1
  | .hold => 2

/-- The code of a unit state. -/
def headCode : HeadState → Nat
  | .parking => 0
  | .up => 1
  | .tilting => 2
  | .lowering => 3
  | .inserted => 4
  | .squeezing => 5
  | .opening => 6
  | .raising => 7
  | .faulted => 8

/-- The code of a tilt position: NORMAL 0, TILTED 1. -/
def tiltCode (tilted : Bool) : Nat := if tilted then 1 else 0

/-- The code of a raising stage. -/
def stageCode : RaiseStage → Nat
  | .normal => 0
  | .stuck => 1
  | .blind => 2

/-! ## Fields -/

/-- A set of flags, three bytes (R185). -/
def flagBytes (f : FlagSet) : List Byte := beBytes 3 f.toNat

/-- A set of flags with the ANY summary (R159, R185). -/
def flagsAndAny (f : FlagSet) : List Byte := flagBytes f ++ markerByte (f != 0)

/-- A set of units, one byte (R185). -/
def unitSetByte (u : UnitSet) : List Byte := codeByte u.toNat

/-- The lines byte: detector in bit 0, pressure LO to RO in bits 1 to 4 (status body of 11). -/
def linesByte (s : State) : List Byte :=
  codeByte ((if detectorActive s then 1 else 0) + (if pressureActive .LO s then 2 else 0)
    + (if pressureActive .LI s then 4 else 0) + (if pressureActive .RI s then 8 else 0)
    + (if pressureActive .RO s then 16 else 0))

/-! ## Replies -/

/-- The part of the STATUS body for one unit: state, stage while RAISING, tilt (R139). -/
def unitStatus (h : Head) : List Byte :=
  codeByte (headCode h.state) ++ optCode (if h.state = .raising then h.stage.map stageCode else none)
    ++ codeByte (tiltCode h.tilted)

/-- The part of the STATUS body for one axis: state, and outcome while in HOLD (R166). -/
def axisStatus (x : Axis) : List Byte :=
  codeByte (axisCode x.state) ++ optCode (if x.state = .hold then x.outcome.map outcomeCode else none)

/-- The STATUS body, 74 bytes (R166; status body table of 11). -/
def statusBody (s : State) : List Byte :=
  codeByte (modeCode s.cyc.mode) ++ codeByte (phaseCode s.cyc.phase) ++ markerByte s.cyc.pausePending
    ++ codeByte (causeCode s.cyc.cause) ++ optCode (s.cyc.detail.map detailCode)
    ++ codeByte (resetCode s.cyc.resetCause) ++ optCode (s.cond.armed.map Flag.number)
    ++ flagsAndAny s.cond.flags ++ flagBytes s.cond.notice ++ flagBytes s.cond.stop
    ++ codeByte s.seg.segments.length ++ codeByte (freeEntries s.seg.segments)
    ++ optField 4 (queueEnd s.seg.segments)
    ++ codeByte s.slp.records.length ++ codeByte (s.slp.records.filter (·.state.finished)).length
    ++ optField 4 s.slp.highWater ++ beBytes 2 s.slp.nextSeq
    ++ signedField 4 (frameChainage s) ++ optField 4 (headChainage s) ++ optField 4 (satOffset s)
    ++ signedField 4 (detectorChainage s)
    ++ codeByte (driveCode s.pos.drive) ++ codeByte (demandCode s.pos.demand)
    ++ beBytes 2 (channelMask fun c => (s.count.get c).nulled)
    ++ beBytes 2 (channelMask fun c => (s.count.get c).fault) ++ linesByte s
    ++ unitSetByte s.headSet
    ++ unitStatus s.heads.LO ++ unitStatus s.heads.LI ++ unitStatus s.heads.RI ++ unitStatus s.heads.RO
    ++ axisStatus s.axes.liftL ++ axisStatus s.axes.liftR ++ axisStatus s.axes.line ++ codeByte 0

/-- The reading a SNAPSHOT carries for a channel: frame chainage for ODO (R9, R13). -/
def snapshotReading (c : ChannelId) (s : State) : Option Int :=
  match c with
  | .odo => some (frameChainage s)
  | c => reading c s

/-- The part of the SNAPSHOT body for one channel: count, reading, markers. -/
def channelBody (c : ChannelId) (s : State) : List Byte :=
  let ch := s.count.get c
  signedField 4 ch.count ++ optField 4 (snapshotReading c s)
    ++ codeByte ((if ch.nulled then 1 else 0) + (if ch.fault then 2 else 0))

/-- The SNAPSHOT body, 91 bytes (R13; after the status body table of 11). -/
def snapshotBody (s : State) : List Byte := (allChannels.flatMap fun c => channelBody c s) ++ linesByte s

/-! ## Notices -/

/-- The body of a MODE notice (R165). -/
def modeBody (n : ModeNotice) : List Byte :=
  codeByte (modeCode n.mode) ++ codeByte (causeCode n.cause) ++ optCode (n.detail.map detailCode)
    ++ codeByte (resetCode n.resetCause)

/-- The body of a CONDITION notice (R160). -/
def conditionBody (n : ConditionNotice) : List Byte := flagsAndAny n.flags ++ flagBytes n.raised

/-- The body of a SEGMENTS_WANTED notice (R53). -/
def wantedBody (n : SegmentsNotice) : List Byte :=
  optField 4 n.queueEnd ++ codeByte n.freeSegments ++ codeByte n.freeEntries ++ signedField 4 n.wanted

/-! ## The work record (R167; work record table of 11) -/

/-- The plan in a work record. -/
def planBody (p : Plan) : List Byte :=
  unitSetByte p.tamp ++ unitSetByte p.tilt ++ codeByte p.insertions ++ signedField 1 p.depthOffset
    ++ beBytes 2 p.segmentId

/-- The design part in a work record. -/
def designBody (d : DesignPart) : List Byte :=
  signedField 4 d.dLat ++ signedField 4 d.dLvl ++ signedField 2 d.cant ++ codeByte (gradeCode d.grade)
    ++ signedField 2 d.eLat ++ signedField 2 d.eLvl

/-- The target part in a work record. -/
def targetBody (t : TargetPart) : List Byte :=
  signedField 4 t.readings.vmLat ++ signedField 4 t.readings.vmL ++ signedField 4 t.readings.vmR
    ++ signedField 4 t.readings.xl ++ signedField 4 t.liftL ++ signedField 4 t.liftR ++ signedField 4 t.shift
    ++ signedField 4 t.vtLat ++ signedField 4 t.vtL ++ signedField 4 t.vtR

/-- The overshoot of a lift axis or the reversals of LINE. -/
def axisExtra (r : AxisReport) : Option Int :=
  match r.overshoot with
  | some x => some x
  | none => r.reversals.map Int.ofNat

/-- An axis's report in a work record. -/
def axisBody (r : AxisReport) : List Byte :=
  optCode (r.outcome.map outcomeCode) ++ optField 4 r.final ++ optField 4 (axisExtra r)

/-- A unit's report in a work record. -/
def unitBody (r : UnitReport) : List Byte :=
  codeByte ((if r.participated then 1 else 0) + (if r.blocked then 2 else 0) + (if r.faulted then 4 else 0))
    ++ codeByte r.insertions ++ codeByte r.pressureCount ++ optField 4 r.deepest

/-- The result part in a work record; the record flags stand in its first part. -/
def resultBody (r : ResultPart) : List Byte :=
  unitSetByte r.active ++ beBytes 2 r.cycleTime ++ optCode (r.skip.map skipCode)
    ++ axisBody r.axes.liftL ++ axisBody r.axes.liftR ++ axisBody r.axes.line
    ++ unitBody r.units.LO ++ unitBody r.units.LI ++ unitBody r.units.RI ++ unitBody r.units.RO

/-- A part that is left out where it is absent. -/
def partBody {α : Type} (f : α → List Byte) : Option α → List Byte
  | some x => f x
  | none => []

/-- The parts byte of a work record. -/
def partsPresent (r : Sleeper) : Nat :=
  (if r.plan.isSome then 1 else 0) + (if r.design.isSome then 2 else 0) + (if r.target.isSome then 4 else 0)
    + (if r.result.isSome then 8 else 0)

/-- The work record body. -/
def workRecordBody (r : Sleeper) : List Byte :=
  beBytes 2 r.seq ++ signedField 4 r.chainage ++ optField 2 r.width ++ codeByte (sourceCode r.source)
    ++ codeByte (recordCode r.state) ++ codeByte (partsPresent r) ++ beBytes 2 r.flags.toNat
    ++ partBody planBody r.plan ++ partBody designBody r.design ++ partBody targetBody r.target
    ++ partBody resultBody r.result

end Sys2Proof.Machine
end

