-- ==== Sys2Proof/Machine/Operands.lean ====
section
/-! DEFINITION. The requests as they come over the cab link: the eighteen kinds and the bodies of the kinds
table and of the segment body table of 11, read and written. -/

namespace Sys2Proof.Machine

/-! ## Fields of a body -/

/-- The unsigned field of `w` bytes at an offset. -/
def field (bytes : List Byte) (off w : Nat) : Nat := beNat ((bytes.drop off).take w)

/-- The signed field of `w` bytes at an offset. -/
def sfield (bytes : List Byte) (off w : Nat) : Int := signedOf w (field bytes off w)

/-- The one-byte field at an offset. -/
def bfield (bytes : List Byte) (off : Nat) : Byte := bytes.getD off 0

/-! ## Reading -/

/-- `n` entries of a NULL_CHANNELS body: channel in one byte, reference in four. -/
def readNulls : Nat → List Byte → List (Nat × Int)
  | 0, _ => []
  | n + 1, bytes => (field bytes 0 1, sfield bytes 1 4) :: readNulls n (bytes.drop 5)

/-- `n` bearer entries of a segment body. The offset and the insertions are read unsigned, the depth offset
signed (DEDUCED, log 25). -/
def readBearers : Nat → List Byte → List BearerBody
  | 0, _ => []
  | n + 1, bytes =>
    { offset := field bytes 0 4
      tamp := bfield bytes 4
      tilt := bfield bytes 5
      insertions := field bytes 6 1
      depthOffset := sfield bytes 7 1 } :: readBearers n (bytes.drop 8)

/-- The length a segment body must have by its presence byte and its bearer count (11, after the segment
body table). -/
def segmentLength (start survey : Bool) (n : Nat) : Nat :=
  21 + (if start then 4 else 0) + (if survey then 8 else 0) + 8 * n

/-- A segment body whose length agrees with what it declares (11): the presence byte names no other part,
and a list marked absent declares no entry. -/
def segmentShapeOk (bytes : List Byte) : Bool :=
  let p := bfield bytes 0
  let n := field bytes 1 1
  decide (21 ≤ bytes.length) && decide (p.toNat < 8) && (p.getLsbD 2 || decide (n = 0))
    && decide (bytes.length = segmentLength (p.getLsbD 0) (p.getLsbD 1) n)

/-- A segment body read (segment body table of 11). -/
def readSegment (bytes : List Byte) : SegmentBody :=
  let p := bfield bytes 0
  let survey := bytes.drop (if p.getLsbD 0 then 25 else 21)
  let list := if p.getLsbD 1 then survey.drop 8 else survey
  { id := field bytes 2 2
    length := sfield bytes 4 4
    kh0 := sfield bytes 8 2
    kh1 := sfield bytes 10 2
    kv0 := sfield bytes 12 2
    kv1 := sfield bytes 14 2
    cant0 := sfield bytes 16 2
    cant1 := sfield bytes 18 2
    grade := bfield bytes 20
    start := if p.getLsbD 0 then some (sfield bytes 21 4) else none
    survey := if p.getLsbD 1 then
        some ⟨sfield survey 0 2, sfield survey 2 2, sfield survey 4 2, sfield survey 6 2⟩
      else none
    bearers := if p.getLsbD 2 then some (readBearers (field bytes 1 1) list) else none }

/-- A request of a fixed body length. -/
def sized (bytes : List Byte) (n : Nat) (r : Request) : Request := if bytes.length = n then r else .badLength

/-- A NULL_CHANNELS body read: its length must match the number of entries it declares (R11). -/
def readNullRequest (bytes : List Byte) : Request :=
  if bytes.length = 1 + 5 * field bytes 0 1 ∧ 1 ≤ bytes.length then
    .nullChannels (readNulls (field bytes 0 1) (bytes.drop 1))
  else .badLength

/-- The port's check of a request's kind and then of its length (R173), by the kinds table of 11. -/
def Request.parse (kind : Byte) (body : List Byte) : Request :=
  match kind.toNat with
  | 0x01 => sized body 0 .status
  | 0x02 => sized body 0 .snapshot
  | 0x03 => readNullRequest body
  | 0x04 => sized body 4 (.setChainage (sfield body 0 4))
  | 0x05 => if segmentShapeOk body then .segmentAppend (readSegment body) else .badLength
  | 0x06 => sized body 4 (.segmentTruncate (sfield body 0 4))
  | 0x07 => sized body 1 (.headSet (bfield body 0))
  | 0x08 => sized body 0 .start
  | 0x09 => sized body 0 .pause
  | 0x0A => sized body 0 .stop
  | 0x0B => sized body 0 .clearHalt
  | 0x0C => sized body 0 .jobClear
  | 0x0D => sized body 6 (.setEnables (BitVec.ofNat 24 (field body 0 3)) (BitVec.ofNat 24 (field body 3 3)))
  | 0x0E => sized body 3 (.clearFlags (BitVec.ofNat 24 (field body 0 3)))
  | 0x0F => sized body 5 (.configure (bfield body 0) (BitVec.ofNat 32 (field body 1 4)))
  | 0x10 => sized body 1 (.readParam (bfield body 0))
  | 0x11 => sized body 0 .saveSettings
  | 0x12 => sized body 0 .restart
  | _ => .unknownKind

/-! ## Writing -/

/-- A signed field as the cab computer writes it, two's complement. -/
def putSigned (w : Nat) (x : Int) : List Byte := beBytes w (x % (256 ^ w : Nat)).toNat

/-- One bearer entry written. -/
def putBearer (b : BearerBody) : List Byte :=
  beBytes 4 b.offset ++ [b.tamp, b.tilt] ++ beBytes 1 b.insertions ++ putSigned 1 b.depthOffset

/-- A survey part written. -/
def putSurvey (v : Survey) : List Byte :=
  putSigned 2 v.lat0 ++ putSigned 2 v.lat1 ++ putSigned 2 v.vert0 ++ putSigned 2 v.vert1

/-- The presence byte of a segment body. -/
def presence (b : SegmentBody) : Nat :=
  (if b.start.isSome then 1 else 0) + (if b.survey.isSome then 2 else 0) + (if b.bearers.isSome then 4 else 0)

/-- The parts of a segment body that may be absent, written in their order. -/
def putOptional (b : SegmentBody) : List Byte :=
  (match b.start with
    | some x => putSigned 4 x
    | none => [])
    ++ (match b.survey with
      | some v => putSurvey v
      | none => [])
    ++ (b.bearers.getD []).flatMap putBearer

/-- A segment body written (segment body table of 11). -/
def putSegment (b : SegmentBody) : List Byte :=
  beBytes 1 (presence b) ++ beBytes 1 (b.bearers.getD []).length ++ beBytes 2 b.id ++ putSigned 4 b.length
    ++ putSigned 2 b.kh0 ++ putSigned 2 b.kh1 ++ putSigned 2 b.kv0 ++ putSigned 2 b.kv1
    ++ putSigned 2 b.cant0 ++ putSigned 2 b.cant1 ++ [b.grade] ++ putOptional b

/-- The kind of a request (kinds table of 11); 00h for the two that are no request of the table. -/
def Request.kind : Request → Byte
  | .unknownKind => 0x00
  | .badLength => 0x00
  | .status => 0x01
  | .snapshot => 0x02
  | .nullChannels _ => 0x03
  | .setChainage _ => 0x04
  | .segmentAppend _ => 0x05
  | .segmentTruncate _ => 0x06
  | .headSet _ => 0x07
  | .start => 0x08
  | .pause => 0x09
  | .stop => 0x0A
  | .clearHalt => 0x0B
  | .jobClear => 0x0C
  | .setEnables _ _ => 0x0D
  | .clearFlags _ => 0x0E
  | .configure _ _ => 0x0F
  | .readParam _ => 0x10
  | .saveSettings => 0x11
  | .restart => 0x12

/-- The body of a request (kinds table of 11). -/
def Request.body : Request → List Byte
  | .nullChannels entries =>
    beBytes 1 entries.length ++ entries.flatMap fun e => beBytes 1 e.1 ++ putSigned 4 e.2
  | .setChainage x => putSigned 4 x
  | .segmentAppend b => putSegment b
  | .segmentTruncate x => putSigned 4 x
  | .headSet set => [set]
  | .setEnables notices stops => beBytes 3 notices.toNat ++ beBytes 3 stops.toNat
  | .clearFlags set => beBytes 3 set.toNat
  | .configure id value => [id] ++ beBytes 4 value.toNat
  | .readParam id => [id]
  | .unknownKind => []
  | .badLength => []
  | .status => []
  | .snapshot => []
  | .start => []
  | .pause => []
  | .stop => []
  | .clearHalt => []
  | .jobClear => []
  | .saveSettings => []
  | .restart => []

/-- A request that an intact frame of the table can carry: one of the eighteen, its operands fitting the
fields of its body. -/
def Request.fits : Request → Bool
  | .unknownKind => false
  | .badLength => false
  | .nullChannels entries => nullEntriesFit entries
  | .setChainage x => fitsSigned 4 x
  | .segmentAppend b => b.fits
  | .segmentTruncate x => fitsSigned 4 x
  | .status => true
  | .snapshot => true
  | .headSet _ => true
  | .start => true
  | .pause => true
  | .stop => true
  | .clearHalt => true
  | .jobClear => true
  | .setEnables _ _ => true
  | .clearFlags _ => true
  | .configure _ _ => true
  | .readParam _ => true
  | .saveSettings => true
  | .restart => true

end Sys2Proof.Machine
end

