-- ==== Sys2Proof/Machine/Owners.lean ====
section
/-! DEFINITION. What the owning block of each request does with it: its checks in order, its effect, and the
status and content of its reply. -/

namespace Sys2Proof.Machine

/-- What a taking gives: the state after it, and the reply's status with its content, or nothing while the
request is still being taken (R173). -/
structure Taken where
  state : State
  answer : Option (Status × List Byte)
  deriving DecidableEq, Repr

/-- A request accepted, with the content of its OK reply. -/
def accepted (s : State) (content : List Byte) : Taken := ⟨s, some (.ok, content)⟩

/-- A request refused: nothing is changed, and the reply is the status alone (R185). -/
def refusedWith (status : Status) (s : State) : Taken := ⟨s, some (status, [])⟩

/-! ## STATUS and SNAPSHOT -/

/-- STATUS (R166). -/
def takeStatus (s : State) : Taken := accepted s (statusBody s)

/-- SNAPSHOT (R13). -/
def takeSnapshot (s : State) : Taken := accepted s (snapshotBody s)

/-! ## NULL_CHANNELS (R11, R12) -/

/-- The reference range of a channel (R11); ODO has none. -/
def referenceOk (c : ChannelId) (x : Int) : Bool :=
  match c with
  | .odo => false
  | .sat => decide (0 ≤ x ∧ x ≤ 10000)
  | .dep _ => decide (0 ≤ x ∧ x ≤ 10000)
  | .lat => decide (-50000 ≤ x ∧ x ≤ 50000)
  | .lvlL => decide (-50000 ≤ x ∧ x ≤ 50000)
  | .lvlR => decide (-50000 ≤ x ∧ x ≤ 50000)
  | .xl => decide (-50000 ≤ x ∧ x ≤ 50000)

/-- An entry names a channel that can be nulled, with a reference value in its range (R11). -/
def nullEntryOk (e : Nat × Int) : Bool :=
  match channelOfNumber e.1 with
  | some c => referenceOk c e.2
  | none => false

/-- The check of a NULL_CHANNELS list as a whole (R11). -/
def nullListOk (entries : List (Nat × Int)) : Bool :=
  !entries.isEmpty && entries.all nullEntryOk && decide (entries.map (·.1)).Nodup

/-- One channel nulled with a reference value (R12). -/
def nullChannel (c : ChannelId) (x : Int) (s : State) : State :=
  s.modCount fun q =>
    let ch := q.get c
    q.set c { ch with countAtNull := ch.count, reference := x, nulled := true, fault := false }

/-- One entry of an accepted list: the channel nulled, and a FAULTED unit returned to UP (R12, R131). -/
def nullEntry (s : State) (e : Nat × Int) : State :=
  match channelOfNumber e.1 with
  | some (.dep u) => restoreHead u (nullChannel (.dep u) e.2 s)
  | some c => nullChannel c e.2 s
  | none => s

/-- NULL_CHANNELS (R11, R12). The drive is re-determined (R23). -/
def takeNull (entries : List (Nat × Int)) (s : State) : Taken :=
  if s.cyc.mode ≠ .ready then refusedWith .wrongMode s
  else if nullListOk entries then accepted (refreshOutput (entries.foldl nullEntry s)) []
  else refusedWith .outOfRange s

/-! ## SET_CHAINAGE (R19) -/

/-- A value lies within the chainage range (00, "Units"). -/
def chainageOk (x : Int) : Bool := decide (-chainageMax ≤ x ∧ x ≤ chainageMax)

/-- SET_CHAINAGE (R19): the datum and the count at datum, the high-water chainage cleared, and the segment
queue judged at the new detector chainage (R50, R52). -/
def takeSetChainage (x : Int) (s : State) : Taken :=
  if s.cyc.mode ≠ .ready then refusedWith .wrongMode s
  else if !chainageOk x then refusedWith .outOfRange s
  else if !s.slp.records.isEmpty || !s.seg.segments.isEmpty then refusedWith .inUse s
  else
    let set := s.modPos fun p => { p with datum := x * 1000, countAtDatum := s.count.odo.count }
    accepted (judgeSegments (set.modSlp fun q => { q with highWater := none })) []

/-! ## SEGMENT_APPEND (R42 to R45) -/

/-- The grade rail of a code, LEFT or RIGHT (R185). -/
def gradeOf (g : Byte) : Option Grade := if g = 0 then some .left else if g = 1 then some .right else none

/-- A value lies between the negative and the positive of a bound. -/
def bounded (m x : Int) : Bool := decide (-m ≤ x ∧ x ≤ m)

/-- A unit set byte names nothing but the four units (R185). -/
def unitsOnly (b : Byte) : Bool := decide (b.toNat < 16)

/-- One bearer entry within its ranges (R42). -/
def bearerOk (length : Int) (b : BearerBody) : Bool :=
  decide ((b.offset : Int) < length) && unitsOnly b.tamp && unitsOnly b.tilt
    && decide (1 ≤ b.insertions ∧ b.insertions ≤ 4) && bounded 50 b.depthOffset

/-- Offsets strictly ascending (R42). -/
def ascending : List Nat → Bool
  | [] => true
  | [_] => true
  | x :: y :: rest => decide (x < y) && ascending (y :: rest)

/-- The four survey values within their range (R42). -/
def surveyOk (v : Survey) : Bool :=
  bounded 5000 v.lat0 && bounded 5000 v.lat1 && bounded 5000 v.vert0 && bounded 5000 v.vert1

/-- The bearer list of a body, empty where it is absent. -/
def listOf (b : SegmentBody) : List BearerBody := b.bearers.getD []

/-- The end a segment would have, where its start or the queue end gives one (R42). -/
def proposedEnd (b : SegmentBody) (segs : List Segment) : Option Int :=
  match b.start with
  | some x => some (x + b.length)
  | none => (queueEnd segs).map (· + b.length)

/-- Step 1 of the validation of an append (R42). -/
def segmentInRange (b : SegmentBody) (segs : List Segment) : Bool :=
  decide (1000 ≤ b.length ∧ b.length ≤ 500000) && b.start.all chainageOk && (proposedEnd b segs).all chainageOk
    && bounded 10000 b.kh0 && bounded 10000 b.kh1 && bounded 1000 b.kv0 && bounded 1000 b.kv1
    && bounded 2000 b.cant0 && bounded 2000 b.cant1 && (gradeOf b.grade).isSome && b.survey.all surveyOk
    && decide ((listOf b).length ≤ 24) && (listOf b).all (bearerOk b.length)
    && ascending ((listOf b).map (·.offset))

/-- Step 2: the start against the queue (R43). -/
def segmentGap (b : SegmentBody) (segs : List Segment) : Bool :=
  match queueEnd segs, b.start with
  | some e, some x => decide (x ≠ e)
  | none, none => true
  | _, _ => false

/-- Step 3: with the queue empty, the end is at or below the rear bound (R43). -/
def segmentBehind (b : SegmentBody) (s : State) : Bool :=
  s.seg.segments.isEmpty &&
    match b.start with
    | some x => decide (x + b.length ≤ rearBound s)
    | none => false

/-- The validation of an append, the first failure first (R42, R43). -/
def appendRefusal (b : SegmentBody) (s : State) : Option Status :=
  if !segmentInRange b s.seg.segments then some .outOfRange
  else if segmentGap b s.seg.segments then some .segGap
  else if segmentBehind b s then some .segBehind
  else if maxSegments ≤ s.seg.segments.length then some .segFull
  else if freeEntries s.seg.segments < (listOf b).length then some .poolFull
  else none

/-- A held bearer entry (R39): its chainage is the segment's start plus its offset, and it is WAITING. -/
def heldBearer (start : Int) (b : BearerBody) : Bearer where
  offset := b.offset
  chainage := start + b.offset
  tamp := b.tamp.truncate 4
  tilt := b.tilt.truncate 4
  insertions := b.insertions
  depthOffset := b.depthOffset
  consumed := false

/-- The segment an append adds (R38, R39, R44). -/
def heldSegment (start : Int) (b : SegmentBody) : Segment where
  id := b.id
  start := start
  length := b.length
  kh0 := b.kh0
  kh1 := b.kh1
  kv0 := b.kv0
  kv1 := b.kv1
  cant0 := b.cant0
  cant1 := b.cant1
  grade := (gradeOf b.grade).getD .left
  survey := b.survey
  planned := b.bearers.isSome
  bearers := (listOf b).map (heldBearer start)

/-- Where the new segment starts (R44): at the start given, or at the queue end. -/
def appendStart (b : SegmentBody) (segs : List Segment) : Int := b.start.getD ((queueEnd segs).getD 0)

/-- The queue with the new segment at its end (R44). -/
def appendSegment (b : SegmentBody) (s : State) : State :=
  s.modSeg fun q => { q with segments := q.segments ++ [heldSegment (appendStart b q.segments) b] }

/-- What the neighbours do at an accepted append (R45): the look-ahead condition and the starved state, then
the bearers the detector has passed (R71), those left WAITING while no entries were taken among them (R63; log
21), and the engine. A SEGMENTS_WANTED notice is filled before the last two act (DESIGN CHOICE, log
41). -/
def afterAppend (s : State) : State :=
  seek (judgeEngine (judgePassing (actOnStop (judgeStarved (judgeLookAhead true s)))))

/-- The content of an append's OK reply (R44). -/
def appendReply (g : Segment) (s : State) : List Byte :=
  beBytes 2 g.id ++ signedField 4 g.start ++ signedField 4 g.endAt ++ codeByte s.seg.segments.length
    ++ codeByte (freeEntries s.seg.segments)

/-- SEGMENT_APPEND (R42 to R45). The reply counts the queue as the append leaves it (log 21). -/
def takeAppend (b : SegmentBody) (s : State) : Taken :=
  match appendRefusal b s with
  | some status => refusedWith status s
  | none =>
    let added := appendSegment b s
    accepted (afterAppend added)
      (appendReply (heldSegment (appendStart b s.seg.segments) b) added)

/-! ## SEGMENT_TRUNCATE (R46 to R49) -/

/-- The segment that starts at X and all after it, where one does (R46, R47). -/
def cutAt (x : Int) (segs : List Segment) : List Segment := segs.dropWhile fun g => decide (g.start ≠ x)

/-- The segments before the one that starts at X. -/
def keptBefore (x : Int) (segs : List Segment) : List Segment := segs.takeWhile fun g => decide (g.start ≠ x)

/-- A bearer of the cut is CONSUMED (R46). -/
def cutConsumed (segs : List Segment) : Bool := segs.any fun g => g.bearers.any (·.consumed)

/-- A record's span end lies above X (R48, R49). -/
def spansPast (x : Int) (chainage : Int) (s : State) : Bool := decide (chainage + aMax s.params > x)

/-- A record that an accepted truncation at X reverts (R48). -/
def revertsAt (x : Int) (s : State) (r : Sleeper) : Bool :=
  decide (r.state = .designed) && spansPast x r.chainage s

/-- The current record, selected but not reached, is among those reverted (R48, R149). -/
def currentReverts (x : Int) (s : State) : Bool :=
  match currentRecord s with
  | some r => revertsAt x s r
  | none => false

/-- The window cut back and the records reverted (R47, R48). -/
def cutWindow (x : Int) (s : State) : State :=
  (s.modSeg fun q => { q with segments := keptBefore x q.segments }).modSlp fun q =>
    { q with records := q.records.map fun r => if revertsAt x s r then r.revert else r }

/-- The content of a truncation's OK reply (R47). -/
def truncateReply (x : Int) (s : State) : List Byte :=
  optField 4 (queueEnd (keptBefore x s.seg.segments)) ++ codeByte (cutAt x s.seg.segments).length
    ++ codeByte (bearersHeld (cutAt x s.seg.segments))
    ++ codeByte (s.slp.records.filter (revertsAt x s)).length

/-- An accepted truncation (R47 to R49). The cycle controller is told before the engine judges its next pass
(DESIGN CHOICE, log 22), and SEEK selects before the segment queue judges (DESIGN CHOICE, log 13). One that empties
the queue in WORK makes it starved, as R55 has every empty queue, although R47 says that a truncation in WORK cannot
(DESIGN CHOICE, log 45). -/
def truncate (x : Int) (s : State) : State :=
  let free := abandonDesign (fun p => spansPast x p.chainage s) (cutWindow x s)
  let told := if currentReverts x s then seek (returnToSeek (rideDrive free)) else free
  seek (judgeEngine (judgeSegments told))

/-- SEGMENT_TRUNCATE (R46 to R49). -/
def takeTruncate (x : Int) (s : State) : Taken :=
  let cut := cutAt x s.seg.segments
  if cut.isEmpty then refusedWith .outOfRange s
  else if decide (x ≤ detectorChainage s + s.params.p35) || cutConsumed cut then refusedWith .inUse s
  else accepted (truncate x s) (truncateReply x s)

/-! ## HEAD_SET and the mode requests -/

/-- HEAD_SET (R136). -/
def takeHeadSet (set : Byte) (s : State) : Taken :=
  if unitsOnly set then accepted { s with headSet := set.truncate 4 } [set] else refusedWith .outOfRange s

/-- The channels START requires are nulled (R141). -/
def startNulled (s : State) : Bool :=
  ([.sat, .lat, .lvlL, .lvlR, .xl].all fun c => (s.count.get c).nulled)
    && allUnits.all fun u =>
      decide ((s.heads.get u).state = .faulted) || (s.count.get (.dep u)).nulled

/-- Some unit is PARKING (R141). -/
def anyParking (s : State) : Bool := allUnits.any fun u => decide ((s.heads.get u).state = .parking)

/-- START (R141). At the entry into WORK the starved state is judged (R55) and a stop that SEG_STARVED arms is acted
on before SEEK selects its first record (DESIGN CHOICE, log 13). -/
def takeStart (s : State) : Taken :=
  if s.cyc.mode = .work ∨ s.cyc.mode = .halted then refusedWith .wrongMode s
  else if !startNulled s then refusedWith .notNulled s
  else if anyParking s then refusedWith .busy s
  else accepted (seek (actOnStop (judgeStarved (enterMode .work s)))) []

/-- The phases in which a pause takes effect at once (R142). -/
def pausesAtOnce : Phase → Bool
  | .seek => true
  | .waitDesign => true
  | _ => false

/-- PAUSE (R142). -/
def takePause (s : State) : Taken :=
  if s.cyc.mode = .work then
    if pausesAtOnce s.cyc.phase then accepted (enterMode .paused s) []
    else accepted (s.modCyc fun c => { c with pausePending := true }) []
  else refusedWith .wrongMode s

/-- STOP (R143). -/
def takeStop (s : State) : Taken := accepted (hardHalt .operator none s) []

/-- Every unit is UP or FAULTED (R144). -/
def headsAtRest (s : State) : Bool :=
  allUnits.all fun u =>
    decide ((s.heads.get u).state = .up) || decide ((s.heads.get u).state = .faulted)

/-- CLEAR_HALT (R144). -/
def takeClearHalt (s : State) : Taken :=
  if s.cyc.mode = .halted then
    if headsAtRest s && axesIdle s then accepted (enterMode .ready s) [] else refusedWith .busy s
  else refusedWith .wrongMode s

/-- The record whose work record is being transmitted (R76). -/
def recordInTransmission (s : State) : Option Sleeper :=
  match s.link.tx with
  | some t => if t.source = .workRecord then s.slp.records.head? else none
  | none => none

/-- The sleeper queue at JOB_CLEAR (R76): emptied but for a record in transmission, whose chainage becomes
the high-water chainage. -/
def clearRecords (s : State) : State :=
  s.modSlp fun _ =>
    { records := (recordInTransmission s).toList
      highWater := (recordInTransmission s).map (·.chainage)
      nextSeq := 1
      detection := none
      held := []
      staying := (recordInTransmission s).isSome }

/-- The segment queue at JOB_CLEAR, the look-ahead state kept until it is judged (R57). -/
def clearSegments (s : State) : State :=
  s.modSeg fun q => { segments := [], lookAhead := q.lookAhead, starved := false }

/-- JOB_CLEAR (R145, R57, R76, R91). -/
def takeJobClear (s : State) : Taken :=
  if s.cyc.mode = .ready ∨ s.cyc.mode = .halted then
    let freed := (clearSegments (clearRecords s)).modEng fun _ => { activity := .idle, request := none }
    accepted (refreshDemand (judgeSegments freed)) []
  else refusedWith .wrongMode s

/-! ## SET_ENABLES and CLEAR_FLAGS -/

/-- A flag set of the wire names nothing but the twenty flags (R185). -/
def flagsOnly (x : BitVec 24) : Bool := decide (x.toNat < 2 ^ 20)

/-- SET_ENABLES (R163). -/
def takeSetEnables (notice stop : BitVec 24) (s : State) : Taken :=
  if flagsOnly notice && flagsOnly stop then
    let set := s.modCond fun c => { c with notice := notice.truncate 20, stop := stop.truncate 20 }
    accepted set (flagBytes set.cond.notice ++ flagBytes set.cond.stop)
  else refusedWith .outOfRange s

/-- CLEAR_FLAGS (R164). -/
def takeClearFlags (flags : BitVec 24) (s : State) : Taken :=
  if flagsOnly flags then
    let cleared := s.modCond fun c => { c with flags := c.flags &&& ~~~ flags.truncate 20 }
    accepted cleared (flagsAndAny cleared.cond.flags)
  else refusedWith .outOfRange s

/-! ## Settings -/

/-- The parameter a request names is one of P01 to P39 (R180). -/
def idOk (id : Nat) : Bool := within 1 39 id

/-- The checks of a CONFIGURE, the first failure first (R180). -/
def configureRefusal (id v : Nat) (s : State) : Option Status :=
  if !idOk id then some .outOfRange
  else if isRest id && decide (s.cyc.mode ≠ .ready) then some .wrongMode
  else if !inRange id v then some .outOfRange
  else if !(s.params.put id v).crossOk then some .outOfRange
  else if id = 33 ∧ s.slp.records.isEmpty = false then some .inUse
  else none

/-- The content of a CONFIGURE or READ_PARAM reply: the id and the value in force (R181). -/
def valueReply (id : Byte) (s : State) : List Byte := [id] ++ beBytes 4 (s.params.value id.toNat)

/-- CONFIGURE (R180, R181). The value already in force changes nothing. -/
def takeConfigure (id : Byte) (value : BitVec 32) (s : State) : Taken :=
  match configureRefusal id.toNat value.toNat s with
  | some status => refusedWith status s
  | none =>
    if s.params.value id.toNat = value.toNat then accepted s (valueReply id s)
    else
      let replaced := s.modParams fun p => p.put id.toNat value.toNat
      accepted (parameterChanged id.toNat s replaced) (valueReply id replaced)

/-- READ_PARAM (R181). -/
def takeReadParam (id : Byte) (s : State) : Taken :=
  if idOk id.toNat then accepted s (valueReply id s) else refusedWith .outOfRange s

/-- SAVE_SETTINGS (R182): the store begins to write, and the reply waits for the completion. -/
def takeSave (s : State) : Taken :=
  if s.cyc.mode = .ready then ⟨s.modStore fun st => { st with saving := some (imageOf s.params) }, none⟩
  else refusedWith .wrongMode s

/-- RESTART (R177, R184): the restart marker is set, and the assembler stops with what it holds dropped. -/
def takeRestart (s : State) : Taken :=
  if s.cyc.mode = .ready ∨ s.cyc.mode = .halted then
    accepted (s.modLink fun l => { l with restart := true, assembler := .hunt }) []
  else refusedWith .wrongMode s

/-- The taking of a request by its owner (R173). -/
def takeRequest (r : Request) (s : State) : Taken :=
  match r with
  | .unknownKind => refusedWith .unknownKind s
  | .badLength => refusedWith .badLength s
  | .status => takeStatus s
  | .snapshot => takeSnapshot s
  | .nullChannels entries => takeNull entries s
  | .setChainage x => takeSetChainage x s
  | .segmentAppend b => takeAppend b s
  | .segmentTruncate x => takeTruncate x s
  | .headSet set => takeHeadSet set s
  | .start => takeStart s
  | .pause => takePause s
  | .stop => takeStop s
  | .clearHalt => takeClearHalt s
  | .jobClear => takeJobClear s
  | .setEnables notice stop => takeSetEnables notice stop s
  | .clearFlags flags => takeClearFlags flags s
  | .configure id value => takeConfigure id value s
  | .readParam id => takeReadParam id s
  | .saveSettings => takeSave s
  | .restart => takeRestart s

end Sys2Proof.Machine
end

