-- ==== Sys2Proof/Machine/Link.lean ====
section
/-! DEFINITION. The cab link port (10): the arrival and the taking of requests, the receive assembler, the
transmit arbitration, the end of a transmission, and the reset. -/

namespace Sys2Proof.Machine

/-! ## Frames sent -/

/-- The kind of a reply (R185): the request's with its top bit set, or 80h where that would be the kind of a
notice or of the work record. -/
def replyKind (kind : Byte) : Byte :=
  let k := kind ||| 0x80
  if 0xC0 ≤ k.toNat ∧ k.toNat ≤ 0xC3 then 0x80 else k

/-- The frame of a reply (R174, R185). -/
def replyFrame (kind tag : Byte) (status : Status) (content : List Byte) : List Byte :=
  frameBytes (replyKind kind) tag (codeByte (statusCode status) ++ content)

/-- The kind of a MODE notice (kinds table of 11). -/
def modeKind : Byte := 0xC0

/-- The kind of a CONDITION notice. -/
def conditionKind : Byte := 0xC1

/-- The kind of a SEGMENTS_WANTED notice. -/
def wantedKind : Byte := 0xC2

/-- The kind of a work record. -/
def workRecordKind : Byte := 0xC3

/-! ## Transmit arbitration (R175) -/

/-- The beginning of a transmission, now. -/
def sendFrame (source : TxSource) (bytes : List Byte) (s : State) : State :=
  s.modLink fun l => { l with tx := some ⟨source, bytes, s.clock⟩ }

/-- The three notice slots, in the order that breaks a tie of age. -/
inductive NoticeKind where
  | mode | condition | wanted
  deriving DecidableEq, Repr

/-- The ages of the pending slots. -/
def pendingSlots (l : Link) : List (NoticeKind × Nat) :=
  (l.modeSlot.toList.map fun x => (.mode, x.age)) ++ (l.condSlot.toList.map fun x => (.condition, x.age))
    ++ (l.segSlot.toList.map fun x => (.wanted, x.age))

/-- The slot of the earliest age, the first of those of one age (R175). -/
def earliest : List (NoticeKind × Nat) → Option (NoticeKind × Nat)
  | [] => none
  | x :: xs =>
    match earliest xs with
    | none => some x
    | some y => if y.2 < x.2 then some y else some x

/-- The sending of a slot's notice: its content is taken and the slot becomes empty (R161, R176). -/
def sendNotice (k : NoticeKind) (s : State) : State :=
  match k with
  | .mode =>
    match s.link.modeSlot with
    | some x =>
      sendFrame .notice (frameBytes modeKind 0 (modeBody x.content))
        (s.modLink fun l => { l with modeSlot := none })
    | none => s
  | .condition =>
    match s.link.condSlot with
    | some x =>
      sendFrame .notice (frameBytes conditionKind 0 (conditionBody x.content))
        (s.modLink fun l => { l with condSlot := none })
    | none => s
  | .wanted =>
    match s.link.segSlot with
    | some x =>
      sendFrame .notice (frameBytes wantedKind 0 (wantedBody x.content))
        (s.modLink fun l => { l with segSlot := none })
    | none => s

/-- What the controller sends of its own accord: the work record of the finished front record, else the
notice of the earliest age (R175, R168). -/
def sendOwn (s : State) : State :=
  match s.slp.records.head?.filter (·.state.finished) with
  | some r => sendFrame .workRecord (frameBytes workRecordKind 0 (workRecordBody r)) s
  | none =>
    match earliest (pendingSlots s.link) with
    | some (k, _) => sendNotice k s
    | none => s

/-- The transmit arbitration (R175): where the transmitter is idle, the first eligible item is sent. While
the restart marker is set, only replies are considered (R177). -/
def arbitrate (s : State) : State :=
  if s.powered && s.link.tx.isNone then
    match s.link.full, s.link.replies with
    | (kind, tag) :: _, _ => sendFrame .queueFull (replyFrame kind tag .queueFull []) s
    | [], r :: _ => sendFrame .reply (replyFrame r.kind r.tag r.status r.content) s
    | [], [] => if s.link.restart then s else sendOwn s
  else s

/-! ## Taking requests (R173, R177) -/

/-- The first request that has not had its reply made. -/
def nextRequest (s : State) : Option QueuedRequest :=
  s.link.requests.find? fun r => decide (r.progress ≠ .replied)

/-- The progress of the first request without a reply changed. -/
def markNext (p : Progress) : List QueuedRequest → List QueuedRequest
  | [] => []
  | r :: rest => if r.progress = .replied then r :: markNext p rest else { r with progress := p } :: rest

/-- The reply made for the first request without one (R173): it joins the end of the reply queue. -/
def makeReply (r : QueuedRequest) (status : Status) (content : List Byte) (s : State) : State :=
  s.modLink fun l =>
    { l with
      requests := markNext .replied l.requests
      replies := l.replies ++ [⟨r.kind, r.tag, status, content⟩] }

/-- One request taken (R173): behind an accepted RESTART it is answered BUSY with no effect (R177). -/
def takeOne (r : QueuedRequest) (s : State) : State :=
  if s.link.restart then makeReply r .busy [] s
  else
    let t := takeRequest r.request s
    match t.answer with
    | some (status, content) => makeReply r status content t.state
    | none => t.state.modLink fun l => { l with requests := markNext .taking l.requests }

/-- The waiting requests taken in their order, until one is being taken or none waits (R173). -/
def takeLoop : Nat → State → State
  | 0, s => s
  | n + 1, s =>
    match nextRequest s with
    | some r => if r.progress = .waiting then takeLoop n (takeOne r s) else s
    | none => s

/-- The front requests taken, at an arrival or when the request before them has had its reply made. -/
def takeRequests (s : State) : State := takeLoop (s.link.requests.length + 1) s

/-! ## Arrival (R172, R178) -/

/-- The supervision timer restarted at an arrival (R178). -/
def restartSupervision (s : State) : State :=
  s.modLink fun l =>
    { l with supervision := if s.params.p37 = 0 then none else some (s.loadTimer s.params.p37) }

/-- The most requests unanswered (R172). -/
def maxUnanswered : Nat := 4

/-- The most tags in the QUEUE_FULL list (R172). -/
def maxFull : Nat := 16

/-- The arrival of an intact request frame (R172): the supervision timer is restarted, and the request is
queued and taken in its turn, or its tag joins the QUEUE_FULL list. -/
def arriveFrame (kind tag : Byte) (r : Request) (s : State) : State :=
  let heard := restartSupervision s
  if s.link.requests.length < maxUnanswered then
    takeRequests (heard.modLink fun l => { l with requests := l.requests ++ [⟨kind, tag, r, .waiting⟩] })
  else
    heard.modLink fun l =>
      { l with full := l.full ++ [(kind, tag)], hold := l.hold || decide (maxFull ≤ l.full.length + 1) }

/-! ## The receive assembler (R171) -/

/-- A frame discarded (R171). -/
def discardFrame (s : State) : State :=
  raiseFlag .linkError (s.modLink fun l => { l with assembler := .hunt })

/-- A request's frame comes on the line whole (log 4): while a RESTART waits its bytes are dropped (R177), in
the receive hold they are dropped with LINK_ERROR (R172), and otherwise it arrives, with a frame that was being
assembled discarded by the pause before it (R171). -/
def receiveRequest (r : Request) (tag : Byte) (s : State) : State :=
  if s.link.restart then s
  else if s.link.hold then raiseFlag .linkError s
  else
    let stamped := s.modLink fun l => { l with lastByte := s.clock }
    arriveFrame r.kind tag r (if s.link.assembler = .hunt then stamped else discardFrame stamped)

/-- The assembler changed. -/
def assemble (a : Assembler) (s : State) : State := s.modLink fun l => { l with assembler := a }

/-- A byte taken in HUNT (R171). -/
def huntByte (b : Byte) (stopLow : Bool) (s : State) : State :=
  if b = syncByte ∧ stopLow = false then assemble .length s else s

/-- The state after TAG, BODY or CHECK as LENGTH says (R171). -/
def afterTag (len : Nat) (kind tag : Byte) : Assembler :=
  if len = 0 then .checkHigh kind tag [] else .body len kind tag []

/-- The CHECK judged (R171): a match completes an intact frame, which arrives. -/
def judgeCheck (kind tag : Byte) (body : List Byte) (high low : Byte) (s : State) : State :=
  if beNat [high, low] = crc16 (checkedBytes kind tag body) then
    arriveFrame kind tag (Request.parse kind body) (assemble .hunt s)
  else discardFrame s

/-- A byte with its stop bit high, taken in an assembly state other than HUNT (R171). -/
def assembleByte (b : Byte) (s : State) : State :=
  match s.link.assembler with
  | .hunt => huntByte b false s
  | .length => if b.toNat ≤ 240 then assemble (.kind b.toNat) s else discardFrame s
  | .kind len => assemble (.tag len b) s
  | .tag len kind => assemble (afterTag len kind b) s
  | .body len kind tag bytes =>
    if bytes.length + 1 < len then assemble (.body len kind tag (bytes ++ [b])) s
    else assemble (.checkHigh kind tag (bytes ++ [b])) s
  | .checkHigh kind tag body => assemble (.checkLow kind tag body b) s
  | .checkLow kind tag body high => judgeCheck kind tag body high b s

/-- The byte's start follows the end of the byte before it by more than 5 ms (R171). The instants are those
of the bytes' ends, and a byte takes 43.4 µs, so that more than 5,043 µs lie between them (DEDUCED,
log 35). -/
def byteLate (s : State) : Bool := decide (s.clock > s.link.lastByte + 5043)

/-- A byte that the assembler takes (R171): a late byte discards the frame and is then taken in HUNT, and a
byte with its stop bit low discards the frame. -/
def assemblerByte (b : Byte) (stopLow : Bool) (s : State) : State :=
  let stamped := s.modLink fun l => { l with lastByte := s.clock }
  if s.link.assembler = .hunt then huntByte b stopLow stamped
  else if byteLate s then huntByte b stopLow (discardFrame stamped)
  else if stopLow then discardFrame stamped
  else assembleByte b stamped

/-- A byte received (R171, R172, R177): dropped after a RESTART, dropped with LINK_ERROR in the hold,
assembled otherwise. -/
def receiveByte (b : Byte) (stopLow : Bool) (s : State) : State :=
  if s.link.restart then s
  else if s.link.hold then raiseFlag .linkError s
  else assemblerByte b stopLow s

/-! ## The end of a transmission (R175, R75, R76) -/

/-- The instant at which a frame's last byte has been sent: ten bit times a byte at 230,400 bit/s, in whole
microseconds (R170; log 39). -/
def Transmission.ends (t : Transmission) : Nat := t.began + t.bytes.length * 10000000 / 230400

/-- A QUEUE_FULL reply has been sent: its tag leaves, and the hold turns off below 16 (R172, R175). -/
def fullSent (s : State) : State :=
  s.modLink fun l =>
    { l with full := l.full.tail, hold := l.hold && decide (maxFull ≤ l.full.tail.length) }

/-- A reply has been sent: its request leaves the request queue (R175). -/
def replySent (s : State) : State :=
  s.modLink fun l => { l with requests := l.requests.tail, replies := l.replies.tail }

/-- A work record has been sent: the front record leaves (R75). Where it stayed from a JOB_CLEAR, the
high-water chainage is cleared unless a record has entered meanwhile (R76). -/
def departRecord (s : State) : State :=
  refreshDemand
    (s.modSlp fun q =>
      { q with
        records := q.records.tail
        staying := false
        highWater := if q.staying && q.records.tail.isEmpty then none else q.highWater })

/-- What leaves at the end of a transmission (R175). -/
def frameSent (source : TxSource) (s : State) : State :=
  let idle := s.modLink fun l => { l with tx := none }
  match source with
  | .queueFull => fullSent idle
  | .reply => replySent idle
  | .workRecord => departRecord idle
  | .notice => idle

/-! ## Reset (R183, R184) -/

/-- The reset of a power-on or a restart (R183, R184): the store reads the image, and every block takes its
reset state with the values loaded. -/
def resetWith (cause : ResetCause) (s : State) : State :=
  s.atReset (loadImage s.store.image).1 (loadImage s.store.image).2 cause

/-- The last reply waiting behind an accepted RESTART has been sent (R177). -/
def restartDue (s : State) : Bool := s.link.restart && s.link.full.isEmpty && s.link.replies.isEmpty

/-- The restart's reset, where it is due (R177). -/
def restartIfDue (s : State) : State := if restartDue s then resetWith .restart s else s

/-! ## Power -/

/-- The loss of power (R174, R176, R182): the frame being sent ends where it stands, requests, replies and
the QUEUE_FULL list with its hold are lost, and the image is left in whatever state a save in progress had
reached (log 9). -/
def losePower (s : State) : State :=
  let cut := match s.store.saving with
    | some _ =>
      { s with store := ⟨some s.tornImage, none⟩, freeNext := s.freeNext + 1 }
    | none => s
  { cut with
    powered := false
    link := { cut.link with tx := none, requests := [], replies := [], full := [], hold := false } }

end Sys2Proof.Machine
end

