-- ==== Sys2Proof/Machine/AxisEvents.lean ====
section
/-! DEFINITION. The meanings of AXIS_SETTLE_EXPIRY and AXIS_MOTION_TIMEOUT (06). -/

namespace Sys2Proof.Machine

/-- AXIS_SETTLE_EXPIRY (R109, R110): HOLD with outcome REACHED. A stopped settle timer has no expiry
(log 2). -/
def execAxisSettleExpiry (a : AxisId) (s : State) : Host.Outcome State Fault Refusal :=
  match s.powered, (s.axes.get a).settle with
  | true, some t => .next (arbitrate (afterAxis (enterHold a .reached (s.beginBy t.ends))))
  | _, _ => .next s

/-- AXIS_MOTION_TIMEOUT (R112). A stopped motion timer has no expiry (log 2). -/
def execAxisMotionTimeout (a : AxisId) (s : State) : Host.Outcome State Fault Refusal :=
  match s.powered, (s.axes.get a).motion with
  | true, some t => .next (arbitrate (afterAxis (timeOutAxis a (s.beginBy t.ends))))
  | _, _ => .next s

end Sys2Proof.Machine
end

