-- ==== Sys2Proof/Machine/LineEvents.lean ====
section
/-! DEFINITION. The meanings of LINE_LEVEL_CHANGE and FILTER_WINDOW_EXPIRY (01). -/

namespace Sys2Proof.Machine

/-- A present level that changes while the power is off: the line moves, and no filter is at work (log 30). -/
def driftLine (l : Line) (s : State) : State :=
  s.modCount fun q => q.setFilter l { q.filter l with present := !(q.filter l).present }

/-- The present levels that change while the power is off. -/
def driftLines (l : Line) (together : Bool) (s : State) : State :=
  match linePartner l with
  | some m => if together then driftLine m (driftLine l s) else driftLine l s
  | none => driftLine l s

/-- LINE_LEVEL_CHANGE (R1): the filter starts or stops timing, or with an empty window accepts the change at
once, with all that follows an accepted change. -/
def execLineLevelChange (dt : Nat) (l : Line) (together : Bool) (s : State) : Host.Outcome State Fault Refusal :=
  let t := s.beginAt dt
  .next (if t.powered then arbitrate (changeLevel l together t) else driftLines l together t)

/-- FILTER_WINDOW_EXPIRY (R1): the change that the line's filter is timing is accepted at the end of the
window, with that of its partner where the two began together (R5). A filter that is not timing has no
expiry (log 2). -/
def execFilterWindowExpiry (l : Line) (s : State) : Host.Outcome State Fault Refusal :=
  match s.powered, (s.count.filter l).since with
  | true, some t =>
    .next (arbitrate (acceptLine l (pairedLine l s) (s.beginBy (t + s.params.p38))))
  | _, _ => .next s

end Sys2Proof.Machine
end

