-- ==== Sys2Proof/Machine/LinkEvents.lean ====
section
/-! DEFINITION. The meanings of the rows of the cab link that are no request (10): a byte received, the end of
a transmission, and the expiry of the supervision timer. -/

namespace Sys2Proof.Machine

/-- A byte comes on the line `dt` µs after the command before, and the port does with it what R171, R172 and
R177 say. -/
def takeByte (dt : Nat) (b : Byte) (stopLow : Bool) (s : State) : State :=
  let t := s.beginAt dt
  if t.powered then arbitrate (receiveByte b stopLow t) else t

/-- RECEIVE_HOLD_DROP (R172): a byte received. Which of the four byte rows it is follows from the port's
state (log 5). -/
def execReceiveHoldDrop (dt : Nat) (b : Byte) (stopLow : Bool) (s : State) :
    Host.Outcome State Fault Refusal :=
  .next (takeByte dt b stopLow s)

/-- FRAME_DISCARD (R171): a byte received (log 5). -/
def execFrameDiscard (dt : Nat) (b : Byte) (stopLow : Bool) (s : State) : Host.Outcome State Fault Refusal :=
  .next (takeByte dt b stopLow s)

/-- FRAME_ARRIVAL (R172): a byte received (log 5). -/
def execFrameArrival (dt : Nat) (b : Byte) (stopLow : Bool) (s : State) : Host.Outcome State Fault Refusal :=
  .next (takeByte dt b stopLow s)

/-- BYTE_RECEIVED (R171). -/
def execByteReceived (dt : Nat) (b : Byte) (stopLow : Bool) (s : State) : Host.Outcome State Fault Refusal :=
  .next (takeByte dt b stopLow s)

/-- TRANSMIT_END (R175, R75, R177). With the transmitter idle it changes nothing (log 2). -/
def execTransmitEnd (s : State) : Host.Outcome State Fault Refusal :=
  match s.powered, s.link.tx with
  | true, some t => .next (arbitrate (restartIfDue (frameSent t.source (s.beginBy t.ends))))
  | _, _ => .next s

/-- The expiry of the supervision timer (R178, R154): the timer is stopped, and cab silence makes a hard halt
in WORK and PAUSED. -/
def cabSilence (s : State) : State :=
  hardHalt .cabSilent none (s.modLink fun l => { l with supervision := none })

/-- SUPERVISION_TIMEOUT (R178). A stopped timer has no expiry (log 2). -/
def execSupervisionTimeout (s : State) : Host.Outcome State Fault Refusal :=
  match s.powered, s.link.supervision with
  | true, some t => .next (arbitrate (cabSilence (s.beginBy t.ends)))
  | _, _ => .next s

end Sys2Proof.Machine
end

