-- ==== Sys2Proof/Machine/PassEvents.lean ====
section
/-! DEFINITION. The meanings of DESIGN_PASS_COMPLETE and TARGET_PASS_COMPLETE (05). -/

namespace Sys2Proof.Machine

/-- The engine IDLE, its pass, inputs and sums dropped; a held target request stays (R81). -/
def dropPass (s : State) : State := s.modEng fun e => { e with activity := .idle }

/-- The results of a design pass written (R87): the design part, and the record DESIGNED. -/
def writeDesign (p : DesignPass) (s : State) : State :=
  modRecord p.seq (fun r => { r with state := .designed, design := some (designPart p) }) s

/-- A cycle controller in WAIT_DESIGN for the record makes the reach judgement, keeping the active set
(R149). -/
def leaveWaitDesign (seq : Nat) (s : State) : State :=
  if waitsDesignOf seq s then
    match currentRecord s with
    | some r => judgeReach r s
    | none => s
  else s

/-- The completion of a design pass (R87), and what its neighbours find at that instant: the segment queue,
the cycle controller before the engine's next pass (log 16), the engine. -/
def completeDesign (p : DesignPass) (s : State) : State :=
  seek (judgeEngine (leaveWaitDesign p.seq (judgeSegments (writeDesign p (dropPass s)))))

/-- DESIGN_PASS_COMPLETE (R87). With no design pass in flight it changes nothing (log 2). -/
def execDesignPassComplete (dt : Nat) (s : State) : Host.Outcome State Fault Refusal :=
  match s.powered, s.eng.activity with
  | true, .designing p => .next (arbitrate (completeDesign p (s.beginAt dt)))
  | _, _ => .next s

/-- The results of a target pass written (R88): the target part, and the flags the pass raised. -/
def writeTarget (p : TargetPass) (s : State) : State :=
  let result := targetPart p
  let written := modRecord p.seq (fun r => { r with target := some result.1 }) s
  result.2.foldl (fun s f => recordFlag f s) written

/-- The start order to the three axes (R107, R152), with the target versines. -/
def startAxes (t : TargetPart) (s : State) : State :=
  startAxis .line t.vtLat (startAxis .liftR t.vtR (startAxis .liftL t.vtL s))

/-- The reports CHANNEL_LOST of the axes whose channel had no reading at the start (R107, R116), in the order
of the axes (log 13). -/
def reportStartCuts (s : State) : State :=
  let cut := allAxes.filter fun a => decide ((s.axes.get a).state = .hold ∧ (s.axes.get a).outcome = some .cut)
  cut.foldl (fun s a => axisChannelLost (axisChannel a) s) s

/-- The completion of a target pass at the cycle controller (R88, R152): WORKING, the three starts before any
report is acted on (log 17), the squeeze gate, the release condition, and the engine's next pass. -/
def completeTarget (p : TargetPass) (s : State) : State :=
  let written := writeTarget p (dropPass s)
  let started := startAxes (targetPart p).1 (setPhase .working written)
  seek (judgeEngine (judgeRelease (afterAxis (reportStartCuts started))))

/-- TARGET_PASS_COMPLETE (R88). With no target pass in flight it changes nothing (log 2). -/
def execTargetPassComplete (dt : Nat) (s : State) : Host.Outcome State Fault Refusal :=
  match s.powered, s.eng.activity with
  | true, .targeting p => .next (arbitrate (completeTarget p (s.beginAt dt)))
  | _, _ => .next s

end Sys2Proof.Machine
end

