-- ==== Sys2Proof/Machine/PowerEvents.lean ====
section
/-! DEFINITION. The meanings of POWER_ON, POWER_FAILURE and SAVE_COMPLETE (11). -/

namespace Sys2Proof.Machine

/-- POWER_ON (R183): the power-on reset, from the image or the defaults, and the first transmission. Power
that comes on where it is on has failed in between (log 31). -/
def execPowerOn (s : State) : Host.Outcome State Fault Refusal :=
  let t := s.beginAt 0
  .next (arbitrate (resetWith .power (if t.powered then losePower t else t)))

/-- POWER_FAILURE (R182, R174, R176). Without power it changes nothing (log 30). -/
def execPowerFailure (dt : Nat) (s : State) : Host.Outcome State Fault Refusal :=
  let t := s.beginAt dt
  .next (if t.powered then losePower t else t)

/-- The end of a save (R182): on a match the image is what was written and the reply is OK; otherwise it is
left with bytes nothing says (log 9) and the reply is STORE_FAILED. -/
def endSave (matched : Bool) (image : List Byte) (s : State) : State :=
  if matched then { s with store := ⟨some image, none⟩ }
  else { s with store := ⟨some s.tornImage, none⟩, freeNext := s.freeNext + 1 }

/-- The reply to the SAVE_SETTINGS that is being taken, and the requests behind it taken (R173, R182). -/
def answerSave (status : Status) (s : State) : State :=
  takeRequests
    (match nextRequest s with
      | some r => makeReply r status [] s
      | none => s)

/-- SAVE_COMPLETE (R182). With no save in progress it changes nothing (log 2). -/
def execSaveComplete (dt : Nat) (matched : Bool) (s : State) : Host.Outcome State Fault Refusal :=
  match s.powered, s.store.saving with
  | true, some image =>
    .next (arbitrate (answerSave (if matched then .ok else .storeFailed) (endSave matched image (s.beginAt dt))))
  | _, _ => .next s

end Sys2Proof.Machine
end

