-- ==== Sys2Proof/Machine/Requests.lean ====
section
/-! DEFINITION. The meanings of the eighteen requests: an intact frame that carries the request comes on the
line (DESIGN CHOICE, log 4). What its owner does with it stands in Machine/Owners.lean. -/

namespace Sys2Proof.Machine

/-- A request's frame comes `dt` µs after the command before. Without power nothing is received (log 30). -/
def request (dt : Nat) (tag : Byte) (r : Request) (s : State) : State :=
  let t := s.beginAt dt
  if t.powered then arbitrate (receiveRequest r tag t) else t

/-- STATUS (R166). -/
def execStatus (dt : Nat) (tag : Byte) (s : State) : Host.Outcome State Fault Refusal :=
  .next (request dt tag .status s)

/-- SNAPSHOT (R13). -/
def execSnapshot (dt : Nat) (tag : Byte) (s : State) : Host.Outcome State Fault Refusal :=
  .next (request dt tag .snapshot s)

/-- NULL_CHANNELS (R11, R12). -/
def execNullChannels (dt : Nat) (tag : Byte) (entries : List (Nat × Int)) (s : State) :
    Host.Outcome State Fault Refusal :=
  .next (request dt tag (.nullChannels entries) s)

/-- SET_CHAINAGE (R19). -/
def execSetChainage (dt : Nat) (tag : Byte) (x : Int) (s : State) : Host.Outcome State Fault Refusal :=
  .next (request dt tag (.setChainage x) s)

/-- SEGMENT_APPEND (R42 to R45). -/
def execSegmentAppend (dt : Nat) (tag : Byte) (body : SegmentBody) (s : State) :
    Host.Outcome State Fault Refusal :=
  .next (request dt tag (.segmentAppend body) s)

/-- SEGMENT_TRUNCATE (R46 to R49). -/
def execSegmentTruncate (dt : Nat) (tag : Byte) (x : Int) (s : State) : Host.Outcome State Fault Refusal :=
  .next (request dt tag (.segmentTruncate x) s)

/-- HEAD_SET (R136). -/
def execHeadSet (dt : Nat) (tag : Byte) (set : Byte) (s : State) : Host.Outcome State Fault Refusal :=
  .next (request dt tag (.headSet set) s)

/-- START (R141). -/
def execStart (dt : Nat) (tag : Byte) (s : State) : Host.Outcome State Fault Refusal :=
  .next (request dt tag .start s)

/-- PAUSE (R142). -/
def execPause (dt : Nat) (tag : Byte) (s : State) : Host.Outcome State Fault Refusal :=
  .next (request dt tag .pause s)

/-- STOP (R143). -/
def execStop (dt : Nat) (tag : Byte) (s : State) : Host.Outcome State Fault Refusal :=
  .next (request dt tag .stop s)

/-- CLEAR_HALT (R144). -/
def execClearHalt (dt : Nat) (tag : Byte) (s : State) : Host.Outcome State Fault Refusal :=
  .next (request dt tag .clearHalt s)

/-- JOB_CLEAR (R145). -/
def execJobClear (dt : Nat) (tag : Byte) (s : State) : Host.Outcome State Fault Refusal :=
  .next (request dt tag .jobClear s)

/-- SET_ENABLES (R163). -/
def execSetEnables (dt : Nat) (tag : Byte) (notice stop : BitVec 24) (s : State) :
    Host.Outcome State Fault Refusal :=
  .next (request dt tag (.setEnables notice stop) s)

/-- CLEAR_FLAGS (R164). -/
def execClearFlags (dt : Nat) (tag : Byte) (set : BitVec 24) (s : State) : Host.Outcome State Fault Refusal :=
  .next (request dt tag (.clearFlags set) s)

/-- CONFIGURE (R180, R181). -/
def execConfigure (dt : Nat) (tag : Byte) (id : Byte) (value : BitVec 32) (s : State) :
    Host.Outcome State Fault Refusal :=
  .next (request dt tag (.configure id value) s)

/-- READ_PARAM (R181). -/
def execReadParam (dt : Nat) (tag : Byte) (id : Byte) (s : State) : Host.Outcome State Fault Refusal :=
  .next (request dt tag (.readParam id) s)

/-- SAVE_SETTINGS (R182). -/
def execSaveSettings (dt : Nat) (tag : Byte) (s : State) : Host.Outcome State Fault Refusal :=
  .next (request dt tag .saveSettings s)

/-- RESTART (R177, R184). -/
def execRestart (dt : Nat) (tag : Byte) (s : State) : Host.Outcome State Fault Refusal :=
  .next (request dt tag .restart s)

end Sys2Proof.Machine
end

