-- ==== Sys2Proof/Machine/UnitEvents.lean ====
section
/-! DEFINITION. The meanings of the seven expiries of a workhead unit's phase timer (07). -/

namespace Sys2Proof.Machine

/-- The phase timer of a unit, where it runs in the state and stage an expiry belongs to and the power is
on. -/
def phaseTimer (u : UnitId) (state : HeadState) (stage : Option RaiseStage) (s : State) : Option Timer :=
  if s.powered ∧ (s.heads.get u).state = state ∧ (s.heads.get u).stage = stage then (s.heads.get u).timer
  else none

/-- An expiry of a unit's phase timer with its effect, and what follows the change of the unit's state.
Where the timer does not run in that phase there is no expiry (log 2). -/
def onExpiry (u : UnitId) (timer : Option Timer) (effect : State → State) (s : State) :
    Host.Outcome State Fault Refusal :=
  match timer with
  | some t => .next (arbitrate (afterUnit u (effect (s.beginBy t.ends))))
  | none => .next s

/-- TILT_EXPIRY (R122). -/
def execTiltExpiry (u : UnitId) (s : State) : Host.Outcome State Fault Refusal :=
  onExpiry u (phaseTimer u .tilting none s) (endTilt u) s

/-- LOWER_TIMEOUT (R123). -/
def execLowerTimeout (u : UnitId) (s : State) : Host.Outcome State Fault Refusal :=
  onExpiry u (phaseTimer u .lowering none s) (blockHead u) s

/-- SQUEEZE_TIMER_EXPIRY (R125). -/
def execSqueezeTimerExpiry (u : UnitId) (s : State) : Host.Outcome State Fault Refusal :=
  onExpiry u (phaseTimer u .squeezing none s) (endPhase u) s

/-- OPEN_EXPIRY (R127). -/
def execOpenExpiry (u : UnitId) (s : State) : Host.Outcome State Fault Refusal :=
  onExpiry u (phaseTimer u .opening none s) (endOpening u) s

/-- A raise that has timed out (R128, R129): UP where the head is clear of the ballast, otherwise stage STUCK
with the report UNIT_STUCK, on which the cycle controller makes a hard halt. -/
def endRaise (u : UnitId) (s : State) : State :=
  if clearAtTimeout u s then enterUp u s else hardHalt .unitStuck (some (.unit u)) (enterStuck u s)

/-- RAISE_TIMEOUT (R128, R129). -/
def execRaiseTimeout (u : UnitId) (s : State) : Host.Outcome State Fault Refusal :=
  onExpiry u (phaseTimer u .raising (some .normal) s) (endRaise u) s

/-- BLIND_RAISE_EXPIRY (R131). -/
def execBlindRaiseExpiry (u : UnitId) (s : State) : Host.Outcome State Fault Refusal :=
  onExpiry u (phaseTimer u .raising (some .blind) s) (enterFaulted u) s

/-- PARKING_EXPIRY (R137). -/
def execParkingExpiry (u : UnitId) (s : State) : Host.Outcome State Fault Refusal :=
  onExpiry u (phaseTimer u .parking none s) (endParking u) s

end Sys2Proof.Machine
end

