-- ==== Sys2Proof/Machine/Dispatch.lean ====
section
/-! DEFINITION. One arm per command: a direct call of its meaning. -/

namespace Sys2Proof.Machine

def exec (i : Instr) (s : State) : Host.Outcome State Fault Refusal :=
  match i with
  | .powerOn => Sys2Proof.Machine.execPowerOn s
  | .lineLevelChange dt line together => Sys2Proof.Machine.execLineLevelChange dt line together s
  | .filterWindowExpiry line => Sys2Proof.Machine.execFilterWindowExpiry line s
  | .designPassComplete dt => Sys2Proof.Machine.execDesignPassComplete dt s
  | .targetPassComplete dt => Sys2Proof.Machine.execTargetPassComplete dt s
  | .axisSettleExpiry a => Sys2Proof.Machine.execAxisSettleExpiry a s
  | .axisMotionTimeout a => Sys2Proof.Machine.execAxisMotionTimeout a s
  | .tiltExpiry u => Sys2Proof.Machine.execTiltExpiry u s
  | .lowerTimeout u => Sys2Proof.Machine.execLowerTimeout u s
  | .squeezeTimerExpiry u => Sys2Proof.Machine.execSqueezeTimerExpiry u s
  | .openExpiry u => Sys2Proof.Machine.execOpenExpiry u s
  | .raiseTimeout u => Sys2Proof.Machine.execRaiseTimeout u s
  | .blindRaiseExpiry u => Sys2Proof.Machine.execBlindRaiseExpiry u s
  | .parkingExpiry u => Sys2Proof.Machine.execParkingExpiry u s
  | .receiveHoldDrop dt byte stopLow => Sys2Proof.Machine.execReceiveHoldDrop dt byte stopLow s
  | .frameDiscard dt byte stopLow => Sys2Proof.Machine.execFrameDiscard dt byte stopLow s
  | .frameArrival dt byte stopLow => Sys2Proof.Machine.execFrameArrival dt byte stopLow s
  | .transmitEnd => Sys2Proof.Machine.execTransmitEnd s
  | .supervisionTimeout => Sys2Proof.Machine.execSupervisionTimeout s
  | .saveComplete dt matched => Sys2Proof.Machine.execSaveComplete dt matched s
  | .status dt tag => Sys2Proof.Machine.execStatus dt tag s
  | .snapshot dt tag => Sys2Proof.Machine.execSnapshot dt tag s
  | .nullChannels dt tag entries => Sys2Proof.Machine.execNullChannels dt tag entries s
  | .setChainage dt tag x => Sys2Proof.Machine.execSetChainage dt tag x s
  | .segmentAppend dt tag body => Sys2Proof.Machine.execSegmentAppend dt tag body s
  | .segmentTruncate dt tag x => Sys2Proof.Machine.execSegmentTruncate dt tag x s
  | .headSet dt tag set => Sys2Proof.Machine.execHeadSet dt tag set s
  | .start dt tag => Sys2Proof.Machine.execStart dt tag s
  | .pause dt tag => Sys2Proof.Machine.execPause dt tag s
  | .stop dt tag => Sys2Proof.Machine.execStop dt tag s
  | .clearHalt dt tag => Sys2Proof.Machine.execClearHalt dt tag s
  | .jobClear dt tag => Sys2Proof.Machine.execJobClear dt tag s
  | .setEnables dt tag notice stop => Sys2Proof.Machine.execSetEnables dt tag notice stop s
  | .clearFlags dt tag set => Sys2Proof.Machine.execClearFlags dt tag set s
  | .configure dt tag id value => Sys2Proof.Machine.execConfigure dt tag id value s
  | .readParam dt tag id => Sys2Proof.Machine.execReadParam dt tag id s
  | .saveSettings dt tag => Sys2Proof.Machine.execSaveSettings dt tag s
  | .restart dt tag => Sys2Proof.Machine.execRestart dt tag s
  | .byteReceived dt byte stopLow => Sys2Proof.Machine.execByteReceived dt byte stopLow s
  | .powerFailure dt => Sys2Proof.Machine.execPowerFailure dt s

end Sys2Proof.Machine
end

