-- ==== Sys2Proof/Safety.lean ====
section
/-! DEFINITION. What holds of a sound state of the controller, in the terms the statements use. -/

namespace Sys2Proof.Machine

/-- Every parameter lies within its range (table of 11; R180). -/
structure Params.Ranged (p : Params) : Prop where
  p01 : 3000 ≤ p.p01 ∧ p.p01 ≤ 20000
  p02 : 2000 ≤ p.p02 ∧ p.p02 ≤ 12000
  p03 : 3000 ≤ p.p03 ∧ p.p03 ≤ 20000
  p04 : 2000 ≤ p.p04 ∧ p.p04 ≤ 12000
  p05 : 100 ≤ p.p05 ∧ p.p05 ≤ 5000
  p06 : 10 ≤ p.p06 ∧ p.p06 ≤ 1000
  p07 : 10 ≤ p.p07 ∧ p.p07 ≤ 1000
  p08 : 4000 ≤ p.p08 ∧ p.p08 ≤ 20000
  p09 : 1000 ≤ p.p09 ∧ p.p09 ≤ 8000
  p10 : 200 ≤ p.p10 ∧ p.p10 ≤ 4000
  p11 : 100 ≤ p.p11 ∧ p.p11 ≤ 3000
  p12 : 2 ≤ p.p12 ∧ p.p12 ≤ 50
  p13 : 50 ≤ p.p13 ∧ p.p13 ≤ 500
  p14 : 20 ≤ p.p14 ∧ p.p14 ≤ 200
  p15 : 0 ≤ p.p15 ∧ p.p15 ≤ 5000
  p16 : 0 ≤ p.p16 ∧ p.p16 ≤ 2000
  p17 : 500 ≤ p.p17 ∧ p.p17 ≤ 20000
  p18 : 500 ≤ p.p18 ∧ p.p18 ≤ 10000
  p19 : 0 ≤ p.p19 ∧ p.p19 ≤ 300
  p20 : 0 ≤ p.p20 ∧ p.p20 ≤ 300
  p21 : 500 ≤ p.p21 ∧ p.p21 ≤ 10000
  p22 : 500 ≤ p.p22 ∧ p.p22 ≤ 10000
  p23 : p.p23 ≤ 7
  p24 : 100 ≤ p.p24 ∧ p.p24 ≤ 700
  p25 : 20 ≤ p.p25 ∧ p.p25 ≤ 200
  p26 : 0 ≤ p.p26 ∧ p.p26 ≤ 50
  p27 : 500 ≤ p.p27 ∧ p.p27 ≤ 5000
  p28 : 500 ≤ p.p28 ∧ p.p28 ≤ 6000
  p29 : 200 ≤ p.p29 ∧ p.p29 ≤ 3000
  p30 : 100 ≤ p.p30 ∧ p.p30 ≤ 1500
  p32 : 100 ≤ p.p32 ∧ p.p32 ≤ 1500
  p33 : 300 ≤ p.p33 ∧ p.p33 ≤ 800
  p34min : 80 ≤ p.p34min ∧ p.p34min ≤ 400
  p34max : 150 ≤ p.p34max ∧ p.p34max ≤ 600
  p35 : 20 ≤ p.p35 ∧ p.p35 ≤ 300
  p36 : 10000 ≤ p.p36 ∧ p.p36 ≤ 200000
  p37 : p.p37 = 0 ∨ 200 ≤ p.p37 ∧ p.p37 ≤ 5000
  p38 : p.p38 ≤ 15

/-- The cross-conditions (R180). -/
structure Params.Crossed (p : Params) : Prop where
  lining : p.p01 + p.p02 ≤ 24000
  levelling : p.p03 + p.p04 ≤ 24000
  thresholds : p.p11 < p.p10 ∧ p.p10 < p.p09
  window : p.p12 < p.p14
  depths : p.p26 < p.p25 ∧ p.p25 < p.p24 - 50
  lifts : p.p16 ≤ p.p17
  widths : p.p34min < p.p34max

/-- A live parameter set that CONFIGURE and the store can leave in force (R180, R183). -/
structure Params.Legal (p : Params) : Prop where
  ranged : p.Ranged
  crossed : p.Crossed

/-- The bounds of the queues and lists: at most 16 sleeper records (R67) with a next sequence number from 1
to 65,535 (R78), at most four unanswered requests and 16 tags in the QUEUE_FULL list (R172). -/
structure State.Bounded (s : State) : Prop where
  records : s.slp.records.length ≤ 16
  numbering : 1 ≤ s.slp.nextSeq ∧ s.slp.nextSeq ≤ 65535
  requests : s.link.requests.length ≤ 4
  full : s.link.full.length ≤ 16

/-- The receive hold is on exactly while the QUEUE_FULL list holds 16 tags (R172). -/
def State.HoldTracks (s : State) : Prop := s.link.hold = decide (16 ≤ s.link.full.length)

/-- At most one drive output of an axis and float: float is on in IDLE alone, a drive output in MOVING with
stage DRIVING alone (R105). -/
def Axis.OutputsApart (x : Axis) (a : AxisId) : Prop :=
  ¬ (floatOn x = true ∧ (driveOutput a x).isSome = true)

/-! ## Rules of the whole machine -/

/-- No unit squeezes unless all three axes hold (R114). -/
def State.SqueezesHeld (s : State) : Prop :=
  (∃ u, (s.heads.get u).state = .squeezing) → ∀ a, (s.axes.get a).state = .hold

/-- Only a unit in RAISING, before any loss of its depth, holds a pending lower (R121, R128 to R132). -/
def State.LowersPendRaising (s : State) : Prop :=
  ∀ u, (s.heads.get u).pendingLower = true →
    (s.heads.get u).state = .raising
      ∧ ((s.heads.get u).stage = some .normal ∨ (s.heads.get u).stage = some .stuck)

/-- The satellite drive is at a fast speed only while every unit is UP, TILTING, PARKING or FAULTED (R24). -/
def State.FastIsClear (s : State) : Prop :=
  s.pos.output = .fwdFast ∨ s.pos.output = .backFast →
    ∀ u, (s.heads.get u).state = .up ∨ (s.heads.get u).state = .tilting ∨ (s.heads.get u).state = .parking
      ∨ (s.heads.get u).state = .faulted

/-- What makes the travel demand STOP in WORK: the queue term, the design term and the stroke term (R35). -/
def State.stopTerm (s : State) : Prop :=
  15 ≤ s.slp.records.length ∨ s.cyc.phase = .waitDesign
    ∨ s.pos.drive = .holding ∧ ∃ o, satOffset s = some o ∧ o ≤ s.params.p11

/-- What makes it CREEP where it is not STOP (R35). -/
def State.creepTerm (s : State) : Prop :=
  s.pos.drive = .holding ∧ ∃ o, satOffset s = some o ∧ s.params.p11 < o ∧ o ≤ s.params.p10

/-- The travel demand is the one R34 and R35 give for the state as it stands. -/
structure State.DemandCurrent (s : State) : Prop where
  ready : s.cyc.mode = .ready → s.pos.demand = .go
  resting : s.cyc.mode = .paused ∨ s.cyc.mode = .halted → s.pos.demand = .stop
  stops : s.cyc.mode = .work → (s.pos.demand = .stop ↔ s.stopTerm)
  creeps : s.cyc.mode = .work → (s.pos.demand = .creep ↔ ¬ s.stopTerm ∧ s.creepTerm)

/-- The sleeper records stand in strictly ascending chainage, more than P33 apart, and while any is held the
high-water chainage is that of the last (R74). -/
structure State.RecordsSpaced (s : State) : Prop where
  spaced : s.slp.records.Pairwise fun a b => a.chainage < b.chainage ∧ a.chainage + s.params.p33 < b.chainage
  highest : ∀ r, s.slp.records.getLast? = some r → s.slp.highWater = some r.chainage

/-- The bearers of the pool, segment by segment (R40). -/
def poolOf (segs : List Segment) : List Bearer := segs.flatMap (·.bearers)

/-- The window of segments as R40 states it. -/
structure State.WindowSound (s : State) : Prop where
  segments : s.seg.segments.length ≤ 32
  joined : ∀ i g h, s.seg.segments[i]? = some g → s.seg.segments[i + 1]? = some h → h.start = g.start + g.length
  lengths : ∀ g ∈ s.seg.segments, 0 < g.length
  pool : (poolOf s.seg.segments).length ≤ 192
  inside : ∀ g ∈ s.seg.segments, ∀ b ∈ g.bearers, (b.offset : Int) < g.length ∧ b.chainage = g.start + b.offset
  offsets : ∀ g ∈ s.seg.segments, (g.bearers.map (·.offset)).Pairwise (· < ·)
  ascending : ((poolOf s.seg.segments).map (·.chainage)).Pairwise (· < ·)

/-- Nothing eligible waits for an idle transmitter (R175, R177). -/
def State.LineBusyOrDone (s : State) : Prop :=
  s.powered = true → s.link.tx = none →
    s.link.full = [] ∧ s.link.replies = [] ∧
      (s.link.restart = false →
        (∀ r, s.slp.records.head? = some r → r.state.finished = false)
          ∧ s.link.modeSlot = none ∧ s.link.condSlot = none ∧ s.link.segSlot = none)

/-- The lift of the grade rail in a target part (R101). -/
def gradeLift (d : DesignPart) (t : TargetPart) : Int := if d.grade = .left then t.liftL else t.liftR

/-! ## A port that listens, and its answer -/

/-- The port takes the next request at its arrival: the power is on, no RESTART waits, the receive hold is
off, fewer than four requests are unanswered, and none of them is still waiting or being taken (R172, R173,
R177). -/
structure State.Answers (s : State) : Prop where
  powered : s.powered = true
  running : s.link.restart = false
  hearing : s.link.hold = false
  room : s.link.requests.length < 4
  settled : ∀ q ∈ s.link.requests, q.progress = .replied

/-- The port listens for a frame: it takes the next request at its arrival, and no frame is being assembled,
which a request's frame would discard (R171; log 4). -/
structure State.Listens (s : State) : Prop extends State.Answers s where
  hunting : s.link.assembler = .hunt

/-- The request that one of the eighteen request rows carries, with its time and tag (kinds table of 11). -/
def requestOf : Instr → Option (Nat × Byte × Request)
  | .status dt tag => some (dt, tag, .status)
  | .snapshot dt tag => some (dt, tag, .snapshot)
  | .nullChannels dt tag entries => some (dt, tag, .nullChannels entries)
  | .setChainage dt tag x => some (dt, tag, .setChainage x)
  | .segmentAppend dt tag body => some (dt, tag, .segmentAppend body)
  | .segmentTruncate dt tag x => some (dt, tag, .segmentTruncate x)
  | .headSet dt tag set => some (dt, tag, .headSet set)
  | .start dt tag => some (dt, tag, .start)
  | .pause dt tag => some (dt, tag, .pause)
  | .stop dt tag => some (dt, tag, .stop)
  | .clearHalt dt tag => some (dt, tag, .clearHalt)
  | .jobClear dt tag => some (dt, tag, .jobClear)
  | .setEnables dt tag notice stop => some (dt, tag, .setEnables notice stop)
  | .clearFlags dt tag set => some (dt, tag, .clearFlags set)
  | .configure dt tag id value => some (dt, tag, .configure id value)
  | .readParam dt tag id => some (dt, tag, .readParam id)
  | .saveSettings dt tag => some (dt, tag, .saveSettings)
  | .restart dt tag => some (dt, tag, .restart)
  | _ => none

/-- The supervision timer as the arrival of a request at instant `now` leaves it (R178). -/
def heardAt (p : Params) (now : Nat) : Option Timer := if p.p37 = 0 then none else some ⟨p.p37, now⟩

/-- What the transmitter sends at instant `now` with a reply in the queue: the frame it is sending, else the
oldest QUEUE_FULL reply, else the first reply (R175). -/
def sendingReply (tx : Option Transmission) (full : List (Byte × Byte)) (replies : List Reply) (now : Nat) :
    Option Transmission :=
  match tx, full, replies with
  | some x, _, _ => some x
  | none, (kind, tag) :: _, _ => some ⟨.queueFull, replyFrame kind tag .queueFull [], now⟩
  | none, [], r :: _ => some ⟨.reply, replyFrame r.kind r.tag r.status r.content, now⟩
  | none, [], [] => none

/-- The port of a listening controller after a frame of a kind and tag that comes `dt` µs later and is
answered at once: the request is unanswered until its reply has been sent, the reply stands at the end of the
reply queue, the supervision timer runs afresh, and where the transmitter was idle it sends (R172, R173, R175,
R178). The three notice slots are as they were. -/
def State.answeringFrame (s : State) (dt : Nat) (kind tag : Byte) (r : Request) (status : Status)
    (content : List Byte) : Link where
  assembler := .hunt
  lastByte := s.clock + dt
  hold := s.link.hold
  requests := s.link.requests ++ [⟨kind, tag, r, .replied⟩]
  replies := s.link.replies ++ [⟨kind, tag, status, content⟩]
  full := s.link.full
  modeSlot := s.link.modeSlot
  condSlot := s.link.condSlot
  segSlot := s.link.segSlot
  tx := sendingReply s.link.tx s.link.full (s.link.replies ++ [⟨kind, tag, status, content⟩]) (s.clock + dt)
  restart := s.link.restart
  supervision := heardAt s.params (s.clock + dt)

/-- The same for one of the eighteen requests, whose kind is that of the kinds table. -/
def State.answering (s : State) (dt : Nat) (r : Request) (tag : Byte) (status : Status) (content : List Byte) :
    Link :=
  s.answeringFrame dt r.kind tag r status content

/-! ## What an event of one block does not set off -/

/-- No armed stop would be acted on at once: no cycle is under way, or a record is IN_WORK (R157). -/
def State.InWorkOrOut (s : State) : Prop :=
  s.cyc.mode = .work → s.cyc.phase = .arrived ∨ s.cyc.phase = .working ∨ s.cyc.phase = .clearing

/-- A change of the state of unit `u` ends no phase of the cycle: no cycle is under way, or the target pass
is, or another active unit is still in its insertion train (R152, R153). -/
def State.Undisturbed (s : State) (u : UnitId) : Prop :=
  s.cyc.mode = .work →
    s.cyc.phase = .arrived
      ∨ s.cyc.phase = .working ∧ ∃ v active, v ≠ u ∧ s.cyc.active = some active ∧ unitIn v active = true
          ∧ inTrain (s.heads.get v).state = true

/-- No axis holds a release pending (R114). -/
def State.NoRelease (s : State) : Prop := ∀ a, (s.axes.get a).releasePending = false

/-! ## The engine's inputs, the axes' release and the end of a cycle, as the statements give them -/

/-- The design pass of a record as it begins: the arms in force, the segments under the chord span, and the
sums over them (R56, R83, R86, R95). -/
def designBegun (p : Params) (segs : List Segment) (r : Sleeper) : DesignPass :=
  let arms := Arms.mk p.p01 p.p02 p.p03 p.p04
  let under := segs.filter fun g =>
    decide (r.chainage - max p.p02 p.p04 < g.start + g.length ∧ g.start ≤ r.chainage + max p.p01 p.p03)
  ⟨r.seq, r.chainage, arms, under, designSums arms r.chainage under⟩

/-- The target pass of a record as it begins: four readings, the design part, the arms and the limits in
force, and the front corrections b × e / (a + b) of the two chords (R86, R100, R101). -/
def targetBegun (p : Params) (seq : Nat) (v : Readings) (d : DesignPart) : TargetPass where
  seq := seq
  readings := v
  design := d
  arms := ⟨p.p01, p.p02, p.p03, p.p04⟩
  baseLift := p.p15
  minLift := p.p16
  liftLimit := p.p17
  shiftLimit := p.p18
  cLat := ⟨p.p02 * d.eLat, p.p01 + p.p02⟩
  cLvl := ⟨p.p04 * d.eLvl, p.p03 + p.p04⟩

/-- An axis that has taken the release order, by the table of R114: a MOVING axis is CUT with a lift's overshoot
measured (R109), one in HOLD keeps its outcome, and both record the reading as the final versine. -/
def releasedAxis (a : AxisId) (s : State) : Axis :=
  let x := s.axes.get a
  if x.state = .idle then x
  else
    { x with
      state := .idle
      stage := none
      motion := none
      settle := none
      final := axisReading a s
      released := true
      releasePending := false
      outcome := if x.state = .moving then some .cut else x.outcome
      overshoot :=
        if x.state = .moving ∧ a ≠ .line then
          some ((axisReading a s).elim 0 fun vm => max 0 (x.target.getD 0 - vm))
        else x.overshoot }

/-- Unit `u` is the last unit of the active set in its insertion train: the work waits for it, no other active
unit is in its train or holds a pending lower, and no other unit squeezes (R114, R152). -/
def State.LastInTrain (s : State) (u : UnitId) : Prop :=
  s.cyc.mode = .work ∧ s.cyc.phase = .working ∧ (∃ active, s.cyc.active = some active ∧ unitIn u active = true)
    ∧ (∀ v, v ≠ u → (∃ active, s.cyc.active = some active ∧ unitIn v active = true) →
        inTrain (s.heads.get v).state = false ∧ (s.heads.get v).pendingLower = false)
    ∧ ∀ v, v ≠ u → (s.heads.get v).state ≠ .squeezing

/-- The record in work finished as DONE at instant `now` (R153): its result part with the reports of the axes as
they stand and the given reports of the units, the satellite released, and nothing current. -/
def RecordDone (s t : State) (r : Sleeper) (active : UnitSet) (t0 now : Nat) (report : UnitId → UnitReport) :
    Prop :=
  t.clock = now
    ∧ (∃ result, { r with state := .done, result := some result } ∈ t.slp.records
        ∧ result.active = active ∧ result.cycleTime = min 65535 ((now - t0) / 1000)
        ∧ result.skip = none ∧ result.flags = r.flags
        ∧ (∀ v, result.units.get v = report v)
        ∧ ∀ a, result.axes.get a = axisReport a s)
    ∧ t.slp.records.length = s.slp.records.length
    ∧ t.pos.drive = .riding ∧ t.pos.target = none ∧ t.pos.output = .stop
    ∧ t.cyc.current = none ∧ t.cyc.active = none ∧ t.cyc.stopwatch = none ∧ t.cyc.pausePending = false

/-- The three ways in which a cycle ends with the record `r` done by a command (R153): PAUSED where a pause is
pending (R142), else HALTED with FLAG_STOP where a stop is armed (R157), else SEEK, here with no other record to
select. -/
def CycleEnds (c : Instr) (s : State) (r : Sleeper) (done : State → Prop) : Prop :=
  (s.cyc.pausePending = true →
      ∃ t, exec c s = .next t ∧ done t ∧ t.cyc.mode = .paused ∧ t.cyc.phase = .none
        ∧ t.cyc.cause = s.cyc.cause ∧ t.cond.armed = none ∧ t.pos.demand = .stop)
    ∧ (s.cyc.pausePending = false → ∀ f, s.cond.armed = some f →
      ∃ t, exec c s = .next t ∧ done t ∧ t.cyc.mode = .halted ∧ t.cyc.phase = .none
        ∧ t.cyc.cause = .flagStop ∧ t.cyc.detail = some (.flag f) ∧ t.cond.armed = none
        ∧ t.pos.demand = .stop)
    ∧ (s.cyc.pausePending = false → s.cond.armed = none →
      (∀ q ∈ s.slp.records, q.state.finished = false → q = r) →
      ∃ t, exec c s = .next t ∧ done t ∧ t.cyc.mode = .work ∧ t.cyc.phase = .seek)

/-! ## The drive's command, the halts and the look-ahead, as the statements give them -/

/-- A state with the command its drive gives on the outputs (R23, R24). -/
def State.driven (s : State) : State := { s with pos := { s.pos with output := driveCommand s } }

/-- The cycle controller right after a hard halt with a cause and a detail (R155). -/
def haltedCycle (cause : HaltCause) (detail : Option Detail) (reset : ResetCause) : Cycle :=
  ⟨.halted, .none, false, none, none, none, cause, detail, reset⟩

/-- The drive goes on as it is, and gives its command afresh for the state `s` (R23). -/
def DriveGoesOn (s t : State) : Prop :=
  t.pos.drive = s.pos.drive ∧ t.pos.target = s.pos.target ∧ t.pos.output = driveCommand s ∧ t.cyc = s.cyc

/-- How the drive HOLDING at a sleeper in work is judged in a state `s` with an excursion and an offset, the
state after it being `t` (R28, R29, R30): HOLD_LOST beyond P14 and STROKE_END at an offset of 0 or less are
reported once while they last, and halt the work; of two reports at one instant either comes first (log 10). -/
def HoldingJudged (s t : State) (excursion offset : Int) : Prop :=
  let lost := s.params.p14 < excursion
  let atEnd := offset ≤ 0
  let halts := fun cause : HaltCause =>
    t.cyc = haltedCycle cause none s.cyc.resetCause ∧ t.pos.drive = .riding ∧ t.pos.output = .stop
  ((lost → s.pos.holdLost = true) → (atEnd → s.pos.strokeEnd = true) →
      DriveGoesOn s t ∧ (t.pos.holdLost = true ↔ lost) ∧ (t.pos.strokeEnd = true ↔ atEnd))
    ∧ (lost → s.pos.holdLost = false → (atEnd → s.pos.strokeEnd = true) → halts .holdLost)
    ∧ (atEnd → s.pos.strokeEnd = false → (lost → s.pos.holdLost = true) → halts .strokeEnd)
    ∧ (lost → s.pos.holdLost = false → atEnd → s.pos.strokeEnd = false → halts .holdLost ∨ halts .strokeEnd)

/-- The look-ahead condition of a queue of segments under a wanted chainage not yet held to the range: room
for a segment, and the queue end below it or absent (R52). -/
def wanting (segs : List Segment) (reach : Int) : Bool :=
  decide (segs.length < 32) && segs.getLast?.all fun g => decide (g.start + g.length < reach)

/-- The SEGMENTS_WANTED slot after the look-ahead condition has been judged for a queue of segments and a
wanted chainage, at the command that comes next: filled where the condition becomes true, or where it holds
after an accepted append (`appended`), with the queue end, the free segments, the free bearer entries and the
wanted chainage; a pending slot keeps its age (R53, R161). -/
def State.wantedSlot (s : State) (segs : List Segment) (reach : Int) (appended : Bool) :
    Option (Slot SegmentsNotice) :=
  if wanting segs reach && (appended || !s.seg.lookAhead) then
    some ⟨⟨segs.getLast?.map fun g => g.start + g.length, 32 - segs.length, 192 - (poolOf segs).length,
        min 2000000000 reach⟩,
      (s.link.segSlot.map (·.age)).getD (s.eventNo + 1)⟩
  else s.link.segSlot

end Sys2Proof.Machine
end

