-- ==== Sys2Proof/Certificates/Slice0/Obligations.lean ====
section
/-! DEFINITION. The statements for the provers. Each docstring names the rules of spec/ it formalises; the
witnesses of the hypotheses stand in Tests/Slice0.lean. -/

section Statements

open Sys2Proof Sys2Proof.Machine

/-! ## The whole machine -/

/-- A step runs the command at the front of the queue on the state with the queue's rest, and idles on an
empty queue. Model's choices it rests on: logs 3, 36. -/
def Obligations.StepRunsFrontCommand : Prop :=
  (∀ (s : State) (c : Instr) (rest : List Instr), s.pending = c :: rest →
      step s = exec c { s with pending := rest })
    ∧ ∀ s : State, s.pending = [] → step s = .next s

/-- Every command completes in every state, and leaves the queue of waiting commands alone. Model's choices it
rests on: logs 1, 2, 4, 30. -/
def Obligations.EveryCommandCompletes : Prop :=
  ∀ (c : Instr) (s : State), ∃ t, exec c s = .next t ∧ t.pending = s.pending

/-- The state after reset meets every invariant that the statements below keep. Model's choices it rests on:
logs 7, 8, 28. -/
def Obligations.ResetMeetsInvariants : Prop :=
  State.reset.params.Legal ∧ State.reset.Bounded ∧ State.reset.HoldTracks ∧ State.reset.SqueezesHeld
    ∧ State.reset.LowersPendRaising ∧ State.reset.FastIsClear ∧ State.reset.DemandCurrent ∧ State.reset.RecordsSpaced
    ∧ State.reset.WindowSound ∧ State.reset.LineBusyOrDone

/-- Every step leaves a live parameter set within its ranges and cross-conditions (R180, R181, R183). -/
def Obligations.LegalParametersKept : Prop :=
  ∀ s t : State, s.params.Legal → step s = .next t → t.params.Legal

/-- Every step keeps the bounds of the queues and lists, with the receive hold on exactly while the QUEUE_FULL
list is full (R67, R78, R172). Model's choices it rests on: log 26. -/
def Obligations.BoundsKept : Prop :=
  ∀ s t : State, s.Bounded → s.HoldTracks → step s = .next t → t.Bounded ∧ t.HoldTracks

/-- No workhead unit is in SQUEEZING unless all three axes are in HOLD (R114), and a lower is pending only in
a unit that is RAISING (R121, R132). -/
def Obligations.SqueezeNeedsHold : Prop :=
  ∀ s t : State, step s = .next t →
    (s.SqueezesHeld → t.SqueezesHeld) ∧ (s.LowersPendRaising → t.LowersPendRaising)

/-- The satellite drive is commanded to a fast speed only while every unit is UP, TILTING, PARKING or FAULTED
(R24). Model's choices it rests on: log 19. -/
def Obligations.FastNeedsClearHeads : Prop :=
  ∀ s t : State, s.FastIsClear → step s = .next t → t.FastIsClear

/-- The travel demand is at every instant the one that the mode and the terms of the governor give (R34, R35).
-/
def Obligations.DemandStaysCurrent : Prop :=
  ∀ s t : State, s.DemandCurrent → step s = .next t → t.DemandCurrent

/-- The sleeper records stand in strictly ascending chainage, more than P33 apart (R74). -/
def Obligations.RecordsStaySpaced : Prop :=
  ∀ s t : State, s.params.Legal → s.RecordsSpaced → step s = .next t → t.RecordsSpaced

/-- The window of segments stays contiguous and within its capacity, each bearer within its segment, the
bearers in strictly ascending chainage (R40). -/
def Obligations.SegmentWindowKept : Prop :=
  ∀ s t : State, s.WindowSound → step s = .next t → t.WindowSound

/-- After every step nothing eligible waits for an idle transmitter (R175, R177). Model's choices it rests on:
logs 12, 36. -/
def Obligations.TransmitterServesAtOnce : Prop :=
  ∀ s t : State, s.LineBusyOrDone → step s = .next t → t.LineBusyOrDone

/-- A condition flag that is set stays set through every command that does not reset the controller and does
not take a CLEAR_FLAGS: none is the command, none waits in the request queue, and no byte can complete the
frame of one (R159). Model's choices it rests on: log 4. -/
def Obligations.FlagsStaySet : Prop :=
  ∀ (c : Instr) (s t : State) (f : Flag),
    c ≠ .powerOn → (∀ dt tag set, c ≠ .clearFlags dt tag set) → s.link.restart = false →
    (∀ q ∈ s.link.requests, ∀ set, q.request ≠ .clearFlags set) →
    (∀ kind tag body high, s.link.assembler ≠ .checkLow kind tag body high) →
    exec c s = .next t → flagIn f s.cond.flags = true → flagIn f t.cond.flags = true

/-! ## Encodings and the engine's arithmetic -/

/-- A request of the kinds table whose operands fit their fields is read back whole from its kind and its
body, and its body fits a frame (R170, R185). Model's choices it rests on: log 25. -/
def Obligations.RequestReadsBack : Prop :=
  ∀ r : Request, r.fits = true → Request.parse r.kind r.body = r ∧ r.body.length ≤ 240

/-- The bytes of an intact frame, taken one after another by a port in HUNT with the clock of the state
standing still between them, arrive as the request of its kind and body, and as nothing else (R170, R171,
R172). Model's choices it rests on: logs 5, 37. -/
def Obligations.IntactFrameArrives : Prop :=
  ∀ (s : State) (kind tag : Byte) (body : List Byte),
    body.length ≤ 240 → s.link.restart = false → s.link.hold = false → s.link.assembler = .hunt →
    (frameBytes kind tag body).foldl (fun t b => receiveByte b false t) s
      = arriveFrame kind tag (Request.parse kind body)
          { s with link := { s.link with lastByte := s.clock } }

/-- A legal parameter set that is saved is loaded again unchanged, and not defaulted (R182, R183). Model's
choices it rests on: log 46. -/
def Obligations.SavedImageLoads : Prop :=
  ∀ p : Params, p.Legal → (imageOf p).length = 158 ∧ loadImage (some (imageOf p)) = (p, false)

/-- The same track given as one segment or as two with the same linear values at the joint gives the same
design versine (R93, R96): `g` is split at distance `u` from its start, where its curvature is `v`. -/
def Obligations.SplitTrackSameVersine : Prop :=
  ∀ (k0 k1 : Segment → Int) (before after : List Segment) (g g1 g2 : Segment) (u v a b c : Int),
    0 < a → 0 < b → (∀ h ∈ before ++ g :: after, 0 < h.length) → 0 < u → u < g.length →
    v * g.length = k0 g * g.length + (k1 g - k0 g) * u →
    g1.start = g.start → g1.length = u → k0 g1 = k0 g → k1 g1 = v →
    g2.start = g.start + u → g2.length = g.length - u → k0 g2 = v → k1 g2 = k1 g →
    versine a b (chordSums k0 k1 a b c (before ++ g :: after)).1 (chordSums k0 k1 a b c (before ++ g :: after)).2
      = versine a b (chordSums k0 k1 a b c (before ++ g1 :: g2 :: after)).1
          (chordSums k0 k1 a b c (before ++ g1 :: g2 :: after)).2

/-- A target pass keeps the shift and both lifts within their limits, its target versines are the readings
less them, and each of its four flags stands exactly where a limit acted, where the value is the limit's: the
shift limit with the sign of the shift, the least or the greatest lift, and for the other rail 0 or the
greatest lift; with none of them the track comes to its design (R99 to R104). -/
def Obligations.TargetLimitsHold : Prop :=
  ∀ p : TargetPass, 0 ≤ p.minLift → p.minLift ≤ p.liftLimit → 0 ≤ p.shiftLimit →
    let t := (targetPart p).1
    let flags := (targetPart p).2
    let rawShift := p.readings.vmLat - (p.design.dLat - p.cLat.rounded)
    let rawLift := (if p.design.grade = .left then p.readings.vmL else p.readings.vmR) - p.design.dLvl
      - p.cLvl.rounded + p.baseLift
    let otherLift := if p.design.grade = .left then t.liftR else t.liftL
    let rawOther := if p.design.grade = .left then gradeLift p.design t + p.readings.xl - p.design.cant
      else gradeLift p.design t + p.design.cant - p.readings.xl
    t.readings = p.readings
      ∧ t.vtLat = p.readings.vmLat - t.shift ∧ t.vtL = p.readings.vmL - t.liftL
      ∧ t.vtR = p.readings.vmR - t.liftR
      ∧ (-p.shiftLimit ≤ t.shift ∧ t.shift ≤ p.shiftLimit)
      ∧ (0 ≤ t.liftL ∧ t.liftL ≤ p.liftLimit) ∧ (0 ≤ t.liftR ∧ t.liftR ≤ p.liftLimit)
      ∧ p.minLift ≤ gradeLift p.design t
      ∧ (.lineLimit ∈ flags ↔ p.shiftLimit < rawShift ∨ rawShift < -p.shiftLimit)
      ∧ (.lineLimit ∉ flags → t.shift = rawShift)
      ∧ (p.shiftLimit < rawShift → t.shift = p.shiftLimit)
      ∧ (rawShift < -p.shiftLimit → t.shift = -p.shiftLimit)
      ∧ (.highSpot ∈ flags ↔ rawLift < p.minLift)
      ∧ (.liftLimit ∈ flags ↔ p.liftLimit < rawLift)
      ∧ (rawLift < p.minLift → gradeLift p.design t = p.minLift)
      ∧ (p.liftLimit < rawLift → gradeLift p.design t = p.liftLimit)
      ∧ (.highSpot ∉ flags → .liftLimit ∉ flags → gradeLift p.design t = rawLift)
      ∧ (rawOther < 0 → otherLift = 0)
      ∧ (p.liftLimit < rawOther → otherLift = p.liftLimit)
      ∧ (0 ≤ rawOther → rawOther ≤ p.liftLimit → otherLift = rawOther)
      ∧ (.cantUnmet ∉ flags ↔ p.readings.xl + t.liftL - t.liftR = p.design.cant)

/-- The design cant is the linear value at the sleeper, rounded to the nearest 0.01 mm with halves away from
zero, and lies within ±20,000; the grade rail is that of the same segment (R97, with R38 and R92). -/
def Obligations.DesignCantRounded : Prop :=
  ∀ (p : DesignPass) (g : Segment), segmentAt p.segments p.chainage = some g → 0 < g.length →
    -2000 ≤ g.cant0 → g.cant0 ≤ 2000 → -2000 ≤ g.cant1 → g.cant1 ≤ 2000 →
    let q := (designPart p).cant
    let exact := 10 * (g.cant0 * g.length + (g.cant1 - g.cant0) * (p.chainage - g.start))
    2 * (exact - q * g.length).natAbs ≤ g.length.natAbs
      ∧ (2 * (exact - q * g.length).natAbs = g.length.natAbs → exact.natAbs < (q * g.length).natAbs)
      ∧ -20000 ≤ q ∧ q ≤ 20000
      ∧ (designPart p).grade = g.grade

/-! ## The condition unit and the transmit arbitration -/

/-- A raising acts on a rising alone: it sets that flag and no other, fills the CONDITION slot where the flag
is notice-enabled, keeping a pending slot's age, and arms a stop where it is stop-enabled, the mode is WORK
and none is armed (R159 to R162). Model's choices it rests on: log 27. -/
def Obligations.RisingFlagActs : Prop :=
  ∀ (f : Flag) (s : State),
    (flagIn f s.cond.flags = true → setFlag f s = s)
      ∧ (flagIn f s.cond.flags = false →
          ∃ flags raised : FlagSet,
            (∀ g, flagIn g flags = (decide (g = f) || flagIn g s.cond.flags))
              ∧ (∀ g, flagIn g raised
                  = (decide (g = f) || s.link.condSlot.any fun x => flagIn g x.content.raised))
              ∧ setFlag f s =
                  { s with
                    cond := { s.cond with
                      flags := flags
                      armed := if flagIn f s.cond.stop = true ∧ s.cyc.mode = .work ∧ s.cond.armed = none
                        then some f else s.cond.armed }
                    link := { s.link with
                      condSlot := if flagIn f s.cond.notice = true
                        then some ⟨⟨flags, raised⟩, (s.link.condSlot.map (·.age)).getD s.eventNo⟩
                        else s.link.condSlot } })

/-- The transmit arbitration (R175, R176, R177): an idle transmitter takes the oldest QUEUE_FULL reply, else
the first reply, else (unless a RESTART waits) the work record of a finished front record, else the pending
notice of the earliest age, with MODE before CONDITION before SEGMENTS_WANTED at one age, and empties its
slot; a frame being sent is not interrupted. Model's choices it rests on: logs 12, 26, 27. -/
def Obligations.ArbitrationOrder : Prop :=
  ∀ s : State,
    (s.link.tx ≠ none → arbitrate s = s)
      ∧ (s.powered = true → s.link.tx = none →
          (∀ kind tag rest, s.link.full = (kind, tag) :: rest →
            arbitrate s = { s with link := { s.link with
              tx := some ⟨.queueFull, replyFrame kind tag .queueFull [], s.clock⟩ } })
          ∧ (s.link.full = [] →
            (∀ r rest, s.link.replies = r :: rest →
              arbitrate s = { s with link := { s.link with
                tx := some ⟨.reply, replyFrame r.kind r.tag r.status r.content, s.clock⟩ } })
            ∧ (s.link.replies = [] → s.link.restart = true → arbitrate s = s)
            ∧ (s.link.replies = [] → s.link.restart = false →
              (∀ r rest, s.slp.records = r :: rest → r.state.finished = true →
                arbitrate s = { s with link := { s.link with
                  tx := some ⟨.workRecord, frameBytes 0xC3 0 (workRecordBody r), s.clock⟩ } })
              ∧ ((∀ r rest, s.slp.records = r :: rest → r.state.finished = false) →
                (∀ x, s.link.modeSlot = some x →
                  (∀ y, s.link.condSlot = some y → x.age ≤ y.age) →
                  (∀ z, s.link.segSlot = some z → x.age ≤ z.age) →
                  arbitrate s = { s with link := { s.link with
                    modeSlot := none
                    tx := some ⟨.notice, frameBytes 0xC0 0 (modeBody x.content), s.clock⟩ } })
                ∧ (∀ y, s.link.condSlot = some y →
                  (∀ x, s.link.modeSlot = some x → y.age < x.age) →
                  (∀ z, s.link.segSlot = some z → y.age ≤ z.age) →
                  arbitrate s = { s with link := { s.link with
                    condSlot := none
                    tx := some ⟨.notice, frameBytes 0xC1 0 (conditionBody y.content), s.clock⟩ } })
                ∧ (∀ z, s.link.segSlot = some z →
                  (∀ x, s.link.modeSlot = some x → z.age < x.age) →
                  (∀ y, s.link.condSlot = some y → z.age < y.age) →
                  arbitrate s = { s with link := { s.link with
                    segSlot := none
                    tx := some ⟨.notice, frameBytes 0xC2 0 (wantedBody z.content), s.clock⟩ } })))))

/-! ## Power and the store -/

/-- POWER_ON without power makes the power-on reset (R183, R16, R37, R58, R79, R91, R119, R136, R137, R140,
R169, R179): the parameters are those of a valid image or the defaults, SETTINGS_DEFAULTED stands for the
latter, every block is at its reset values, the lines' levels are taken as they are, and the MODE notice of
start-up is being sent with SEGMENTS_WANTED behind it. The clear pending release of an axis is the model's own
reset value (log 28). Model's choices it rests on: logs 2, 12, 28, 30, 46. -/
def Obligations.PowerOnResets : Prop :=
  ∀ s : State, s.powered = false →
    ∃ t, exec .powerOn s = .next t
      ∧ t.powered = true ∧ t.clock = s.clock ∧ t.pending = s.pending
      ∧ t.params = (loadImage s.store.image).1 ∧ t.store = ⟨s.store.image, none⟩
      ∧ (∀ f, flagIn f t.cond.flags
          = (decide (f = .settingsDefaulted) && (loadImage s.store.image).2))
      ∧ t.cond.notice = 0 ∧ t.cond.stop = 0 ∧ t.cond.armed = none
      ∧ (∀ l, (t.count.filter l).accepted = (s.count.filter l).present
          ∧ (t.count.filter l).present = (s.count.filter l).present ∧ (t.count.filter l).since = none)
      ∧ (∀ c, (t.count.get c).count = 0 ∧ (t.count.get c).nulled = false ∧ (t.count.get c).countAtNull = 0
          ∧ (t.count.get c).reference = 0 ∧ (t.count.get c).fault = false)
      ∧ t.pos = ⟨0, 0, .forward, .riding, none, .stop, false, false, .go, .go⟩
      ∧ t.seg.segments = [] ∧ t.seg.starved = false
      ∧ t.slp = ⟨[], none, 1, none, [], false⟩
      ∧ t.eng = ⟨.idle, none⟩
      ∧ (∀ a, t.axes.get a = ⟨.idle, none, false, none, none, none, none, none, 0, none, none, none, false, false⟩)
      ∧ (∀ u, (t.heads.get u).state = .parking ∧ (t.heads.get u).timer = some ⟨t.params.p28, s.clock⟩
          ∧ (t.heads.get u).tilted = false ∧ (t.heads.get u).plan = none
          ∧ (t.heads.get u).pendingLower = false ∧ (t.heads.get u).abort = false
          ∧ (t.heads.get u).report = ⟨false, 0, 0, false, false, none⟩)
      ∧ t.headSet = 0b1111#4
      ∧ t.cyc = ⟨.ready, .none, false, none, none, none, .none, none, .power⟩
      ∧ t.link.assembler = .hunt ∧ t.link.hold = false ∧ t.link.requests = [] ∧ t.link.replies = []
      ∧ t.link.full = [] ∧ t.link.restart = false ∧ t.link.supervision = none
      ∧ t.link.modeSlot = none ∧ t.link.condSlot = none
      ∧ t.link.tx = some ⟨.notice, frameBytes 0xC0 0 [0, 0, 0xFF, 0], s.clock⟩
      ∧ t.link.segSlot.map (·.content)
          = some ⟨none, 32, 192, min 2000000000 (t.params.p08 + max t.params.p01 t.params.p03 + t.params.p36)⟩

/-- POWER_FAILURE ends the frame being sent, loses requests, replies and the QUEUE_FULL list, and leaves the
image with bytes that nothing says where a save was in progress (R174, R176, R182). SAVE_COMPLETE makes the
reply of the SAVE_SETTINGS being taken: on a match the image holds what was written and the reply is OK,
otherwise it is STORE_FAILED and nothing says what the image holds (R182). Model's choices it rests on: logs
1, 9, 29, 30. -/
def Obligations.StoreWritesEnd : Prop :=
  (∀ (s : State) (dt : Nat),
    (s.powered = true → s.store.saving = none →
      exec (.powerFailure dt) s
        = .next { s.beginAt dt with
            powered := false
            link := { s.link with tx := none, requests := [], replies := [], full := [], hold := false } })
      ∧ (s.powered = true → ∀ image, s.store.saving = some image →
        ∃ torn free, torn.length = 158 ∧ exec (.powerFailure dt) s
          = .next { s.beginAt dt with
              powered := false
              store := ⟨some torn, none⟩
              freeNext := free
              link := { s.link with tx := none, requests := [], replies := [], full := [], hold := false } }))
    ∧ ∀ (s : State) (dt : Nat) (image : List Byte) (before : List QueuedRequest) (q : QueuedRequest),
      s.powered = true → s.store.saving = some image → s.link.requests = before ++ [q] →
      (∀ r ∈ before, r.progress = .replied) → q.progress = .taking →
      let answered := fun status : Status =>
        { s.link with
          requests := before ++ [{ q with progress := .replied }]
          replies := s.link.replies ++ [⟨q.kind, q.tag, status, []⟩]
          tx := sendingReply s.link.tx s.link.full (s.link.replies ++ [⟨q.kind, q.tag, status, []⟩])
            (s.clock + dt) }
      exec (.saveComplete dt true) s
          = .next { s.beginAt dt with store := ⟨some image, none⟩, link := answered .ok }
        ∧ ∃ torn free, torn.length = 158 ∧ exec (.saveComplete dt false) s
            = .next { s.beginAt dt with
                store := ⟨some torn, none⟩, freeNext := free, link := answered .storeFailed }

/-! ## Field lines and the count unit -/

/-- LINE_LEVEL_CHANGE (R1, R5). Under a window that is not empty the filter of the line, and that of the other
line of its channel where both change at one instant, starts timing where the level comes to differ from the
accepted one and returns to idle where it comes back; nothing is accepted, and a channel both of whose changes
are timed from this instant is marked, so that they are accepted at one instant. Under an empty window the
change is accepted at once, with all that the expiry of a window does: as FILTER_WINDOW_EXPIRY of the change
timed from this instant. Model's choices it rests on: logs 1, 6. -/
def Obligations.LineChangeTimed : Prop :=
  ∀ (s : State) (dt : Nat), s.powered = true →
    let changed := fun f : LineFilter =>
      LineFilter.mk f.accepted (!f.present) (if f.accepted = f.present then some (s.clock + dt) else none)
    let alone := fun l : Line => (s.count.setFilter l (changed (s.count.filter l))).setPaired l false
    let both := fun c : ChannelId => s.count.set c { s.count.get c with
      a := changed (s.count.get c).a
      b := changed (s.count.get c).b
      paired := decide ((s.count.get c).a.accepted = (s.count.get c).a.present
        ∧ (s.count.get c).b.accepted = (s.count.get c).b.present) }
    let timed := fun (l : Line) (together : Bool) (count : CountUnit) =>
      exec (.lineLevelChange dt l together) s = .next (arbitrate { s.beginAt dt with count := count })
    let atOnce := fun (l : Line) (together : Bool) (count : CountUnit) =>
      exec (.lineLevelChange dt l together) s
        = exec (.filterWindowExpiry l) { s with clock := s.clock + dt, count := count }
    (∀ l, (s.params.p38 ≠ 0 → timed l false (alone l))
        ∧ (s.params.p38 = 0 → (s.count.filter l).accepted = (s.count.filter l).present →
          atOnce l false (alone l)))
      ∧ (∀ c l, l = .channelA c ∨ l = .channelB c →
        (s.params.p38 ≠ 0 → timed l true (both c))
          ∧ (s.params.p38 = 0 → (s.count.get c).a.accepted = (s.count.get c).a.present →
            (s.count.get c).b.accepted = (s.count.get c).b.present → atOnce l true (both c)))
      ∧ (∀ l, l = .detector ∨ (∃ u, l = .pressure u) →
        exec (.lineLevelChange dt l true) s = exec (.lineLevelChange dt l false) s)

/-- An accepted change of one line alone moves the channel's count by one, up or down as R3 says and the other
way under the polarity bit; every other channel keeps all its state. A change on XL, which no other block
follows, does nothing more (R3, R8). Model's choices it rests on: logs 2, 6. -/
def Obligations.QuadratureStepCounted : Prop :=
  ∀ (s : State) (c : ChannelId) (t0 : Nat), s.powered = true → (s.count.get c).paired = false →
    let ch := s.count.get c
    let inverted := channelIn c s.params.p39polarity
    ((ch.a.since = some t0 → ∀ n : Int,
        n = (if (ch.a.present != ch.b.accepted) != inverted then ch.count + 1 else ch.count - 1) →
        -2147483648 ≤ n → n ≤ 2147483647 →
        ∃ t, exec (.filterWindowExpiry (.channelA c)) s = .next t
          ∧ t.clock = max s.clock (t0 + s.params.p38)
          ∧ t.count = s.count.set c { ch with a := ⟨ch.a.present, ch.a.present, none⟩, count := n }
          ∧ t.params = s.params ∧ t.store = s.store ∧ t.headSet = s.headSet
          ∧ t.pos.datum = s.pos.datum ∧ t.pos.countAtDatum = s.pos.countAtDatum)
      ∧ (ch.b.since = some t0 → ∀ n : Int,
        n = (if (ch.b.present == ch.a.accepted) != inverted then ch.count + 1 else ch.count - 1) →
        -2147483648 ≤ n → n ≤ 2147483647 →
        ∃ t, exec (.filterWindowExpiry (.channelB c)) s = .next t
          ∧ t.clock = max s.clock (t0 + s.params.p38)
          ∧ t.count = s.count.set c { ch with b := ⟨ch.b.present, ch.b.present, none⟩, count := n }
          ∧ t.params = s.params ∧ t.store = s.store ∧ t.headSet = s.headSet
          ∧ t.pos.datum = s.pos.datum ∧ t.pos.countAtDatum = s.pos.countAtDatum)
      ∧ (c = .xl → ch.a.since = some t0 → ∀ n : Int,
        n = (if (ch.a.present != ch.b.accepted) != inverted then ch.count + 1 else ch.count - 1) →
        -2147483648 ≤ n → n ≤ 2147483647 →
        exec (.filterWindowExpiry (.channelA c)) s
          = .next (arbitrate { s.beginBy (t0 + s.params.p38) with
              count := s.count.set c { ch with a := ⟨ch.a.present, ch.a.present, none⟩, count := n } })))

/-- An acceptance in which both lines of a channel change, found at the expiry of either, and a step of line A
or of line B that would leave the count's range, are faults: the count stays, the accepted levels take their
new values, the fault marker is set, the null is lost and CHANNEL_FAULT is set; every other channel keeps all
its state (R5, R6). Model's choices it rests on: logs 2, 6. -/
def Obligations.IllegalTransitionFaults : Prop :=
  ∀ (s : State) (c : ChannelId) (t0 : Nat), s.powered = true → (c = .odo → s.count.odo.nulled = false) →
    let ch := s.count.get c
    let inverted := channelIn c s.params.p39polarity
    let upA := (ch.a.present != ch.b.accepted) != inverted
    let upB := (ch.b.present == ch.a.accepted) != inverted
    let outOfRange := fun up : Bool => up = true ∧ ch.count = 2147483647 ∨ up = false ∧ ch.count = -2147483648
    let faults := fun (l : Line) (after : Channel) =>
      ∃ t, exec (.filterWindowExpiry l) s = .next t
        ∧ t.count = s.count.set c { after with fault := true, nulled := false }
        ∧ flagIn .channelFault t.cond.flags = true
    let both := { ch with
      a := ⟨ch.a.present, ch.a.present, none⟩, b := ⟨ch.b.present, ch.b.present, none⟩, paired := false }
    (ch.paired = true → ch.a.since = some t0 → faults (.channelA c) both)
      ∧ (ch.paired = true → ch.b.since = some t0 → faults (.channelB c) both)
      ∧ (ch.paired = false → ch.a.since = some t0 → outOfRange upA →
        faults (.channelA c) { ch with a := ⟨ch.a.present, ch.a.present, none⟩ })
      ∧ (ch.paired = false → ch.b.since = some t0 → outOfRange upB →
        faults (.channelB c) { ch with b := ⟨ch.b.present, ch.b.present, none⟩ })

/-- What the blocks do at the loss of a null (R10), here by an illegal transition on the channel. SAT: a
RIDING drive goes on RIDING with no report; any other goes RIDING with output STOP and no target, which in
WORK halts an index or the work on a record with CHANNEL_LOST (R31, R150). A measuring channel: a MOVING axis
is CUT with overshoot 0, and the hard halt of CHANNEL_LOST takes all axes to IDLE in WORK and PAUSED, where a
lower is pending only in a RAISING unit as every step keeps it, while in READY and HALTED the axis holds; an
axis not MOVING does nothing (R116). XL: nothing. A depth channel: the unit by the table of R130, with
UNIT_FAULT where it enters fault handling, and no other unit; a unit in stage BLIND or FAULTED does nothing
(R130, R131). The PARKING unit goes on as log 32 reads the table, and the abort marker stays as it is, which
is the model's choice (log 43). Model's choices it rests on: logs 2, 6, 14, 32, 43. -/
def Obligations.NullLossActs : Prop :=
  ∀ (s : State) (c : ChannelId) (t0 : Nat), s.powered = true → c ≠ .odo → (s.count.get c).a.since = some t0 →
    (s.count.get c).paired = true → (s.count.get c).nulled = true →
    let now := max s.clock (t0 + s.params.p38)
    let channelLost := haltedCycle .channelLost (some (.channel c)) s.cyc.resetCause
    ∃ t, exec (.filterWindowExpiry (.channelA c)) s = .next t ∧ t.clock = now ∧ reading c t = none
      ∧ (c = .sat → s.pos.drive = .riding → s.InWorkOrOut →
        t.pos.drive = .riding ∧ t.pos.output = .stop ∧ t.cyc = s.cyc)
      ∧ (c = .sat → s.pos.drive ≠ .riding →
        t.pos.drive = .riding ∧ t.pos.output = .stop ∧ t.pos.target = none
          ∧ t.pos.holdLost = false ∧ t.pos.strokeEnd = false
          ∧ (s.cyc.mode = .work → s.cyc.phase ≠ .waitDesign → s.cyc.phase ≠ .none → t.cyc = channelLost))
      ∧ (∀ a, a = .liftL ∧ c = .lvlL ∨ a = .liftR ∧ c = .lvlR ∨ a = .line ∧ c = .lat →
        ((s.axes.get a).state ≠ .moving → s.InWorkOrOut →
            t.axes = s.axes ∧ t.heads = s.heads ∧ t.pos = s.pos ∧ t.cyc = s.cyc)
          ∧ ((s.axes.get a).state = .moving →
            (t.axes.get a).outcome = some .cut ∧ (t.axes.get a).motion = none ∧ (t.axes.get a).settle = none
              ∧ (t.axes.get a).stage = none ∧ (a ≠ .line → (t.axes.get a).overshoot = some 0)
              ∧ (s.cyc.mode = .work ∨ s.cyc.mode = .paused →
                t.cyc = channelLost ∧ (s.LowersPendRaising → ∀ b, (t.axes.get b).state = .idle))
              ∧ (s.cyc.mode = .ready ∨ s.cyc.mode = .halted → t.cyc = s.cyc ∧ (t.axes.get a).state = .hold)))
      ∧ (c = .xl → s.InWorkOrOut →
        t.axes = s.axes ∧ t.heads = s.heads ∧ t.pos = s.pos ∧ t.cyc = s.cyc)
      ∧ (∀ u, c = .dep u → s.Undisturbed u → s.NoRelease →
        let h := s.heads.get u
        let lost := { h with pendingLower := false, report := { h.report with faulted := true } }
        let out := h.state = .faulted ∨ h.state = .raising ∧ h.stage = some .blind
        (∀ v, v ≠ u → t.heads.get v = s.heads.get v) ∧ t.axes = s.axes ∧ t.cyc = s.cyc
          ∧ (out → t.heads.get u = h)
          ∧ (¬ out → flagIn .unitFault t.cond.flags = true)
          ∧ (h.state = .parking → t.heads.get u = lost)
          ∧ (h.state = .up →
            t.heads.get u = { lost with state := .faulted, stage := none, timer := none, latched := none })
          ∧ (¬ out → h.state ≠ .parking → h.state ≠ .up →
            t.heads.get u = { lost with
              state := .raising
              stage := some .blind
              timer := some ⟨s.params.p28, now⟩
              latched := if h.state = .raising then h.latched else some ⟨s.params.p25, s.params.p26⟩ }))

/-- The satellite drive. Its command in each state: STOP in RIDING and without the SAT null; in INDEXING
toward the target, fast farther than P13 from it while every unit permits it and slow otherwise (R24, R26); in
HOLDING slow and back into the window (R28); and the stroke limit on all of them (R23). What an accepted count
of SAT then does: RIDING goes on; INDEXING goes on outside the window, and inside it becomes HOLDING with the
arrival on the record (R26, R151), stated with the four readings present and the offset above 0; where a
measuring channel has no reading the arrival gives no plans, halts with CHANNEL_LOST and the first such
channel, and leaves the record ABORTED with no target part (R151); HOLDING is judged for HOLD_LOST and
STROKE_END while the sleeper is in work (R29, R30). Model's choices it rests on: logs 2, 10, 15, 18. -/
def Obligations.SatelliteJudged : Prop :=
  (∀ s : State, (s.pos.drive = .riding ∨ satOffset s = none → driveCommand s = .stop)
    ∧ ∀ tgt h o, s.pos.target = some tgt → headChainage s = some h → satOffset s = some o →
      let limited := fun c : DriveCommand =>
        if (c = .fwdFast ∨ c = .fwdSlow) ∧ s.params.p09 ≤ o ∨ (c = .backFast ∨ c = .backSlow) ∧ o ≤ 0 then .stop
        else c
      let permitted := ∀ u, (s.heads.get u).state = .up ∨ (s.heads.get u).state = .tilting
        ∨ (s.heads.get u).state = .parking ∨ (s.heads.get u).state = .faulted
      let far := s.params.p13 < ((h - tgt).natAbs : Int)
      (s.pos.drive = .indexing →
          (h < tgt → far → permitted → driveCommand s = limited .fwdFast)
            ∧ (h < tgt → (¬ far ∨ ¬ permitted) → driveCommand s = limited .fwdSlow)
            ∧ (tgt < h → far → permitted → driveCommand s = limited .backFast)
            ∧ (tgt < h → (¬ far ∨ ¬ permitted) → driveCommand s = limited .backSlow))
        ∧ (s.pos.drive = .holding → 0 ≤ s.params.p12 →
          (s.params.p12 < h - tgt → driveCommand s = limited .backSlow)
            ∧ (h - tgt < -s.params.p12 → driveCommand s = limited .fwdSlow)
            ∧ (((h - tgt).natAbs : Int) ≤ s.params.p12 → driveCommand s = .stop)))
    ∧ ∀ (s : State) (t0 : Nat) (n : Int), s.powered = true → s.count.sat.a.since = some t0 →
      s.count.sat.paired = false →
      let ch := s.count.sat
      n = (if ((ch.a.present != ch.b.accepted) != channelIn .sat s.params.p39polarity) then ch.count + 1
        else ch.count - 1) →
      -2147483648 ≤ n → n ≤ 2147483647 →
      let counted := { s.beginBy (t0 + s.params.p38) with
        count := { s.count with sat := { ch with a := ⟨ch.a.present, ch.a.present, none⟩, count := n } } }
      let has := fun c : ChannelId => (s.count.get c).nulled
      ∃ t, exec (.filterWindowExpiry (.channelA .sat)) s = .next t ∧ t.count = counted.count
        ∧ (s.pos.drive = .riding → s.InWorkOrOut → DriveGoesOn counted t)
        ∧ ∀ tgt h o, s.pos.target = some tgt → headChainage counted = some h → satOffset counted = some o →
          (s.pos.drive = .indexing → s.cyc.mode = .work → s.cyc.phase = .indexing → s.cond.armed = none →
              frameChainage s ≤ tgt → s.params.p12 < ((h - tgt).natAbs : Int) → DriveGoesOn counted t)
            ∧ (∀ r, s.pos.drive = .indexing → s.cyc.mode = .work → s.cyc.phase = .indexing →
              s.cyc.current = some r.seq → unfinishedRecord r.seq s = some r → r.state = .designed →
              frameChainage s ≤ tgt → ((h - tgt).natAbs : Int) ≤ s.params.p12 → 0 < o →
              (∀ c, c = .lat ∨ c = .lvlL ∨ c = .lvlR ∨ c = .xl → (s.count.get c).nulled = true) →
              t.pos.drive = .holding ∧ t.pos.target = some tgt ∧ t.pos.output = driveCommand t
                ∧ t.pos.holdLost = false ∧ t.pos.strokeEnd = false
                ∧ t.cyc = { s.cyc with phase := .arrived, stopwatch := some t.clock }
                ∧ { r with state := .inWork } ∈ t.slp.records)
            ∧ (∀ r m, s.pos.drive = .indexing → s.cyc.mode = .work → s.cyc.phase = .indexing →
              s.cyc.current = some r.seq → unfinishedRecord r.seq s = some r → r.state = .designed →
              frameChainage s ≤ tgt → ((h - tgt).natAbs : Int) ≤ s.params.p12 →
              (∀ x, (s.axes.get x).state = .idle) →
              (m = .lat ∧ has .lat = false
                ∨ m = .lvlL ∧ has .lat = true ∧ has .lvlL = false
                ∨ m = .lvlR ∧ has .lat = true ∧ has .lvlL = true ∧ has .lvlR = false
                ∨ m = .xl ∧ has .lat = true ∧ has .lvlL = true ∧ has .lvlR = true ∧ has .xl = false) →
              t.cyc = haltedCycle .channelLost (some (.channel m)) s.cyc.resetCause
                ∧ t.pos.drive = .riding ∧ t.pos.output = .stop ∧ t.pos.target = none
                ∧ (∀ x, (t.axes.get x).state = .idle)
                ∧ (∀ u, (t.heads.get u).report = .cleared ∧ (t.heads.get u).plan = none)
                ∧ ∃ result, { r with state := .aborted, result := some result } ∈ t.slp.records
                  ∧ result.active = s.cyc.active.getD 0 ∧ result.skip = none ∧ result.cycleTime = 0
                  ∧ (∀ u, result.units.get u = .cleared)
                  ∧ ∀ x, result.axes.get x = ⟨none, none, none, none⟩)
            ∧ (s.pos.drive = .holding → s.cyc.mode = .work →
              s.cyc.phase = .arrived ∨ s.cyc.phase = .working ∨ s.cyc.phase = .clearing →
              HoldingJudged counted t ((h - tgt).natAbs : Int) o)

/-- An accepted change of the detector line by the detection state (R14, R63, R64, R65): an activation that is
taken opens a detection at the detector chainage, one that is not taken and a deactivation in IDLE change
nothing, and a detection of a width outside P34 closes with DETECT_REJECT and no record. Model's choices it
rests on: log 2. -/
def Obligations.DetectorEdgesPaired : Prop :=
  ∀ (s : State) (t0 : Nat), s.powered = true → s.count.detector.since = some t0 →
    let level := s.count.detector.present
    let active := level != s.params.p39low
    let taken := (s.cyc.mode = .work ∨ s.cyc.mode = .paused) ∧ s.pos.direction = .forward
    let accepted := { s.beginBy (t0 + s.params.p38) with
      count := { s.count with detector := ⟨level, level, none⟩ } }
    (s.slp.detection = none → active = true → taken →
        exec (.filterWindowExpiry .detector) s
          = .next (arbitrate { accepted with slp := { s.slp with detection := some (detectorChainage s) } }))
      ∧ (s.slp.detection = none → (active = false ∨ ¬ taken) →
        exec (.filterWindowExpiry .detector) s = .next (arbitrate accepted))
      ∧ (∀ a, s.slp.detection = some a → active = false → taken → s.slp.held = [] →
        (detectorChainage s - a < s.params.p34min ∨ s.params.p34max < detectorChainage s - a) →
        exec (.filterWindowExpiry .detector) s
          = .next (arbitrate
              (raiseFlag .detectReject { accepted with slp := { s.slp with detection := none } })))

/-- A closing detection of a width within its limits, by the checks in their order (R66 to R70, R78). Too
close to the high-water chainage it is dropped without a trace (R66); with 16 records held it is dropped with
QUEUE_OVERRUN (R67). Otherwise it enters at its centre: MATCHED to the WAITING bearer nearest to it within
P35, which becomes CONSUMED, or DETECTED with the default plan, UNPLANNED in a planned stretch. The entry is
stated in PAUSED with the engine on a pass, so that no other block acts on the new record at the same instant.
Model's choices it rests on: logs 2, 13. -/
def Obligations.DetectionEnters : Prop :=
  ∀ (s : State) (t0 : Nat) (a : Int),
    s.powered = true → s.count.detector.since = some t0 →
    s.count.detector.present = s.params.p39low →
    s.cyc.mode = .work ∨ s.cyc.mode = .paused → s.pos.direction = .forward →
    s.slp.detection = some a → s.slp.held = [] →
    let w := detectorChainage s - a
    let c := (a + detectorChainage s) / 2
    let level := s.count.detector.present
    let closed := { s.beginBy (t0 + s.params.p38) with
      count := { s.count with detector := ⟨level, level, none⟩ }
      slp := { s.slp with detection := none } }
    s.params.p34min ≤ w → w ≤ s.params.p34max →
    ((∃ h, s.slp.highWater = some h ∧ c ≤ h + s.params.p33) →
        exec (.filterWindowExpiry .detector) s = .next (arbitrate closed))
      ∧ ((∀ h, s.slp.highWater = some h → h + s.params.p33 < c) → 16 ≤ s.slp.records.length →
        exec (.filterWindowExpiry .detector) s = .next (arbitrate (raiseFlag .queueOverrun closed)))
      ∧ ∀ pass : DesignPass, s.cyc.mode = .paused → s.eng.activity = .designing pass → s.WindowSound →
        (∀ h, s.slp.highWater = some h → h + s.params.p33 < c) → s.slp.records.length < 16 →
        (∀ g b, g ∈ s.seg.segments → b ∈ g.bearers → b.consumed = false →
            ((b.chainage - c).natAbs : Int) ≤ s.params.p35 →
            (∀ b' ∈ poolOf s.seg.segments, b'.consumed = false →
              (b.chainage - c).natAbs < (b'.chainage - c).natAbs
                ∨ (b.chainage - c).natAbs = (b'.chainage - c).natAbs ∧ b.chainage ≤ b'.chainage) →
            ∃ t, exec (.filterWindowExpiry .detector) s = .next t
              ∧ t.slp = { s.slp with
                  detection := none
                  highWater := some c
                  nextSeq := if s.slp.nextSeq = 65535 then 1 else s.slp.nextSeq + 1
                  records := s.slp.records ++
                    [⟨s.slp.nextSeq, c, some w, .matched,
                      some ⟨b.tamp, b.tilt, b.insertions, b.depthOffset, g.id⟩, .queued, false, 0, none, none,
                      none⟩] }
              ∧ ∀ b' ∈ poolOf t.seg.segments, b'.chainage = b.chainage → b'.consumed = true)
          ∧ ((∀ b ∈ poolOf s.seg.segments, b.consumed = false →
              s.params.p35 < ((b.chainage - c).natAbs : Int)) →
            ∃ t unplanned flags, exec (.filterWindowExpiry .detector) s = .next t
              ∧ (unplanned = true ↔ ∃ g, segmentAt s.seg.segments c = some g ∧ g.planned = true)
              ∧ (∀ f, flagIn f flags = (decide (f = .unplanned) && unplanned))
              ∧ t.slp = { s.slp with
                  detection := none
                  highWater := some c
                  nextSeq := if s.slp.nextSeq = 65535 then 1 else s.slp.nextSeq + 1
                  records := s.slp.records ++
                    [⟨s.slp.nextSeq, c, some w, .detected, none, .queued, unplanned, flags, none, none, none⟩] }
              ∧ (unplanned = true → flagIn .unplanned t.cond.flags = true)
              ∧ (segmentAt s.seg.segments c = none → flagIn .segStarved t.cond.flags = true))

/-- The passing of planned bearers (R71, R72, R73), at a count of ODO that moves the detector forward in
PAUSED with the engine on a pass, so that no other block acts on a new record at the same instant. With no
detection OPEN every WAITING bearer more than P35 behind the detector, or P35 behind it, becomes CONSUMED; one
alone enters as PLANNED at its chainage with its plan, and is dropped where it fails the spacing check, or
with QUEUE_OVERRUN where the queue is full. While a detection is OPEN it is held, and judged when the
detection closes. No bearer passes in READY and HALTED (R63); those left WAITING are judged at the first
accepted append after entries resume. Model's choices it rests on: logs 1, 2, 4, 13, 20, 21. -/
def Obligations.PlannedBearersEnter : Prop :=
  (∀ (s : State) (t0 : Nat) (n : Int) (pass : DesignPass),
    s.powered = true → s.count.odo.a.since = some t0 → s.count.odo.paired = false →
    s.eng.activity = .designing pass →
    let ch := s.count.odo
    ((ch.a.present != ch.b.accepted) != channelIn .odo s.params.p39polarity) = true → n = ch.count + 1 →
    n ≤ 2147483647 →
    let counted := { s.beginBy (t0 + s.params.p38) with
      count := { s.count with odo := { ch with a := ⟨ch.a.present, ch.a.present, none⟩, count := n } } }
    let passed := fun b : Bearer => b.consumed = false ∧ b.chainage + s.params.p35 ≤ detectorChainage counted
    let used := fun (t : State) (c : Int) => ∀ b' ∈ poolOf t.seg.segments, b'.chainage = c → b'.consumed = true
    ∃ t, exec (.filterWindowExpiry (.channelA .odo)) s = .next t
      ∧ t.count = counted.count ∧ t.pos.direction = .forward
      ∧ frameChainage t = frameChainage counted ∧ detectorChainage t = detectorChainage counted
      ∧ (s.cyc.mode = .ready ∨ s.cyc.mode = .halted → t.slp = s.slp)
      ∧ (detectorChainage counted = detectorChainage s → s.cyc.mode = .paused → t.slp = s.slp)
      ∧ (detectorChainage counted ≠ detectorChainage s → s.cyc.mode = .paused →
        ((∀ b ∈ poolOf s.seg.segments, ¬ passed b) → t.slp = s.slp)
          ∧ (s.slp.detection = none → ∀ b ∈ poolOf t.seg.segments, ¬ passed b)
          ∧ ∀ before g after, s.seg.segments = before ++ g :: after → ∀ b ∈ g.bearers, passed b →
            s.WindowSound → (∀ b' ∈ poolOf s.seg.segments, passed b' → b' = b) →
            (∀ a, s.slp.detection = some a → s.slp.held = [] → t.slp = { s.slp with held := [b.chainage] })
              ∧ (s.slp.detection = none → (∀ h, s.slp.highWater = some h → h + s.params.p33 < b.chainage) →
                s.slp.records.length < 16 →
                used t b.chainage ∧ t.slp = { s.slp with
                  highWater := some b.chainage
                  nextSeq := if s.slp.nextSeq = 65535 then 1 else s.slp.nextSeq + 1
                  records := s.slp.records ++
                    [⟨s.slp.nextSeq, b.chainage, none, .planned,
                      some ⟨b.tamp, b.tilt, b.insertions, b.depthOffset, g.id⟩, .queued, false, 0, none, none,
                      none⟩] })
              ∧ (s.slp.detection = none → (∃ h, s.slp.highWater = some h ∧ b.chainage ≤ h + s.params.p33) →
                used t b.chainage ∧ t.slp = s.slp)
              ∧ (s.slp.detection = none → (∀ h, s.slp.highWater = some h → h + s.params.p33 < b.chainage) →
                s.slp.records.length = 16 →
                used t b.chainage ∧ t.slp = s.slp ∧ flagIn .queueOverrun t.cond.flags = true)))
    ∧ (∀ (s : State) (t0 : Nat) (a : Int) (pass : DesignPass) (b : Bearer),
      s.powered = true → s.count.detector.since = some t0 → s.count.detector.present = s.params.p39low →
      s.cyc.mode = .paused → s.pos.direction = .forward → s.eng.activity = .designing pass →
      s.slp.detection = some a → s.slp.held = [b.chainage] → s.WindowSound →
      b ∈ poolOf s.seg.segments → b.consumed = false →
      (detectorChainage s - a < s.params.p34min ∨ s.params.p34max < detectorChainage s - a) →
      (∀ h, s.slp.highWater = some h → h + s.params.p33 < b.chainage) → s.slp.records.length < 16 →
      ∃ t, exec (.filterWindowExpiry .detector) s = .next t ∧ t.slp.detection = none ∧ t.slp.held = []
        ∧ t.slp.highWater = some b.chainage ∧ t.slp.records.length = s.slp.records.length + 1
        ∧ flagIn .detectReject t.cond.flags = true)
    ∧ ∀ (s : State) (dt : Nat) (tag : Byte) (body : SegmentBody) (pass : DesignPass), s.Listens →
      s.cyc.mode = .paused → s.slp.detection = none → s.eng.activity = .designing pass →
      appendRefusal body s = none →
      ∃ t, exec (.segmentAppend dt tag body) s = .next t
        ∧ ∀ b ∈ poolOf t.seg.segments, b.chainage + s.params.p35 ≤ detectorChainage s → b.consumed = true

/-- An accepted change of a unit's pressure line (R15, R125): in a squeeze phase in which no pressure was seen
yet an activation is counted, and in PRESSURE mode ends the phase with one insertion and OPENING; in any other
state, and at a deactivation, the line is accepted and nothing else changes. Model's choices it rests on: log
2. -/
def Obligations.PressureLineSeen : Prop :=
  ∀ (s : State) (u : UnitId) (t0 : Nat), s.powered = true → (s.count.pressure.get u).since = some t0 →
    let h := s.heads.get u
    let level := (s.count.pressure.get u).present
    let accepted := { s.beginBy (t0 + s.params.p38) with
      count := { s.count with pressure := s.count.pressure.set u ⟨level, level, none⟩ } }
    let seen := { h with pressureSeen := true, report := { h.report with pressureCount := h.report.pressureCount + 1 } }
    (level = false → exec (.filterWindowExpiry (.pressure u)) s = .next (arbitrate accepted))
      ∧ (level = true → h.state = .squeezing → h.pressureSeen = false → h.squeezeMode = .pressure →
        s.Undisturbed u → s.NoRelease →
        exec (.filterWindowExpiry (.pressure u)) s
          = .next (arbitrate (State.driven { accepted with
              heads := s.heads.set u { seen with
                state := .opening
                timer := some ⟨s.params.p30, max s.clock (t0 + s.params.p38)⟩
                report := { seen.report with insertions := h.report.insertions + 1 } } })))
      ∧ (level = true → h.state = .squeezing → h.pressureSeen = false → h.squeezeMode = .time →
        exec (.filterWindowExpiry (.pressure u)) s
          = .next (arbitrate { accepted with heads := s.heads.set u seen }))
      ∧ (level = true → (h.state ≠ .squeezing ∨ h.pressureSeen = true) →
        exec (.filterWindowExpiry (.pressure u)) s = .next (arbitrate accepted))

/-! ## The correction engine and the axes -/

/-- DESIGN_PASS_COMPLETE writes the design part and makes the record DESIGNED; a held target request begins at
that instant, before any design pass, with its inputs of R86 (R81, R85, R87); with none held the engine judges
its next pass, which begins for the oldest QUEUED record left where its span is covered (R82, R83). Stated
where the cycle controller does not wait for the pass. Model's choices it rests on: logs 1, 16, 23, 29. -/
def Obligations.DesignPassWritten : Prop :=
  ∀ (s : State) (dt : Nat) (p : DesignPass) (r : Sleeper),
    s.powered = true → s.eng.activity = .designing p → s.InWorkOrOut →
    r ∈ s.slp.records → r.state = .queued → r.seq = p.seq →
    (∀ r' ∈ s.slp.records, r'.seq = p.seq → r' = r) →
    ∃ t, exec (.designPassComplete dt) s = .next t
      ∧ t.clock = s.clock + dt
      ∧ { r with state := .designed, design := some (designPart p) } ∈ t.slp.records
      ∧ t.slp.records.length = s.slp.records.length
      ∧ (∀ req d, s.eng.request = some req → unfinishedRecord req.seq s = some d → d.design.isSome = true →
          d.seq ≠ p.seq →
          ∀ part, d.design = some part →
            t.eng = ⟨.targeting (targetBegun s.params req.seq req.readings part), none⟩)
      ∧ (∀ before q after, s.eng.request = none → s.slp.records = before ++ q :: after → q.state = .queued →
          q.seq ≠ p.seq → (∀ x ∈ before, x.state = .queued → x.seq = p.seq) →
          ∀ a e, t.seg.segments.head?.map (·.start) = some a → queueEnd t.seg.segments = some e →
          (a ≤ q.chainage - max s.params.p02 s.params.p04 → q.chainage + max s.params.p01 s.params.p03 ≤ e →
              t.eng = ⟨.designing (designBegun s.params t.seg.segments q), none⟩)
            ∧ (a ≤ q.chainage - max s.params.p02 s.params.p04 → e < q.chainage + max s.params.p01 s.params.p03 →
              t.eng = ⟨.idle, none⟩))
      ∧ t.cyc = s.cyc ∧ t.count = s.count ∧ t.params = s.params ∧ t.heads = s.heads ∧ t.axes = s.axes
      ∧ t.headSet = s.headSet ∧ t.store = s.store

/-- TARGET_PASS_COMPLETE writes the target part and its flags, and starts the three axes on their target
versines (R88, R107, R152): an axis whose reading is already in its band holds with REACHED, any other moves
with its motion timer running and its parameters latched. Stated where a head of the active set is still in
its insertion train, so that no release follows at once. Model's choices it rests on: logs 1, 29. -/
def Obligations.TargetPassStartsAxes : Prop :=
  ∀ (s : State) (dt : Nat) (p : TargetPass) (r : Sleeper) (active : UnitSet),
    s.powered = true → s.eng.activity = .targeting p → s.cyc.mode = .work → s.cyc.phase = .arrived →
    s.cyc.current = some p.seq → firstUnfinished s = some r → r.seq = p.seq → r.state = .inWork →
    s.cyc.active = some active → (∃ u, unitIn u active = true ∧ inTrain (s.heads.get u).state = true) →
    (∀ a, (s.axes.get a).state = .idle ∧ (s.axes.get a).started = false) →
    ∀ lat lvlL lvlR, reading .lat s = some lat → reading .lvlL s = some lvlL → reading .lvlR s = some lvlR →
    let target := (targetPart p).1
    let now := s.clock + dt
    ∃ t, exec (.targetPassComplete dt) s = .next t
      ∧ t.cyc.mode = .work ∧ t.cyc.phase = .working ∧ t.cyc.current = s.cyc.current
      ∧ t.cyc.active = s.cyc.active
      ∧ (∃ r' ∈ t.slp.records, r'.seq = p.seq ∧ r'.chainage = r.chainage ∧ r'.state = .inWork
          ∧ r'.design = r.design ∧ r'.target = some target
          ∧ ∀ f ∈ (targetPart p).2, flagIn f r'.flags = true)
      ∧ (∀ f ∈ (targetPart p).2, flagIn f t.cond.flags = true)
      ∧ (∀ a vt vm, (a = .liftL ∧ vt = target.vtL ∧ vm = lvlL ∨ a = .liftR ∧ vt = target.vtR ∧ vm = lvlR) →
          (t.axes.get a).started = true ∧ (t.axes.get a).target = some vt
            ∧ (t.axes.get a).latched = some ⟨s.params.p19, s.params.p21, 0⟩
            ∧ (vm ≤ vt + s.params.p19 →
                (t.axes.get a).state = .hold ∧ (t.axes.get a).outcome = some .reached
                  ∧ (t.axes.get a).motion = none ∧ (t.axes.get a).overshoot = some (max 0 (vt - vm)))
            ∧ (vt + s.params.p19 < vm →
                (t.axes.get a).state = .moving ∧ (t.axes.get a).stage = some .driving
                  ∧ (t.axes.get a).motion = some ⟨s.params.p21, now⟩))
      ∧ (t.axes.line.started = true ∧ t.axes.line.target = some target.vtLat
          ∧ t.axes.line.latched = some ⟨s.params.p20, s.params.p22, s.params.p23⟩
          ∧ (-s.params.p20 ≤ lat - target.vtLat ∧ lat - target.vtLat ≤ s.params.p20 →
              t.axes.line.state = .hold ∧ t.axes.line.outcome = some .reached ∧ t.axes.line.motion = none)
          ∧ (0 ≤ s.params.p20 → s.params.p20 < lat - target.vtLat →
              t.axes.line.state = .moving ∧ t.axes.line.stage = some .driving
                ∧ t.axes.line.lastDir = some .left ∧ t.axes.line.motion = some ⟨s.params.p22, now⟩)
          ∧ (0 ≤ s.params.p20 → lat - target.vtLat < -s.params.p20 →
              t.axes.line.state = .moving ∧ t.axes.line.stage = some .driving
                ∧ t.axes.line.lastDir = some .right ∧ t.axes.line.motion = some ⟨s.params.p22, now⟩))
      ∧ t.count = s.count ∧ t.params = s.params ∧ t.headSet = s.headSet ∧ t.store = s.store

/-- AXIS_SETTLE_EXPIRY and AXIS_MOTION_TIMEOUT (R109, R110, R112, R113, R124): the axis goes to HOLD with its
timers stopped and a lift's overshoot measured, REACHED from SETTLING, TIMEOUT with its flag from DRIVING; the
other axes keep all their state, and where all three now hold with no release pending every INSERTED unit
leaves INSERTED. Model's choices it rests on: log 2. -/
def Obligations.AxisMotionEnds : Prop :=
  ∀ (s : State) (a : AxisId) (tm : Timer), s.powered = true → s.InWorkOrOut →
    let x := s.axes.get a
    let overshoot := if a = .line then x.overshoot else some (match axisReading a s with
      | some vm => max 0 (x.target.getD 0 - vm)
      | none => 0)
    let held := fun outcome : AxisOutcome => { x with
      state := .hold, stage := none, motion := none, settle := none, outcome := some outcome, overshoot := overshoot }
    let follows := fun (t : State) (outcome : AxisOutcome) =>
      t.clock = max s.clock (tm.started + 1000 * tm.loaded)
        ∧ t.axes = s.axes.set a (held outcome)
        ∧ (∀ u, (s.heads.get u).state ≠ .inserted → t.heads.get u = s.heads.get u)
        ∧ ((∀ b, (t.axes.get b).state = .hold ∧ (t.axes.get b).releasePending = false) →
            ∀ u, (t.heads.get u).state ≠ .inserted)
        ∧ ((∃ b, (t.axes.get b).state ≠ .hold) → t.heads = s.heads)
        ∧ t.cyc = s.cyc ∧ t.count = s.count ∧ t.params = s.params ∧ t.seg = s.seg ∧ t.eng = s.eng
        ∧ t.headSet = s.headSet ∧ t.store = s.store
    (x.settle = some tm →
        ∃ t, exec (.axisSettleExpiry a) s = .next t ∧ follows t .reached)
      ∧ (x.motion = some tm → x.stage = some .settling →
        ∃ t, exec (.axisMotionTimeout a) s = .next t ∧ follows t .reached)
      ∧ (x.motion = some tm → x.stage = some .driving →
        ∃ t, exec (.axisMotionTimeout a) s = .next t ∧ follows t .timeout
          ∧ flagIn (if a = .line then .lineTimeout else .liftTimeout) t.cond.flags = true)

/-- The reading of a SETTLING lining axis leaves its band on the side opposite to its last direction (R111):
below the latched limit the count rises and the axis drives in the new direction, at the limit it goes to HOLD
with HUNT and LINE_HUNT, its count kept. The change is one step of LAT, on line A or on line B. Model's
choices it rests on: log 2. -/
def Obligations.LineHuntJudged : Prop :=
  ∀ (s : State) (t0 : Nat) (l : AxisLatch) (vt v vm : Int) (line : Line), s.powered = true → s.InWorkOrOut →
    let ch := s.count.lat
    let inverted := channelIn .lat s.params.p39polarity
    (line = .channelA .lat ∧ ch.a.since = some t0
        ∧ vm = (if ((ch.a.present != ch.b.accepted) != inverted) then v + 1 else v - 1)
      ∨ line = .channelB .lat ∧ ch.b.since = some t0
        ∧ vm = (if ((ch.b.present == ch.a.accepted) != inverted) then v + 1 else v - 1)) →
    ch.paired = false → ch.nulled = true → -2147483648 < ch.count → ch.count < 2147483647 →
    s.axes.line.state = .moving → s.axes.line.stage = some .settling → s.axes.line.latched = some l →
    s.axes.line.target = some vt → reading .lat s = some v →
    let wanted := if vm - vt > 0 then LineDir.left else LineDir.right
    l.deadband < ((vm - vt).natAbs : Int) →
    s.axes.line.lastDir ≠ some wanted →
    ∃ t, exec (.filterWindowExpiry line) s = .next t
      ∧ t.axes.liftL = s.axes.liftL ∧ t.axes.liftR = s.axes.liftR ∧ reading .lat t = some vm
      ∧ (s.axes.line.reversals < l.reversalLimit →
          t.axes.line = { s.axes.line with
            stage := some .driving
            settle := none
            lastDir := some wanted
            reversals := s.axes.line.reversals + 1 })
      ∧ (l.reversalLimit ≤ s.axes.line.reversals →
          t.axes.line = { s.axes.line with
            state := .hold, stage := none, motion := none, settle := none, outcome := some .hunt }
          ∧ flagIn .lineHunt t.cond.flags = true)

/-- What an accepted count does at the axes and the units. A MOVING axis whose new reading lies in its band
goes from DRIVING to SETTLING with the settle timer started, a lift's at or below vt + P19 (R109) and LINE's
within P20 of vt (R110); one that leaves the band on the side of its motion drives again; in every other case
nothing moves. A LOWERING unit at its target depth enters INSERTED, and SQUEEZING at once where the gate is
open (R123, R124); a RAISING unit at its top depth enters UP (R128, R129), where a pending lower is taken
(R121); and the deepest depth follows the reading while the unit takes part (R133). LINE's reversal is stated
in LineHuntJudged. Model's choices it rests on: log 2. -/
def Obligations.ReadingsJudged : Prop :=
  (∀ (s : State) (a : AxisId) (c : ChannelId) (t0 : Nat) (n vt vm : Int) (l : AxisLatch),
    a = .liftL ∧ c = .lvlL ∨ a = .liftR ∧ c = .lvlR ∨ a = .line ∧ c = .lat →
    s.powered = true → (s.count.get c).a.since = some t0 → (s.count.get c).paired = false →
    let ch := s.count.get c
    n = (if ((ch.a.present != ch.b.accepted) != channelIn c s.params.p39polarity) then ch.count + 1
      else ch.count - 1) →
    -2147483648 ≤ n → n ≤ 2147483647 →
    let counted := { s.beginBy (t0 + s.params.p38) with
      count := s.count.set c { ch with a := ⟨ch.a.present, ch.a.present, none⟩, count := n } }
    reading c counted = some vm →
    let x := s.axes.get a
    let becomes := fun x' : Axis => exec (.filterWindowExpiry (.channelA c)) s
      = .next (arbitrate { counted with axes := s.axes.set a x' })
    (x.state ≠ .moving → becomes x)
      ∧ (x.state = .moving → x.target = some vt → x.latched = some l →
        let inside := a ≠ .line ∧ vm ≤ vt + l.deadband ∨ a = .line ∧ ((vm - vt).natAbs : Int) ≤ l.deadband
        (x.stage = some .driving → inside →
            becomes { x with stage := some .settling, settle := some ⟨150, max s.clock (t0 + s.params.p38)⟩ })
          ∧ (x.stage = some .driving → ¬ inside → becomes x)
          ∧ (x.stage = some .settling → inside → becomes x)
          ∧ (x.stage = some .settling → ¬ inside → a ≠ .line → becomes { x with stage := some .driving, settle := none })
          ∧ (x.stage = some .settling → ¬ inside → a = .line →
            x.lastDir = some (if vm - vt > 0 then LineDir.left else LineDir.right) →
            becomes { x with stage := some .driving, settle := none })))
    ∧ ∀ (s : State) (u : UnitId) (t0 : Nat) (n d : Int),
      s.powered = true → (s.count.get (.dep u)).a.since = some t0 → (s.count.get (.dep u)).paired = false →
      let ch := s.count.get (.dep u)
      n = (if ((ch.a.present != ch.b.accepted) != channelIn (.dep u) s.params.p39polarity) then ch.count + 1
        else ch.count - 1) →
      -2147483648 ≤ n → n ≤ 2147483647 → s.Undisturbed u → s.NoRelease →
      let now := max s.clock (t0 + s.params.p38)
      let counted := { s.beginBy (t0 + s.params.p38) with
        count := s.count.set (.dep u) { ch with a := ⟨ch.a.present, ch.a.present, none⟩, count := n } }
      depthOf u counted = some d →
      let h := s.heads.get u
      let deeper := if h.report.participated = true then
          { h with report := { h.report with deepest := some ((h.report.deepest.map (max · d)).getD d) } }
        else h
      let becomes := fun h' : Head => exec (.filterWindowExpiry (.channelA (.dep u))) s
        = .next (arbitrate (State.driven { counted with heads := s.heads.set u h' }))
      let up := { deeper with state := .up, stage := none, timer := none, latched := none, pendingLower := false }
      let rejoined := { up with report := { h.report with participated := true, deepest := some d } }
      let rising := h.state = .raising ∧ (h.stage = some .normal ∨ h.stage = some .stuck)
      (h.state ≠ .lowering → ¬ rising →
          exec (.filterWindowExpiry (.channelA (.dep u))) s
            = .next (arbitrate { counted with heads := s.heads.set u deeper }))
        ∧ (∀ p, h.state = .lowering → h.plan = some p →
          (d < p.depth → exec (.filterWindowExpiry (.channelA (.dep u))) s
              = .next (arbitrate { counted with heads := s.heads.set u deeper }))
            ∧ (p.depth ≤ d → (∃ a, (s.axes.get a).state ≠ .hold) →
              becomes { deeper with state := .inserted, timer := none })
            ∧ (p.depth ≤ d → (∀ a, (s.axes.get a).state = .hold) → (s.count.pressure.get u).accepted = false →
              becomes { deeper with
                state := .squeezing, timer := some ⟨s.params.p29, now⟩, squeezeMode := s.params.p31
                pressureSeen := false }))
        ∧ (∀ l, rising → h.latched = some l →
          (l.top < d → exec (.filterWindowExpiry (.channelA (.dep u))) s
              = .next (arbitrate { counted with heads := s.heads.set u deeper }))
            ∧ (d ≤ l.top → h.pendingLower = false → becomes up)
            ∧ (∀ p, d ≤ l.top → h.pendingLower = true → h.plan = some p →
              (p.tilted ≠ h.tilted →
                  becomes { rejoined with
                    state := .tilting, tilted := p.tilted, timer := some ⟨s.params.p32, now⟩ })
                ∧ (p.tilted = h.tilted → d < p.depth →
                  becomes { rejoined with state := .lowering, timer := some ⟨s.params.p27, now⟩ })))

/-! ## The workhead units -/

/-- TILT_EXPIRY (R122): the unit enters LOWERING with P27 loaded, or with its abort marker set UP with the
marker cleared. Its depth is short of its target, so it goes on lowering. LOWER_TIMEOUT (R123, R128): the head
is blocked and rises, with P28 loaded and P25 and P26 latched, and HEAD_BLOCKED is raised. Its depth is beyond
the top depth, so it goes on rising. Where the unit is the last active one in its train, that is the end of
WORKING: the axes take the release order, a MOVING one is CUT, and the phase is CLEARING (R114, R152). Model's
choices it rests on: logs 2, 43. -/
def Obligations.TiltAndLowerEnd : Prop :=
  (∀ (s : State) (u : UnitId) (tm : Timer), s.powered = true → s.Undisturbed u → s.NoRelease →
    let h := s.heads.get u
    let now := max s.clock (tm.started + 1000 * tm.loaded)
    h.state = .tilting → h.stage = none → h.timer = some tm →
    (h.abort = false → (∀ d p, depthOf u s = some d → h.plan = some p → d < p.depth) →
        exec (.tiltExpiry u) s
          = .next (arbitrate (State.driven { s.beginBy tm.ends with
              heads := s.heads.set u { h with state := .lowering, timer := some ⟨s.params.p27, now⟩ } })))
      ∧ (h.abort = true → h.pendingLower = false →
        exec (.tiltExpiry u) s
          = .next (arbitrate (State.driven { s.beginBy tm.ends with
              heads := s.heads.set u { h with state := .up, timer := none, latched := none, abort := false } }))))
    ∧ (∀ (s : State) (u : UnitId) (tm : Timer), s.powered = true → s.Undisturbed u → s.NoRelease →
      let h := s.heads.get u
      let now := max s.clock (tm.started + 1000 * tm.loaded)
      h.state = .lowering → h.stage = none → h.timer = some tm →
      (∀ d, depthOf u s = some d → s.params.p26 < d) →
      exec (.lowerTimeout u) s
        = .next (arbitrate (recordFlag .headBlocked (State.driven { s.beginBy tm.ends with
            heads := s.heads.set u { h with
              state := .raising
              stage := some .normal
              timer := some ⟨s.params.p28, now⟩
              latched := some ⟨s.params.p25, s.params.p26⟩
              report := { h.report with blocked := true } } }))))
    ∧ ∀ (s : State) (u : UnitId) (tm : Timer) (d : Int), s.powered = true → s.LastInTrain u → s.NoRelease →
      let h := s.heads.get u
      let now := max s.clock (tm.started + 1000 * tm.loaded)
      h.state = .lowering → h.stage = none → h.timer = some tm → h.pendingLower = false →
      depthOf u s = some d → s.params.p25 < d → s.params.p26 < d →
      ∃ t, exec (.lowerTimeout u) s = .next t ∧ t.clock = now ∧ flagIn .headBlocked t.cond.flags = true
          ∧ t.heads = s.heads.set u { h with
              state := .raising
              stage := some .normal
              timer := some ⟨s.params.p28, now⟩
              latched := some ⟨s.params.p25, s.params.p26⟩
              report := { h.report with blocked := true } }
          ∧ (∀ a, t.axes.get a = releasedAxis a s)
          ∧ t.cyc = { s.cyc with phase := .clearing }
          ∧ t.pos = { s.pos with output := driveCommand t, demand := demandOf t, strokeTerm := strokeTermOf t }
          ∧ t.count = s.count ∧ t.params = s.params ∧ t.seg = s.seg ∧ t.eng = s.eng ∧ t.headSet = s.headSet
          ∧ t.store = s.store

/-- SQUEEZE_TIMER_EXPIRY (R125, R127): the phase counts one insertion and the unit opens with P30 loaded;
where no pressure was seen LOW_PRESSURE is raised. OPEN_EXPIRY (R127, R124): with insertions remaining the
unit goes to INSERTED, and at once to SQUEEZING with P29 loaded and P31 latched where the gate is open;
otherwise, or with its abort marker set, it rises. A rising unit's depth is beyond the top depth, and a
squeezing unit's pressure line is inactive. Where the unit is the last active one in its train, the axes take
the release order at that instant, each with its final versine, and the phase is CLEARING (R114, R152).
Model's choices it rests on: logs 2, 43. -/
def Obligations.SqueezeAndOpeningEnd : Prop :=
  (∀ (s : State) (u : UnitId) (tm : Timer), s.powered = true → s.Undisturbed u → s.NoRelease →
    let h := s.heads.get u
    let now := max s.clock (tm.started + 1000 * tm.loaded)
    h.state = .squeezing → h.stage = none → h.timer = some tm →
    let opened := State.driven { s.beginBy tm.ends with
      heads := s.heads.set u { h with
        state := .opening
        timer := some ⟨s.params.p30, now⟩
        report := { h.report with insertions := h.report.insertions + 1 } } }
    (h.pressureSeen = true → exec (.squeezeTimerExpiry u) s = .next (arbitrate opened))
      ∧ (h.pressureSeen = false →
        exec (.squeezeTimerExpiry u) s = .next (arbitrate (recordFlag .lowPressure opened))))
    ∧ (∀ (s : State) (u : UnitId) (tm : Timer) (p : HeadPlan), s.powered = true → s.Undisturbed u → s.NoRelease →
      let h := s.heads.get u
      let now := max s.clock (tm.started + 1000 * tm.loaded)
      h.state = .opening → h.stage = none → h.timer = some tm → h.plan = some p →
      (∀ d, depthOf u s = some d → s.params.p26 < d) → (s.count.pressure.get u).accepted = false →
      let into := fun h' : Head => exec (.openExpiry u) s
        = .next (arbitrate (State.driven { s.beginBy tm.ends with heads := s.heads.set u h' }))
      (h.abort = true ∨ p.insertions ≤ h.report.insertions →
          into { h with
            state := .raising
            stage := some .normal
            timer := some ⟨s.params.p28, now⟩
            latched := some ⟨s.params.p25, s.params.p26⟩
            abort := false })
        ∧ (h.abort = false → h.report.insertions < p.insertions → (∃ a, (s.axes.get a).state ≠ .hold) →
          into { h with state := .inserted, timer := none })
        ∧ (h.abort = false → h.report.insertions < p.insertions → (∀ a, (s.axes.get a).state = .hold) →
          into { h with
            state := .squeezing
            timer := some ⟨s.params.p29, now⟩
            squeezeMode := s.params.p31
            pressureSeen := false }))
    ∧ ∀ (s : State) (u : UnitId) (tm : Timer) (p : HeadPlan) (d : Int), s.powered = true → s.LastInTrain u →
      s.NoRelease →
      let h := s.heads.get u
      let now := max s.clock (tm.started + 1000 * tm.loaded)
      h.state = .opening → h.stage = none → h.timer = some tm → h.plan = some p → h.pendingLower = false →
      h.abort = true ∨ p.insertions ≤ h.report.insertions →
      depthOf u s = some d → s.params.p25 < d → s.params.p26 < d →
      ∃ t, exec (.openExpiry u) s = .next t ∧ t.clock = now
          ∧ t.heads = s.heads.set u { h with
              state := .raising
              stage := some .normal
              timer := some ⟨s.params.p28, now⟩
              latched := some ⟨s.params.p25, s.params.p26⟩
              abort := false }
          ∧ (∀ a, t.axes.get a = releasedAxis a s)
          ∧ t.cyc = { s.cyc with phase := .clearing }
          ∧ t.pos = { s.pos with output := driveCommand t, demand := demandOf t, strokeTerm := strokeTermOf t }
          ∧ t.count = s.count ∧ t.params = s.params ∧ t.seg = s.seg ∧ t.eng = s.eng ∧ t.headSet = s.headSet
          ∧ t.store = s.store
          ∧ ((∀ a, (s.axes.get a).state ≠ .moving) →
              s.pos.strokeTerm = strokeTermOf s → t.slp = s.slp ∧ t.cond = s.cond)

/-- RAISE_TIMEOUT (R128, R129, R154, R155): a head at the latched P25 or less enters UP; any other is STUCK
with its timer stopped, which in WORK and PAUSED makes a hard halt with cause UNIT_STUCK and that unit, and in
READY and HALTED leaves the cycle controller as it is. BLIND_RAISE_EXPIRY takes the unit to FAULTED (R131);
that its abort marker stays is the model's choice (log 43). PARKING_EXPIRY takes it to UP, or where its depth
channel's fault marker is set to FAULTED with UNIT_FAULT (R137); parking is stated outside WORK, since START
is refused while a unit is PARKING (R141). Model's choices it rests on: logs 2, 43. -/
def Obligations.RaisesEnd : Prop :=
  (∀ (s : State) (u : UnitId) (tm : Timer) (l : HeadLatch), s.powered = true →
    let h := s.heads.get u
    h.state = .raising → h.stage = some .normal → h.timer = some tm → h.latched = some l →
    ((∃ d, depthOf u s = some d ∧ d ≤ l.clear) → h.pendingLower = false → s.Undisturbed u → s.NoRelease →
        exec (.raiseTimeout u) s
          = .next (arbitrate (State.driven { s.beginBy tm.ends with
              heads := s.heads.set u { h with state := .up, stage := none, timer := none, latched := none } })))
      ∧ ((∀ d, depthOf u s = some d → l.clear < d) → s.cyc.mode = .work ∨ s.cyc.mode = .paused →
        ∃ t, exec (.raiseTimeout u) s = .next t
          ∧ t.heads.get u = { h with stage := some .stuck, timer := none, pendingLower := false }
          ∧ t.cyc.mode = .halted ∧ t.cyc.phase = .none ∧ t.cyc.cause = .unitStuck
          ∧ t.cyc.detail = some (.unit u) ∧ t.pos.demand = .stop ∧ t.pos.drive = .riding)
      ∧ ((∀ d, depthOf u s = some d → l.clear < d) → s.cyc.mode = .ready ∨ s.cyc.mode = .halted →
        s.NoRelease →
        exec (.raiseTimeout u) s
          = .next (arbitrate (State.driven { s.beginBy tm.ends with
              heads := s.heads.set u { h with stage := some .stuck, timer := none } }))))
    ∧ ∀ (s : State) (u : UnitId) (tm : Timer), s.powered = true → s.NoRelease →
      let h := s.heads.get u
      h.timer = some tm →
      (h.state = .raising → h.stage = some .blind → s.Undisturbed u →
          exec (.blindRaiseExpiry u) s
            = .next (arbitrate (State.driven { s.beginBy tm.ends with
                heads := s.heads.set u
                  { h with state := .faulted, stage := none, timer := none, latched := none } })))
        ∧ (h.state = .parking → h.stage = none → s.cyc.mode ≠ .work → h.pendingLower = false →
          (s.count.get (.dep u)).fault = false →
          exec (.parkingExpiry u) s
            = .next (arbitrate (State.driven { s.beginBy tm.ends with
                heads := s.heads.set u { h with state := .up, timer := none, latched := none } })))
        ∧ (h.state = .parking → h.stage = none → s.cyc.mode ≠ .work → (s.count.get (.dep u)).fault = true →
          exec (.parkingExpiry u) s
            = .next (arbitrate (setFlag .unitFault (State.driven { s.beginBy tm.ends with
                heads := s.heads.set u { h with state := .faulted, timer := none, latched := none } }))))

/-! ## The cab link -/

/-- BYTE_RECEIVED in each state of the receive assembler, with the stop bit high and no gap (R171): SYNC
starts a frame in HUNT and any other byte is dropped there without a flag; LENGTH, KIND, TAG, body bytes and
the first CHECK byte are kept, and nothing but the assembler changes. RECEIVE_HOLD_DROP: a byte in the receive
hold is dropped and raises LINK_ERROR (R172), and a byte behind an accepted RESTART is dropped without it
(R177). FRAME_DISCARD: a LENGTH above 240, a stop bit low, a CHECK that does not match and a byte more than 5
ms late discard the frame with LINK_ERROR and return the assembler to HUNT, where the late byte is then taken
(R171). Model's choices it rests on: logs 1, 5, 35. -/
def Obligations.BytesTaken : Prop :=
  (∀ (s : State) (dt : Nat) (b : Byte), s.powered = true → s.link.restart = false → s.link.hold = false →
    let goesTo := fun a : Assembler => exec (.byteReceived dt b false) s
      = .next (arbitrate { s.beginAt dt with
          link := { s.link with assembler := a, lastByte := s.clock + dt } })
    (s.link.assembler = .hunt → b = 0xA5 → goesTo .length)
      ∧ (s.link.assembler = .hunt → b ≠ 0xA5 → goesTo .hunt)
      ∧ (s.clock + dt ≤ s.link.lastByte + 5043 →
        (s.link.assembler = .length → b.toNat ≤ 240 → goesTo (.kind b.toNat))
          ∧ (∀ len, s.link.assembler = .kind len → goesTo (.tag len b))
          ∧ (∀ kind, s.link.assembler = .tag 0 kind → goesTo (.checkHigh kind b []))
          ∧ (∀ len kind, s.link.assembler = .tag (len + 1) kind → goesTo (.body (len + 1) kind b []))
          ∧ (∀ len kind tag bytes, s.link.assembler = .body len kind tag bytes → bytes.length + 1 < len →
              goesTo (.body len kind tag (bytes ++ [b])))
          ∧ (∀ len kind tag bytes, s.link.assembler = .body len kind tag bytes → bytes.length + 1 = len →
              goesTo (.checkHigh kind tag (bytes ++ [b])))
          ∧ (∀ kind tag body, s.link.assembler = .checkHigh kind tag body →
              goesTo (.checkLow kind tag body b))))
    ∧ ∀ (s : State) (dt : Nat) (b : Byte) (low : Bool), s.powered = true →
      let inHunt := fun a : Assembler => { s.beginAt dt with
        link := { s.link with assembler := a, lastByte := s.clock + dt } }
      (s.link.restart = true → exec (.receiveHoldDrop dt b low) s = .next (arbitrate (s.beginAt dt)))
        ∧ (s.link.restart = false → s.link.hold = true →
          exec (.receiveHoldDrop dt b low) s = .next (arbitrate (raiseFlag .linkError (s.beginAt dt))))
        ∧ (s.link.restart = false → s.link.hold = false → s.link.assembler ≠ .hunt →
          (s.clock + dt ≤ s.link.lastByte + 5043 →
            (low = true →
              exec (.frameDiscard dt b low) s = .next (arbitrate (raiseFlag .linkError (inHunt .hunt))))
            ∧ (low = false → s.link.assembler = .length → 240 < b.toNat →
              exec (.frameDiscard dt b low) s = .next (arbitrate (raiseFlag .linkError (inHunt .hunt))))
            ∧ (low = false → ∀ kind tag body high, s.link.assembler = .checkLow kind tag body high →
              beNat [high, b] ≠ crc16 (BitVec.ofNat 8 body.length :: kind :: tag :: body) →
              exec (.frameDiscard dt b low) s = .next (arbitrate (raiseFlag .linkError (inHunt .hunt)))))
          ∧ (s.link.lastByte + 5043 < s.clock + dt →
            exec (.frameDiscard dt b low) s
              = .next (arbitrate (raiseFlag .linkError
                  (inHunt (if b = 0xA5 ∧ low = false then .length else .hunt))))))

/-- FRAME_ARRIVAL: the last CHECK byte of an intact frame (R171, R172, R173, R174, R178). With four requests
unanswered its tag joins the QUEUE_FULL list, which turns the hold on at 16. A port that answers at once
answers a kind that names no request UNKNOWN_KIND and a body of the wrong length BAD_LENGTH, with no effect in
any other block; a READ_PARAM that fits is taken by its owner. The row of each of the eighteen requests is
such a frame coming whole: dropped behind a RESTART, dropped with LINK_ERROR in the hold, queued or refused
QUEUE_FULL as any frame, waiting behind a request that is being taken, and discarding with LINK_ERROR a frame
that is being assembled. Model's choices it rests on: logs 1, 4, 5, 26, 37. -/
def Obligations.FrameArrivalAnswered : Prop :=
  (∀ (s : State) (dt : Nat) (kind tag high b : Byte) (body : List Byte), s.powered = true →
    s.link.restart = false → s.link.hold = false → s.link.assembler = .checkLow kind tag body high →
    s.clock + dt ≤ s.link.lastByte + 5043 →
    beNat [high, b] = crc16 (BitVec.ofNat 8 body.length :: kind :: tag :: body) →
    (s.link.requests.length = 4 →
        exec (.frameArrival dt b false) s
          = .next (arbitrate { s.beginAt dt with
              link := { s.link with
                assembler := .hunt
                lastByte := s.clock + dt
                supervision := heardAt s.params (s.clock + dt)
                full := s.link.full ++ [(kind, tag)]
                hold := decide (16 ≤ s.link.full.length + 1) } }))
      ∧ (s.Answers → Request.parse kind body = .unknownKind →
        exec (.frameArrival dt b false) s
          = .next { s.beginAt dt with
              link := s.answeringFrame dt kind tag .unknownKind .unknownKind [] })
      ∧ (s.Answers → Request.parse kind body = .badLength →
        exec (.frameArrival dt b false) s
          = .next { s.beginAt dt with
              link := s.answeringFrame dt kind tag .badLength .badLength [] })
      ∧ (s.Answers → kind = 0x10 → ∀ id : Byte, body = [id] → 1 ≤ id.toNat → id.toNat ≤ 39 →
        exec (.frameArrival dt b false) s
          = .next { s.beginAt dt with
              link := s.answeringFrame dt kind tag (.readParam id) .ok
                ([id] ++ beBytes 4 (s.params.value id.toNat)) }))
    ∧ ∀ (s : State) (c : Instr) (dt : Nat) (tag : Byte) (r : Request), s.powered = true →
      requestOf c = some (dt, tag, r) →
      let heard := { s.link with
        assembler := .hunt, lastByte := s.clock + dt, supervision := heardAt s.params (s.clock + dt) }
      (s.link.restart = true → exec c s = .next (arbitrate (s.beginAt dt)))
        ∧ (s.link.restart = false → s.link.hold = true →
          exec c s = .next (arbitrate (raiseFlag .linkError (s.beginAt dt))))
        ∧ (s.link.restart = false → s.link.hold = false → s.link.assembler = .hunt →
          (s.link.requests.length = 4 →
              exec c s = .next (arbitrate { s.beginAt dt with
                link := { heard with
                  full := s.link.full ++ [(r.kind, tag)], hold := decide (16 ≤ s.link.full.length + 1) } }))
            ∧ (∀ before q, s.link.requests = before ++ [q] → before.length < 3 →
              (∀ p ∈ before, p.progress = .replied) → q.progress = .taking →
              exec c s = .next (arbitrate { s.beginAt dt with
                link := { heard with requests := s.link.requests ++ [⟨r.kind, tag, r, .waiting⟩] } })))
        ∧ (s.link.restart = false → s.link.hold = false → s.link.assembler ≠ .hunt →
          exec c s = .next (arbitrate (arriveFrame r.kind tag r (raiseFlag .linkError { s.beginAt dt with
              link := { s.link with assembler := .hunt, lastByte := s.clock + dt } }))))

/-- TRANSMIT_END (R175, R75, R76, R172, R177): a QUEUE_FULL tag leaves its list, and the hold turns off below
16; a reply and its request leave their queues; the front record leaves the sleeper queue, and where it had
stayed from a JOB_CLEAR the high-water chainage is cleared unless a record has entered since; a notice leaves
nothing behind. The port then chooses what it sends next. Model's choices it rests on: logs 33, 39. -/
def Obligations.TransmissionEnds : Prop :=
  ∀ (s : State) (x : Transmission), s.powered = true → s.link.restart = false → s.link.tx = some x →
    let now := s.beginBy (x.began + x.bytes.length * 10000000 / 230400)
    (x.source = .queueFull →
        exec .transmitEnd s
          = .next (arbitrate { now with link := { s.link with
              tx := none
              full := s.link.full.tail
              hold := s.link.hold && decide (16 ≤ s.link.full.tail.length) } }))
      ∧ (x.source = .reply →
        exec .transmitEnd s
          = .next (arbitrate { now with link := { s.link with
              tx := none
              requests := s.link.requests.tail
              replies := s.link.replies.tail } }))
      ∧ (x.source = .workRecord →
        exec .transmitEnd s
          = .next (arbitrate (refreshDemand { now with
              link := { s.link with tx := none }
              slp := { s.slp with
                records := s.slp.records.tail
                staying := false
                highWater := if s.slp.staying = true ∧ s.slp.records.tail = [] then none
                  else s.slp.highWater } })))
      ∧ (x.source = .notice →
        exec .transmitEnd s = .next (arbitrate { now with link := { s.link with tx := none } }))

/-- SUPERVISION_TIMEOUT: the timer stops, and cab silence makes a hard halt with cause CAB_SILENT in WORK and
PAUSED and has no effect in READY and HALTED (R178, R154, R155). Model's choices it rests on: log 2. -/
def Obligations.SupervisionHalts : Prop :=
  ∀ (s : State) (tm : Timer), s.powered = true → s.link.supervision = some tm →
    (s.cyc.mode = .ready ∨ s.cyc.mode = .halted →
        exec .supervisionTimeout s
          = .next (arbitrate { s.beginBy (tm.started + 1000 * tm.loaded) with
              link := { s.link with supervision := none } }))
      ∧ (s.cyc.mode = .work ∨ s.cyc.mode = .paused → s.LowersPendRaising →
        ∃ t, exec .supervisionTimeout s = .next t
          ∧ t.clock = max s.clock (tm.started + 1000 * tm.loaded)
          ∧ t.link.supervision = none
          ∧ t.cyc = ⟨.halted, .none, false, none, none, none, .cabSilent, none, s.cyc.resetCause⟩
          ∧ t.cond.armed = none ∧ t.pos.demand = .stop ∧ t.pos.drive = .riding ∧ t.pos.output = .stop
          ∧ t.pos.target = none
          ∧ (∀ u, (t.heads.get u).state ≠ .lowering ∧ (t.heads.get u).state ≠ .inserted
              ∧ (t.heads.get u).state ≠ .squeezing)
          ∧ (∀ a, (t.axes.get a).state = .idle)
          ∧ t.count = s.count ∧ t.params = s.params ∧ t.headSet = s.headSet)

/-! ## The requests -/

/-- STATUS and SNAPSHOT are taken in every mode, answered OK with a body of 74 and of 91 bytes that captures
the controller at that instant, and change nothing (R13, R166, R173). The fields of both bodies stand at the
offsets of the body tables with the codes of the code table, an absent value as R185 says: modes, conditions,
both queues, position, count unit, units and axes in the one, and in the other for each channel the count, the
reading, which for ODO is the frame chainage, and the two markers, with the lines byte of both. Model's
choices it rests on: logs 1, 4, 24, 44. -/
def Obligations.StatusAndSnapshotReply : Prop :=
  ∀ (s : State) (dt : Nat) (tag : Byte), s.Listens →
    let status := statusBody s
    let snapshot := snapshotBody s
    let holds := fun (body : List Byte) (off : Nat) (field : List Byte) =>
      (body.drop off).take field.length = field
    let code := fun n : Nat => [BitVec.ofNat 8 n]
    let absent4 : List Byte := [0x80, 0, 0, 0]
    let mode := match s.cyc.mode with
      | .ready => 0 | .work => 1 | .paused => 2 | .halted => 3
    let phase := match s.cyc.phase with
      | .none => 0 | .seek => 1 | .waitDesign => 2 | .indexing => 3 | .arrived => 4 | .working => 5 | .clearing => 6
    let cause := match s.cyc.cause with
      | .none => 0 | .operator => 1 | .cabSilent => 2 | .strokeEnd => 3 | .holdLost => 4 | .channelLost => 5
      | .unitStuck => 6 | .flagStop => 7
    let detail := match s.cyc.detail with
      | none => 0xFF | some (.flag f) => f.number | some (.unit u) => unitNumber u
      | some (.channel c) => channelNumber c
    let stage := fun h : Head => match h.state, h.stage with
      | .raising, some .normal => 0 | .raising, some .stuck => 1 | .raising, some .blind => 2 | _, _ => 0xFF
    let unit := fun h : Head => match h.state with
      | .parking => 0 | .up => 1 | .tilting => 2 | .lowering => 3 | .inserted => 4 | .squeezing => 5
      | .opening => 6 | .raising => 7 | .faulted => 8
    let outcome := fun x : Axis => match x.state, x.outcome with
      | .hold, some .reached => 0 | .hold, some .timeout => 1 | .hold, some .hunt => 2 | .hold, some .cut => 3
      | _, _ => 0xFF
    let axis := fun x : Axis => match x.state with
      | .idle => 0 | .moving => 1 | .hold => 2
    let drive := match s.pos.drive with
      | .riding => 0 | .indexing => 1 | .holding => 2
    let demand := match s.pos.demand with
      | .go => 0 | .creep => 1 | .stop => 2
    let lines := fun b : Byte => b.getLsbD 0 = (s.count.detector.accepted != s.params.p39low)
      ∧ (∀ u, b.getLsbD (1 + unitNumber u) = (s.count.pressure.get u).accepted)
      ∧ b.getLsbD 5 = false ∧ b.getLsbD 6 = false ∧ b.getLsbD 7 = false
    exec (.status dt tag) s = .next { s.beginAt dt with link := s.answering dt .status tag .ok status }
      ∧ exec (.snapshot dt tag) s = .next { s.beginAt dt with link := s.answering dt .snapshot tag .ok snapshot }
      ∧ status.length = 74 ∧ snapshot.length = 91
      ∧ holds status 0 (code mode ++ code phase ++ code (if s.cyc.pausePending then 1 else 0) ++ code cause
          ++ code detail ++ code (if s.cyc.resetCause = .power then 0 else 1)
          ++ code ((s.cond.armed.map Flag.number).getD 0xFF))
      ∧ holds status 7 (beBytes 3 s.cond.flags.toNat ++ code (if s.cond.flags = 0 then 0 else 1)
          ++ beBytes 3 s.cond.notice.toNat ++ beBytes 3 s.cond.stop.toNat)
      ∧ holds status 17 (code s.seg.segments.length ++ code (192 - (poolOf s.seg.segments).length))
      ∧ (∀ e, queueEnd s.seg.segments = some e → holds status 19 (signedField 4 e))
      ∧ (s.seg.segments = [] → holds status 19 absent4)
      ∧ holds status 23 (code s.slp.records.length
          ++ code (s.slp.records.filter fun r => r.state.finished).length)
      ∧ (∀ x, s.slp.highWater = some x → holds status 25 (signedField 4 x))
      ∧ (s.slp.highWater = none → holds status 25 absent4)
      ∧ holds status 29 (beBytes 2 s.slp.nextSeq ++ signedField 4 (frameChainage s))
      ∧ (∀ x o, headChainage s = some x → satOffset s = some o →
          holds status 35 (signedField 4 x ++ signedField 4 o))
      ∧ (satOffset s = none → holds status 35 (absent4 ++ absent4))
      ∧ holds status 43 (signedField 4 (detectorChainage s) ++ code drive ++ code demand)
      ∧ (∃ (nulled faults : BitVec 16) (b : Byte),
          holds status 49 (beBytes 2 nulled.toNat ++ beBytes 2 faults.toNat ++ [b]) ∧ lines b
            ∧ snapshot.drop 90 = [b]
            ∧ (∀ c, nulled.getLsbD (channelNumber c) = (s.count.get c).nulled
                ∧ faults.getLsbD (channelNumber c) = (s.count.get c).fault)
            ∧ ∀ i, 10 ≤ i → nulled.getLsbD i = false ∧ faults.getLsbD i = false)
      ∧ holds status 54 (code s.headSet.toNat)
      ∧ (∀ u, holds status (55 + 3 * unitNumber u) (code (unit (s.heads.get u)) ++ code (stage (s.heads.get u))
          ++ code (if (s.heads.get u).tilted then 1 else 0)))
      ∧ holds status 67 (code (axis s.axes.liftL) ++ code (outcome s.axes.liftL)
          ++ code (axis s.axes.liftR) ++ code (outcome s.axes.liftR)
          ++ code (axis s.axes.line) ++ code (outcome s.axes.line) ++ code 0)
      ∧ ∀ c, holds snapshot (9 * channelNumber c) (signedField 4 (s.count.get c).count)
          ∧ (c = .odo → holds snapshot 4 (signedField 4 (frameChainage s)))
          ∧ (∀ x, c ≠ .odo → reading c s = some x → holds snapshot (9 * channelNumber c + 4) (signedField 4 x))
          ∧ (c ≠ .odo → reading c s = none → holds snapshot (9 * channelNumber c + 4) absent4)
          ∧ holds snapshot (9 * channelNumber c + 8)
              (code ((if (s.count.get c).nulled then 1 else 0) + (if (s.count.get c).fault then 2 else 0)))

/-- NULL_CHANNELS (R11, R12, R131): refused with WRONG_MODE outside READY, and with OUT_OF_RANGE for an empty
list, a channel that cannot be nulled, one named twice or a reference out of range, with nothing changed.
Accepted, each named channel takes its present count as the count at null, the reference, the nulled marker
and a clear fault marker, so that its reading is the reference; every other channel keeps all its state, and a
FAULTED unit whose depth channel is named returns to UP. That the unit keeps its abort marker is the model's
choice (log 43). Model's choices it rests on: logs 1, 4, 43. -/
def Obligations.ChannelsNulled : Prop :=
  ∀ (s : State) (dt : Nat) (tag : Byte) (entries : List (Nat × Int)), s.Listens →
    let r := Request.nullChannels entries
    let inRange := fun (e : Nat × Int) => ∃ c, channelOfNumber e.1 = some c ∧ c ≠ .odo
      ∧ ((c = .sat ∨ ∃ u, c = .dep u) → 0 ≤ e.2 ∧ e.2 ≤ 10000)
      ∧ ((c = .lat ∨ c = .lvlL ∨ c = .lvlR ∨ c = .xl) → -50000 ≤ e.2 ∧ e.2 ≤ 50000)
    let listOk := entries ≠ [] ∧ (entries.map Prod.fst).Nodup ∧ ∀ e ∈ entries, inRange e
    (s.cyc.mode ≠ .ready →
        exec (.nullChannels dt tag entries) s
          = .next { s.beginAt dt with link := s.answering dt r tag .wrongMode [] })
      ∧ (s.cyc.mode = .ready → ¬ listOk →
        exec (.nullChannels dt tag entries) s
          = .next { s.beginAt dt with link := s.answering dt r tag .outOfRange [] })
      ∧ (s.cyc.mode = .ready → listOk →
        ∃ count heads, exec (.nullChannels dt tag entries) s
            = .next (State.driven { s.beginAt dt with
                count := count
                heads := heads
                link := s.answering dt r tag .ok [] })
          ∧ (∀ l, count.filter l = s.count.filter l)
          ∧ (∀ e c, e ∈ entries → channelOfNumber e.1 = some c →
              count.get c = { s.count.get c with
                countAtNull := (s.count.get c).count, reference := e.2, nulled := true, fault := false }
              ∧ ∀ t : State, t.count = count → reading c t = some e.2)
          ∧ (∀ c, (∀ e ∈ entries, channelOfNumber e.1 ≠ some c) → count.get c = s.count.get c)
          ∧ (∀ u, heads.get u =
              if (s.heads.get u).state = .faulted ∧ ∃ e ∈ entries, channelOfNumber e.1 = some (.dep u)
              then { s.heads.get u with state := .up } else s.heads.get u))

/-- SET_CHAINAGE (R19): refused with WRONG_MODE outside READY, with OUT_OF_RANGE outside the chainage range
and with IN_USE while either queue holds anything, with nothing changed. Accepted, the datum is the value and
the count at datum the ODO count, so that frame chainage is exactly the value and head and detector chainage
follow; the high-water chainage is cleared, and the direction, the satellite drive and the count unit are not
changed. The look-ahead condition, which an empty queue meets, is judged at the new detector chainage, so that
SEGMENTS_WANTED carries what R53 says where it had not held (R52, R53). Model's choices it rests on: logs 1,
4. -/
def Obligations.ChainageSet : Prop :=
  ∀ (s : State) (dt : Nat) (tag : Byte) (x : Int), s.Listens →
    let r := Request.setChainage x
    let refused := fun status : Status => exec (.setChainage dt tag x) s
      = .next { s.beginAt dt with link := s.answering dt r tag status [] }
    (s.cyc.mode ≠ .ready → refused .wrongMode)
      ∧ (s.cyc.mode = .ready → (x < -2000000000 ∨ 2000000000 < x) → refused .outOfRange)
      ∧ (s.cyc.mode = .ready → -2000000000 ≤ x → x ≤ 2000000000 →
        (s.slp.records ≠ [] ∨ s.seg.segments ≠ []) → refused .inUse)
      ∧ (s.cyc.mode = .ready → -2000000000 ≤ x → x ≤ 2000000000 → s.slp.records = [] → s.seg.segments = [] →
        ∃ t, exec (.setChainage dt tag x) s = .next t
          ∧ t = { s.beginAt dt with
              pos := { s.pos with datum := x * 1000, countAtDatum := s.count.odo.count }
              slp := { s.slp with highWater := none }
              seg := { s.seg with lookAhead := true }
              link := { s.answering dt r tag .ok [] with
                segSlot := s.wantedSlot []
                  (max (-2000000000) (min 2000000000 (x + s.params.p08)) + max s.params.p01 s.params.p03
                    + s.params.p36) false } }
          ∧ frameChainage t = x
          ∧ headChainage t = (satOffset s).map (fun o => max (-2000000000) (min 2000000000 (x + o)))
          ∧ detectorChainage t = max (-2000000000) (min 2000000000 (x + s.params.p08)))

/-- SEGMENT_APPEND (R42 to R44). A body outside the ranges of step 1, which are written out, is refused with
OUT_OF_RANGE, and one within them with SEG_GAP, SEG_BEHIND, SEG_FULL or POOL_FULL, in this order, with nothing
changed. A body that passes every step is added at the end of the queue, its bearers WAITING at their absolute
chainages, the reply carries its id, start and end and the counts, and the look-ahead is judged for the longer
queue, with SEGMENTS_WANTED filled where it holds (R45, R53). An engine that is IDLE begins at that instant
the design pass of the oldest QUEUED record where the segments now cover its chord span, with the arms and the
segments of that instant, and stays IDLE where they do not reach its front point or no record is QUEUED (R82,
R83, R86). Stated for the addition in READY and HALTED, where no other block acts on it. Model's choices it
rests on: logs 1, 4, 21, 23, 41. -/
def Obligations.SegmentAppended : Prop :=
  ∀ (s : State) (dt : Nat) (tag : Byte) (b : SegmentBody), s.Listens →
    let r := Request.segmentAppend b
    let segs := s.seg.segments
    let refused := fun status : Status => exec (.segmentAppend dt tag b) s
      = .next { s.beginAt dt with link := s.answering dt r tag status [] }
    let gap := segs ≠ [] ∧ (∃ x, b.start = some x ∧ queueEnd segs ≠ some x) ∨ segs = [] ∧ b.start = none
    let behind := segs = [] ∧ ∃ x, b.start = some x ∧ x + b.length ≤ rearBound s
    let count := ((b.bearers.getD []).length : Nat)
    let within := fun (m x : Int) => -m ≤ x ∧ x ≤ m
    let reach := detectorChainage s + max s.params.p01 s.params.p03 + s.params.p36
    (segmentInRange b segs = true ↔
        (1000 ≤ b.length ∧ b.length ≤ 500000)
          ∧ (∀ x, b.start = some x → within 2000000000 x ∧ within 2000000000 (x + b.length))
          ∧ (b.start = none → ∀ e, queueEnd segs = some e → within 2000000000 (e + b.length))
          ∧ within 10000 b.kh0 ∧ within 10000 b.kh1 ∧ within 1000 b.kv0 ∧ within 1000 b.kv1
          ∧ within 2000 b.cant0 ∧ within 2000 b.cant1 ∧ (b.grade = 0 ∨ b.grade = 1)
          ∧ (∀ v, b.survey = some v →
            within 5000 v.lat0 ∧ within 5000 v.lat1 ∧ within 5000 v.vert0 ∧ within 5000 v.vert1)
          ∧ (∀ l, b.bearers = some l → l.length ≤ 24 ∧ (l.map (·.offset)).Pairwise (· < ·)
            ∧ ∀ e ∈ l, (e.offset : Int) < b.length ∧ e.tamp.toNat < 16 ∧ e.tilt.toNat < 16
              ∧ 1 ≤ e.insertions ∧ e.insertions ≤ 4 ∧ within 50 e.depthOffset))
      ∧ (segmentInRange b segs = false → refused .outOfRange)
      ∧ (segmentInRange b segs = true → gap → refused .segGap)
      ∧ (segmentInRange b segs = true → ¬ gap → behind → refused .segBehind)
      ∧ (segmentInRange b segs = true → ¬ gap → ¬ behind → 32 ≤ segs.length → refused .segFull)
      ∧ (segmentInRange b segs = true → ¬ gap → ¬ behind → segs.length < 32 →
        192 < (poolOf segs).length + count → (poolOf segs).length ≤ 192 → refused .poolFull)
      ∧ (segmentInRange b segs = true → ¬ gap → ¬ behind → segs.length < 32 →
        (poolOf segs).length + count ≤ 192 →
        s.cyc.mode = .ready ∨ s.cyc.mode = .halted →
        ∃ (g : Segment) (x : Int),
          (b.start = some x ∨ b.start = none ∧ queueEnd segs = some x)
          ∧ g.id = b.id ∧ g.start = x ∧ g.length = b.length ∧ g.kh0 = b.kh0 ∧ g.kh1 = b.kh1
          ∧ g.kv0 = b.kv0 ∧ g.kv1 = b.kv1 ∧ g.cant0 = b.cant0 ∧ g.cant1 = b.cant1
          ∧ (g.grade = .left ↔ b.grade = 0) ∧ g.survey = b.survey ∧ (g.planned = true ↔ b.bearers ≠ none)
          ∧ g.bearers = (b.bearers.getD []).map (fun e =>
              ⟨e.offset, x + e.offset, e.tamp.truncate 4, e.tilt.truncate 4, e.insertions, e.depthOffset, false⟩)
          ∧ let leaves := fun eng : Engine => exec (.segmentAppend dt tag b) s
              = .next { s.beginAt dt with
                  seg := { s.seg with segments := segs ++ [g], lookAhead := wanting (segs ++ [g]) reach }
                  eng := eng
                  link := { s.answering dt r tag .ok
                      (beBytes 2 b.id ++ signedField 4 x ++ signedField 4 (x + b.length)
                        ++ [BitVec.ofNat 8 (segs.length + 1)]
                        ++ [BitVec.ofNat 8 (192 - ((poolOf segs).length + count))]) with
                    segSlot := s.wantedSlot (segs ++ [g]) reach true } }
            ((∃ p, s.eng.activity = .designing p) → leaves s.eng)
              ∧ (s.eng = ⟨.idle, none⟩ → (∀ q ∈ s.slp.records, q.state ≠ .queued) → leaves s.eng)
              ∧ (s.eng = ⟨.idle, none⟩ → ∀ before q after, s.slp.records = before ++ q :: after →
                q.state = .queued → (∀ z ∈ before, z.state ≠ .queued) →
                ∀ first, (segs ++ [g]).head? = some first →
                first.start ≤ q.chainage - max s.params.p02 s.params.p04 →
                (q.chainage + max s.params.p01 s.params.p03 ≤ x + b.length →
                    leaves ⟨.designing (designBegun s.params (segs ++ [g]) q), none⟩)
                  ∧ (x + b.length < q.chainage + max s.params.p01 s.params.p03 → leaves s.eng)))

/-- SEGMENT_TRUNCATE (R46 to R49): refused with OUT_OF_RANGE where X is the start of no held segment, and with
IN_USE where X is at or below detector chainage plus P35 or a bearer at or after X is CONSUMED, with nothing
changed. Accepted, the segments from X on leave with their bearers, every DESIGNED record whose span end lies
above X returns to QUEUED without its design part, the reply carries the new end and the three counts, and the
look-ahead is judged for the shorter queue (R52, R53). Outside WORK a design pass whose span end is at or
below X goes on, and one beyond it is abandoned and its record waits (R49). In WORK, a current record not yet
reached that reverts sends the cycle controller through SEEK, with the satellite released and the active set
fixed afresh, into WAIT_DESIGN (R48, R149); a queue emptied by it is starved, which is the model's choice
between R47 and R55 (log 45). Stated with the rear bound below the first segment's end, so that no segment
retires, and for the abandonment and the reversion with the queue that stays ending at or below X, as R40 has
it, and no span beginning before its start, so that no record is skipped. Model's choices it rests on: logs 1,
4, 22, 45. -/
def Obligations.WindowTruncated : Prop :=
  ∀ (s : State) (dt : Nat) (tag : Byte) (x : Int), s.Listens →
    let r := Request.segmentTruncate x
    let refused := fun status : Status => exec (.segmentTruncate dt tag x) s
      = .next { s.beginAt dt with link := s.answering dt r tag status [] }
    let reverts := fun q : Sleeper => q.state = .designed ∧ x < q.chainage + max s.params.p01 s.params.p03
    let reach := detectorChainage s + max s.params.p01 s.params.p03 + s.params.p36
    ((∀ g ∈ s.seg.segments, g.start ≠ x) → refused .outOfRange)
      ∧ (∀ before g after, s.seg.segments = before ++ g :: after → (∀ h ∈ before, h.start ≠ x) → g.start = x →
        (x ≤ detectorChainage s + s.params.p35 ∨ ∃ b ∈ poolOf (g :: after), b.consumed = true) →
        refused .inUse)
      ∧ (∀ before g after, s.seg.segments = before ++ g :: after → (∀ h ∈ before, h.start ≠ x) →
        g.start = x → detectorChainage s + s.params.p35 < x → (∀ b ∈ poolOf (g :: after), b.consumed = false) →
        (∀ h, before.head? = some h → detectorChainage s - max s.params.p02 s.params.p04 < h.start + h.length) →
        ∃ records : List Sleeper,
          records.length = s.slp.records.length
          ∧ (∀ (i : Nat) (q q' : Sleeper), s.slp.records[i]? = some q → records[i]? = some q' →
              (reverts q → q' = { q with state := .queued, design := none }) ∧ (¬ reverts q → q' = q))
          ∧ let replied := s.answering dt r tag .ok
              (optField 4 (queueEnd before) ++ [BitVec.ofNat 8 (after.length + 1)]
                ++ [BitVec.ofNat 8 (poolOf (g :: after)).length]
                ++ [BitVec.ofNat 8 (s.slp.records.filter fun q => decide (reverts q)).length])
            let leaves := fun eng : Engine => exec (.segmentTruncate dt tag x) s
              = .next { s.beginAt dt with
                  seg := { s.seg with segments := before, lookAhead := wanting before reach }
                  slp := { s.slp with records := records }
                  eng := eng
                  link := { replied with segSlot := s.wantedSlot before reach false } }
            let ahead := (∀ e, queueEnd before = some e → e ≤ x)
              ∧ ∀ h, before.head? = some h → ∀ q ∈ s.slp.records, q.state = .queued ∨ q.state = .designed →
                h.start ≤ q.chainage - max s.params.p02 s.params.p04
            (∀ p, s.cyc.mode ≠ .work → s.cyc.current = none → s.eng.activity = .designing p →
                p.chainage + max s.params.p01 s.params.p03 ≤ x → leaves s.eng)
              ∧ (∀ p r0 early late, s.cyc.mode ≠ .work → s.cyc.current = none →
                s.eng = ⟨.designing p, none⟩ → x < p.chainage + max s.params.p01 s.params.p03 → ahead →
                s.slp.records = early ++ r0 :: late → r0.state = .queued → r0.seq = p.seq →
                r0.chainage = p.chainage → (∀ q ∈ early, q.state ≠ .queued) → leaves ⟨.idle, none⟩)
              ∧ (∀ q early late active, s.cyc.mode = .work → s.cyc.phase = .seek ∨ s.cyc.phase = .indexing →
                s.cyc.current = some q.seq → s.cyc.pausePending = false → s.cond.armed = none → s.cond.stop = 0 →
                s.slp.records = early ++ q :: late → (∀ z ∈ early, z.state.finished = true) →
                reverts q → ahead →
                s.eng = ⟨.idle, none⟩ ∨ (∃ p, s.eng = ⟨.designing p, none⟩
                  ∧ x < p.chainage + max s.params.p01 s.params.p03) →
                (∀ u, unitIn u active = true ↔ (q.plan = none ∨ ∃ p, q.plan = some p ∧ unitIn u p.tamp = true)
                  ∧ unitIn u s.headSet = true ∧ (s.heads.get u).state ≠ .faulted) → active ≠ 0 →
                ∃ t, exec (.segmentTruncate dt tag x) s = .next t
                  ∧ t.seg.segments = before ∧ t.slp = { s.slp with records := records }
                  ∧ t.eng = ⟨.idle, none⟩
                  ∧ t.cyc = { s.cyc with phase := .waitDesign, active := some active }
                  ∧ t.pos = { s.pos with
                      drive := .riding, target := none, output := .stop, holdLost := false, strokeEnd := false
                      demand := .stop, strokeTerm := .go }
                  ∧ t.heads = s.heads ∧ t.axes = s.axes ∧ t.count = s.count ∧ t.params = s.params
                  ∧ (before = [] → s.seg.starved = false → flagIn .segStarved t.cond.flags = true)))

/-- HEAD_SET is taken in every mode: it replaces the head set and replies with the set in force; a byte that
names anything but the four units is refused with OUT_OF_RANGE and nothing changes (R136). SET_ENABLES
replaces both sets in every mode and replies with them; a set that names anything but the twenty flags is
refused with OUT_OF_RANGE and neither set changes; flags already set are not acted on; both sets are empty
after power-on and restart, and JOB_CLEAR leaves them (R163). CLEAR_FLAGS clears in every mode each flag it
names and no other, and replies with the whole flag set and the ANY summary after the clearing; it changes no
notice slot, no armed stop and no record's flag set; a set that names anything but the twenty flags is refused
with OUT_OF_RANGE and no flag changes (R164). Model's choices it rests on: logs 1, 4, 44. -/
def Obligations.SetsReplaced : Prop :=
  (∀ (s : State) (dt : Nat) (tag set : Byte), s.Listens →
    (set.toNat < 16 →
        exec (.headSet dt tag set) s
          = .next { s.beginAt dt with
              headSet := set.truncate 4
              link := s.answering dt (.headSet set) tag .ok [set] })
      ∧ (16 ≤ set.toNat →
        exec (.headSet dt tag set) s
          = .next { s.beginAt dt with link := s.answering dt (.headSet set) tag .outOfRange [] }))
    ∧ ((∀ (s : State) (dt : Nat) (tag : Byte) (notice stop : BitVec 24), s.Listens →
      (notice.toNat < 1048576 → stop.toNat < 1048576 →
          exec (.setEnables dt tag notice stop) s
            = .next { s.beginAt dt with
                cond := { s.cond with notice := notice.truncate 20, stop := stop.truncate 20 }
                link := s.answering dt (.setEnables notice stop) tag .ok
                  (beBytes 3 notice.toNat ++ beBytes 3 stop.toNat) })
        ∧ (1048576 ≤ notice.toNat ∨ 1048576 ≤ stop.toNat →
          exec (.setEnables dt tag notice stop) s
            = .next { s.beginAt dt with
                link := s.answering dt (.setEnables notice stop) tag .outOfRange [] }))
      ∧ (∀ (s : State) (cause : ResetCause), (resetWith cause s).cond.notice = 0 ∧ (resetWith cause s).cond.stop = 0)
      ∧ ∀ (s t : State) (dt : Nat) (tag : Byte), s.Listens → exec (.jobClear dt tag) s = .next t →
          t.cond.notice = s.cond.notice ∧ t.cond.stop = s.cond.stop)
    ∧ ∀ (s : State) (dt : Nat) (tag : Byte) (set : BitVec 24), s.Listens →
      (set.toNat < 1048576 →
          ∃ flags : FlagSet, (∀ f, flagIn f flags = (flagIn f s.cond.flags && !set.getLsbD (f.number - 1)))
            ∧ exec (.clearFlags dt tag set) s
              = .next { s.beginAt dt with
                  cond := { s.cond with flags := flags }
                  link := s.answering dt (.clearFlags set) tag .ok
                    (beBytes 3 flags.toNat ++ [if flags = 0 then 0 else 1]) })
        ∧ (1048576 ≤ set.toNat →
          exec (.clearFlags dt tag set) s
            = .next { s.beginAt dt with link := s.answering dt (.clearFlags set) tag .outOfRange [] })

/-! ## Modes and the work cycle -/

/-- START (R141, R146, R147): refused with WRONG_MODE in WORK and HALTED, with NOT_NULLED where a channel
lacks its null, and with BUSY while a unit is PARKING. Accepted, the mode is WORK, the MODE slot is filled,
and SEEK selects the first unfinished record: with none it stays; a QUEUED one with a head to use is waited
for in WAIT_DESIGN with demand STOP; a DESIGNED one too far ahead is waited for in SEEK, and one in reach is
indexed to. A starved queue sets SEG_STARVED (R55). Model's choices it rests on: logs 1, 4, 13. -/
def Obligations.StartEntersWork : Prop :=
  ∀ (s : State) (dt : Nat) (tag : Byte), s.Listens →
    let refused := fun status : Status => exec (.start dt tag) s
      = .next { s.beginAt dt with link := s.answering dt .start tag status [] }
    let nulled := (∀ c, c = .sat ∨ c = .lat ∨ c = .lvlL ∨ c = .lvlR ∨ c = .xl → (s.count.get c).nulled = true)
      ∧ ∀ u, (s.heads.get u).state = .faulted ∨ (s.count.get (.dep u)).nulled = true
    let startable := s.cyc.mode = .ready ∨ s.cyc.mode = .paused
    let selects := fun (r : Sleeper) (active : UnitSet) =>
      ∀ u, unitIn u active = true ↔ (r.plan = none ∨ ∃ p, r.plan = some p ∧ unitIn u p.tamp = true)
        ∧ unitIn u s.headSet = true ∧ (s.heads.get u).state ≠ .faulted
    let working := fun (phase : Phase) (current : Option Nat) (active : Option UnitSet) (demand : Demand)
        (drive : Drive) (target : Option Int) =>
      { s.beginAt dt with
        cyc := { s.cyc with
          mode := .work, phase := phase, pausePending := false, current := current, active := active
          stopwatch := none }
        seg := { s.seg with starved := false }
        pos := { s.pos with
          demand := demand, strokeTerm := .go, drive := drive, target := target }
        link := { s.answering dt .start tag .ok [] with
          modeSlot := some ⟨⟨.work, s.cyc.cause, s.cyc.detail, s.cyc.resetCause⟩,
            (s.link.modeSlot.map (·.age)).getD (s.eventNo + 1)⟩ } }
    let base := if 15 ≤ s.slp.records.length then Demand.stop else Demand.go
    (s.cyc.mode = .work ∨ s.cyc.mode = .halted → refused .wrongMode)
      ∧ (startable → ¬ nulled → refused .notNulled)
      ∧ (startable → nulled → (∃ u, (s.heads.get u).state = .parking) → refused .busy)
      ∧ (startable → nulled → (∀ u, (s.heads.get u).state ≠ .parking) → s.seg.starved = false →
        (∀ e, queueEnd s.seg.segments = some e → e < detectorChainage s) →
        ∃ t, exec (.start dt tag) s = .next t ∧ flagIn .segStarved t.cond.flags = true)
      ∧ (startable → nulled → (∀ u, (s.heads.get u).state ≠ .parking) →
        (∃ e, queueEnd s.seg.segments = some e ∧ detectorChainage s ≤ e) → s.cond.armed = none →
        s.pos.drive = .riding →
        ((∀ r ∈ s.slp.records, r.state.finished = true) →
            exec (.start dt tag) s = .next (working .seek none none base .riding s.pos.target))
          ∧ (∀ (before : List Sleeper) (r : Sleeper) (after : List Sleeper),
            s.slp.records = before ++ r :: after → (∀ q ∈ before, q.state.finished = true) →
            ∀ active, selects r active → active ≠ 0 →
            (r.state = .queued →
                exec (.start dt tag) s
                  = .next (working .waitDesign (some r.seq) (some active) .stop .riding s.pos.target))
              ∧ (r.state = .designed → 0 ≤ r.chainage - frameChainage s →
                s.params.p09 < r.chainage - frameChainage s →
                exec (.start dt tag) s
                  = .next (working .seek (some r.seq) (some active) base .riding s.pos.target))
              ∧ (r.state = .designed → 0 ≤ r.chainage - frameChainage s →
                r.chainage - frameChainage s ≤ s.params.p09 → ∀ h, headChainage s = some h →
                s.params.p12 < ((h - r.chainage).natAbs : Int) →
                exec (.start dt tag) s = .next (State.driven
                  (working .indexing (some r.seq) (some active) base .indexing (some r.chainage))))))

/-- The three skips (R84, R148). At START a first unfinished record, here the only one, that no unit can work
is SKIPPED with NO_HEADS, and a DESIGNED one behind the frame with OUT_OF_REACH; the frame that passes the
target of an index skips it in the same way (R27), reach being judged before arrival where one count gives
both, as log 15 reads R26 and R27. A QUEUED first unfinished record whose span begins before the queue start
is SKIPPED with NO_COVER when a segment comes, and a cycle controller that waits for it goes back to SEEK;
behind another unfinished record it waits (R83). Every skip sets SKIPPED_SLEEPER and writes a result part with
the active set, nothing measured and cycle time 0; a design pass in flight for the record is abandoned (R89).
Model's choices it rests on: logs 1, 2, 4, 13, 15, 34, 42. -/
def Obligations.SkipsTaken : Prop :=
  let unmoved := AxisReport.mk none none none none
  let idle := UnitReport.mk false 0 0 false false none
  let skipped := fun (r : Sleeper) (active : UnitSet) (reason : SkipReason) =>
    { r with
      state := .skipped
      result := some (ResultPart.mk active
        ⟨unmoved, unmoved, unmoved⟩ ⟨idle, idle, idle, idle⟩
        0 (some reason) r.flags) }
  let marked := fun t : State => flagIn .skippedSleeper t.cond.flags = true
  (∀ (s : State) (dt : Nat) (tag : Byte) (before : List Sleeper) (r : Sleeper) (after : List Sleeper)
      (active : UnitSet) (pass : DesignPass), s.Listens →
    s.cyc.mode = .ready ∨ s.cyc.mode = .paused →
    (∀ c, c = .sat ∨ c = .lat ∨ c = .lvlL ∨ c = .lvlR ∨ c = .xl → (s.count.get c).nulled = true) →
    (∀ u, (s.heads.get u).state = .faulted ∨ (s.count.get (.dep u)).nulled = true) →
    (∀ u, (s.heads.get u).state ≠ .parking) → s.cond.armed = none → s.cond.stop = 0 →
    s.eng = ⟨.designing pass, none⟩ →
    s.slp.records = before ++ r :: after → (∀ q ∈ before ++ after, q.state.finished = true) →
    r.state = .queued ∨ r.state = .designed →
    (∀ u, unitIn u active = true ↔ (r.plan = none ∨ ∃ p, r.plan = some p ∧ unitIn u p.tamp = true)
      ∧ unitIn u s.headSet = true ∧ (s.heads.get u).state ≠ .faulted) →
    let skips := fun reason : SkipReason =>
      ∃ t, exec (.start dt tag) s = .next t ∧ marked t
        ∧ t.slp = { s.slp with records := before ++ skipped r active reason :: after }
        ∧ t.cyc = { s.cyc with
            mode := .work, phase := .seek, pausePending := false, current := none, active := none
            stopwatch := none }
        ∧ (pass.seq ≠ r.seq → t.eng = s.eng)
        ∧ (pass.seq = r.seq → t.eng.activity = .idle)
    (active = 0 → skips .noHeads)
      ∧ (active ≠ 0 → r.state = .designed → r.chainage < frameChainage s → skips .outOfReach))
    ∧ (∀ (s : State) (t0 : Nat) (n tgt o : Int) (before : List Sleeper) (r : Sleeper) (after : List Sleeper)
        (pass : DesignPass),
      s.powered = true → s.count.odo.a.since = some t0 → s.count.odo.paired = false →
      s.cyc.mode = .work → s.cyc.phase = .indexing → s.pos.drive = .indexing → s.pos.target = some tgt →
      satOffset s = some o → s.cond.armed = none → s.cond.stop = 0 → s.slp.detection = none →
      (∀ b ∈ poolOf s.seg.segments, b.consumed = true) → s.eng = ⟨.designing pass, none⟩ → pass.seq ≠ r.seq →
      s.slp.records = before ++ r :: after → (∀ q ∈ before ++ after, q.state.finished = true) →
      r.state = .designed → s.cyc.current = some r.seq → s.cyc.pausePending = false →
      let ch := s.count.odo
      ((ch.a.present != ch.b.accepted) != channelIn .odo s.params.p39polarity) = true → n = ch.count + 1 →
      n ≤ 2147483647 →
      tgt < frameChainage
        { s with count := { s.count with odo := { ch with a := ⟨ch.a.present, ch.a.present, none⟩, count := n } } } →
      ∃ t, exec (.filterWindowExpiry (.channelA .odo)) s = .next t ∧ marked t
        ∧ t.slp = { s.slp with
            records := before ++ skipped r (s.cyc.active.getD 0) .outOfReach :: after }
        ∧ t.cyc = { s.cyc with phase := .seek, current := none, active := none }
        ∧ t.pos.drive = .riding ∧ t.pos.target = none ∧ t.pos.output = .stop)
    ∧ ∀ (s : State) (dt : Nat) (tag : Byte) (body : SegmentBody) (x : Int) (before : List Sleeper) (r : Sleeper)
        (after : List Sleeper), s.Listens → s.seg.segments = [] → body.start = some x →
      appendRefusal body s = none → s.eng = ⟨.idle, none⟩ →
      s.slp.records = before ++ r :: after → r.state = .queued → (∀ q ∈ before, q.state ≠ .queued) →
      r.chainage - max s.params.p02 s.params.p04 < x →
      ∃ t, exec (.segmentAppend dt tag body) s = .next t
        ∧ (s.cyc.mode = .ready ∨ s.cyc.mode = .halted → (∀ q ∈ before, q.state.finished = true) →
          marked t ∧ skipped r 0 .noCover ∈ t.slp.records ∧ t.cyc = s.cyc)
        ∧ (s.cyc.mode = .ready ∨ s.cyc.mode = .halted → (∃ q ∈ before, q.state.finished = false) →
          t.slp = s.slp)
        ∧ (∀ active, s.cyc.mode = .work → s.cyc.phase = .waitDesign → s.cyc.current = some r.seq →
          s.cyc.active = some active → s.cyc.pausePending = false → body.bearers = none →
          s.slp.detection = none → s.cond.armed = none → s.cond.stop = 0 →
          (∀ q ∈ before ++ after, q.state.finished = true) →
          marked t ∧ t.slp = { s.slp with records := before ++ skipped r active .noCover :: after }
            ∧ t.cyc = { s.cyc with phase := .seek, current := none, active := none })

/-- The completion of the design pass that a cycle controller in WAIT_DESIGN waits for (R149, R147, R87): with
the active set kept, a record too far ahead is waited for in SEEK, one in reach is indexed to, one inside the
window is arrived at, one behind the frame is SKIPPED with OUT_OF_REACH, and without the SAT null the index
order is answered CHANNEL_LOST (R25, R150). The travel demand is no longer held to STOP by the design term
(R35). Model's choices it rests on: logs 1, 16, 29, 42. -/
def Obligations.WaitDesignLeft : Prop :=
  ∀ (s : State) (dt : Nat) (p : DesignPass) (r : Sleeper),
    s.powered = true → s.eng.activity = .designing p → s.cyc.mode = .work → s.cyc.phase = .waitDesign →
    s.cyc.current = some p.seq → unfinishedRecord p.seq s = some r → r.state = .queued →
    s.cond.armed = none → s.cond.stop = 0 → s.pos.drive = .riding →
    let ahead := r.chainage - frameChainage s
    let near := 0 ≤ ahead ∧ ahead ≤ s.params.p09
    let designed := { r with state := .designed, design := some (designPart p) }
    ∃ t, exec (.designPassComplete dt) s = .next t ∧ t.clock = s.clock + dt
      ∧ (0 ≤ ahead → s.params.p09 < ahead →
        designed ∈ t.slp.records ∧ t.cyc = { s.cyc with phase := .seek } ∧ t.pos.drive = .riding
          ∧ t.pos.demand = (if 15 ≤ s.slp.records.length then .stop else .go))
      ∧ (near → ∀ h, headChainage s = some h → s.params.p12 < ((h - r.chainage).natAbs : Int) →
        designed ∈ t.slp.records ∧ t.cyc = { s.cyc with phase := .indexing } ∧ t.pos.drive = .indexing
          ∧ t.pos.target = some r.chainage ∧ t.pos.output = driveCommand t)
      ∧ (near → ∀ h o a b c d, headChainage s = some h → satOffset s = some o → 0 < o →
        reading .lat s = some a → reading .lvlL s = some b → reading .lvlR s = some c → reading .xl s = some d →
        ((h - r.chainage).natAbs : Int) ≤ s.params.p12 →
        { designed with state := .inWork } ∈ t.slp.records
          ∧ t.cyc = { s.cyc with phase := .arrived, stopwatch := some (s.clock + dt) }
          ∧ t.pos.drive = .holding ∧ t.pos.target = some r.chainage
          ∧ t.eng = ⟨.targeting (targetBegun s.params r.seq ⟨a, b, c, d⟩ (designPart p)), none⟩)
      ∧ (near → satOffset s = none →
        t.cyc = haltedCycle .channelLost (some (.channel .sat)) s.cyc.resetCause ∧ t.pos.drive = .riding)
      ∧ (ahead < 0 → flagIn .skippedSleeper t.cond.flags = true
        ∧ ∃ result, { designed with state := .skipped, result := some result } ∈ t.slp.records
          ∧ result.active = s.cyc.active.getD 0 ∧ result.skip = some .outOfReach ∧ result.cycleTime = 0)

/-- Arrival (R151, R25, R106, R121), reached from START with the satellite already at the first unfinished
record: the record is IN_WORK, the stopwatch starts, the target pass begins with the four readings, the design
part, the arms, the limits and the two front corrections (R86, R100, R101), the drive holds at the sleeper,
the axes are prepared, and each unit of the active set that is UP takes its plan and tilts or lowers, while
any other unit's report is cleared. Model's choices it rests on: logs 1, 4, 13. -/
def Obligations.ArrivalTaken : Prop :=
  ∀ (s : State) (dt : Nat) (tag : Byte) (before : List Sleeper) (r : Sleeper) (after : List Sleeper)
    (a b c d o h : Int), s.Listens →
    s.cyc.mode = .ready ∨ s.cyc.mode = .paused →
    reading .lat s = some a → reading .lvlL s = some b → reading .lvlR s = some c → reading .xl s = some d →
    satOffset s = some o → 0 < o → headChainage s = some h →
    (∀ u, (s.heads.get u).state = .faulted ∨ (s.count.get (.dep u)).nulled = true) →
    (∀ u, (s.heads.get u).state ≠ .parking) → (∀ x, (s.axes.get x).state = .idle) →
    (∃ e, queueEnd s.seg.segments = some e ∧ detectorChainage s ≤ e) → s.cond.armed = none →
    s.pos.drive = .riding → s.eng.activity = .idle →
    s.slp.records = before ++ r :: after → (∀ q ∈ before, q.state.finished = true) →
    r.state = .designed → r.design.isSome = true →
    0 ≤ r.chainage - frameChainage s → r.chainage - frameChainage s ≤ s.params.p09 →
    ((h - r.chainage).natAbs : Int) ≤ s.params.p12 →
    let usable := fun u => (r.plan = none ∨ ∃ p, r.plan = some p ∧ unitIn u p.tamp = true)
      ∧ unitIn u s.headSet = true ∧ (s.heads.get u).state ≠ .faulted
    let plan := fun u : UnitId => match r.plan with
      | some p => HeadPlan.mk (unitIn u p.tilt) (s.params.p24 + p.depthOffset) p.insertions
      | none => HeadPlan.mk false s.params.p24 1
    (∃ u, usable u) →
    ∃ t, exec (.start dt tag) s = .next t
      ∧ t.cyc.mode = .work ∧ t.cyc.phase = .arrived ∧ t.cyc.current = some r.seq
      ∧ t.cyc.stopwatch = some (s.clock + dt)
      ∧ (∃ active, t.cyc.active = some active ∧ ∀ u, unitIn u active = true ↔ usable u)
      ∧ { r with state := .inWork } ∈ t.slp.records ∧ t.slp.records.length = s.slp.records.length
      ∧ (∀ part, r.design = some part →
          t.eng = ⟨.targeting (targetBegun s.params r.seq ⟨a, b, c, d⟩ part), none⟩)
      ∧ t.pos.drive = .holding ∧ t.pos.target = some r.chainage ∧ t.pos.output = driveCommand t
      ∧ (∀ x, (t.axes.get x).state = .idle ∧ (t.axes.get x).started = false ∧ (t.axes.get x).outcome = none
          ∧ (t.axes.get x).reversals = 0)
      ∧ (∀ u, ¬ usable u → t.heads.get u =
          { s.heads.get u with report := .cleared, pendingLower := false, plan := none })
      ∧ (∀ u depth, usable u → (s.heads.get u).state = .up → depthOf u s = some depth →
          (t.heads.get u).plan = some (plan u) ∧ (t.heads.get u).report.participated = true
            ∧ (t.heads.get u).report.deepest = some depth
            ∧ ((plan u).tilted ≠ (s.heads.get u).tilted →
                (t.heads.get u).state = .tilting ∧ (t.heads.get u).tilted = (plan u).tilted
                  ∧ (t.heads.get u).timer = some ⟨s.params.p32, s.clock + dt⟩)
            ∧ ((plan u).tilted = (s.heads.get u).tilted → depth < (plan u).depth →
                (t.heads.get u).state = .lowering
                  ∧ (t.heads.get u).timer = some ⟨s.params.p27, s.clock + dt⟩)
            ∧ ((plan u).tilted = (s.heads.get u).tilted → (plan u).depth ≤ depth →
                (t.heads.get u).state = .inserted ∧ (t.heads.get u).timer = none))

/-- The end of CLEARING (R153, R142, R157), found where the depth of the last active unit comes to P25 or
less, the unit UP where it is also at its latched top depth, or where its blind raise ends: the record is DONE
with its result part, the satellite is released, and the mode becomes PAUSED where a pause is pending, else
HALTED with FLAG_STOP where a stop is armed, else SEEK goes on. Model's choices it rests on: log 2. -/
def Obligations.WorkFinished : Prop :=
  (∀ (s : State) (u : UnitId) (t0 w : Nat) (n d d0 : Int) (r : Sleeper) (active : UnitSet) (l : HeadLatch)
      (pass : DesignPass),
    s.powered = true → (s.count.get (.dep u)).a.since = some w → (s.count.get (.dep u)).paired = false →
    let ch := s.count.get (.dep u)
    n = (if ((ch.a.present != ch.b.accepted) != channelIn (.dep u) s.params.p39polarity) then ch.count + 1
      else ch.count - 1) →
    -2147483648 ≤ n → n ≤ 2147483647 →
    let counted := { s.beginBy (w + s.params.p38) with
      count := s.count.set (.dep u) { ch with a := ⟨ch.a.present, ch.a.present, none⟩, count := n } }
    depthOf u s = some d0 → s.params.p25 < d0 → depthOf u counted = some d → d ≤ s.params.p25 →
    let h := s.heads.get u
    h.state = .raising → h.stage = some .normal → h.latched = some l → h.pendingLower = false → s.NoRelease →
    s.cyc.mode = .work → s.cyc.phase = .clearing → s.cyc.current = some r.seq →
    unfinishedRecord r.seq s = some r → r.state = .inWork → s.cyc.active = some active →
    s.cyc.stopwatch = some t0 → unitIn u active = true →
    (∀ v, v ≠ u → unitIn v active = true → (s.heads.get v).state = .up ∨ (s.heads.get v).state = .faulted
      ∨ ∃ e, depthOf v s = some e ∧ e ≤ s.params.p25) →
    (∀ a, (s.axes.get a).state = .idle) → s.eng.activity = .designing pass →
    let deeper := if h.report.participated = true then
        { h with report := { h.report with deepest := some ((h.report.deepest.map (max · d)).getD d) } }
      else h
    CycleEnds (.filterWindowExpiry (.channelA (.dep u))) s r fun t =>
      RecordDone s t r active t0 (max s.clock (w + s.params.p38))
          (fun v => if v = u then deeper.report else (s.heads.get v).report)
        ∧ t.heads.get u = (if d ≤ l.top then
            { deeper with state := .up, stage := none, timer := none, latched := none } else deeper))
    ∧ ∀ (s : State) (u : UnitId) (tm : Timer) (r : Sleeper) (active : UnitSet) (t0 : Nat) (pass : DesignPass),
      s.powered = true → (s.heads.get u).state = .raising → (s.heads.get u).stage = some .blind →
      (s.heads.get u).timer = some tm → s.NoRelease →
      s.cyc.mode = .work → s.cyc.phase = .clearing → s.cyc.current = some r.seq →
      unfinishedRecord r.seq s = some r → r.state = .inWork → s.cyc.active = some active →
      s.cyc.stopwatch = some t0 → unitIn u active = true →
      (∀ v, v ≠ u → unitIn v active = true → (s.heads.get v).state = .up ∨ (s.heads.get v).state = .faulted
        ∨ ∃ e, depthOf v s = some e ∧ e ≤ s.params.p25) →
      (∀ a, (s.axes.get a).state = .idle) → s.eng.activity = .designing pass →
      CycleEnds (.blindRaiseExpiry u) s r fun t =>
        RecordDone s t r active t0 (max s.clock (tm.started + 1000 * tm.loaded))
            (fun v => (s.heads.get v).report)
          ∧ (t.heads.get u).state = .faulted

/-- PAUSE and CLEAR_HALT (R142, R144). PAUSE is refused with WRONG_MODE outside WORK; in SEEK and WAIT_DESIGN
the mode is PAUSED at once, in the other phases pause-pending is set and the work goes on. CLEAR_HALT is
refused with WRONG_MODE outside HALTED and with BUSY while a unit is neither UP nor FAULTED or an axis is not
IDLE; otherwise the mode is READY, and the queues and the last halt cause are as they were. Model's choices it
rests on: logs 1, 4. -/
def Obligations.PauseAndClearHaltTaken : Prop :=
  ∀ (s : State) (dt : Nat) (tag : Byte), s.Listens →
    let announced := fun (r : Request) (m : Mode) =>
      { s.answering dt r tag .ok [] with
        modeSlot := some ⟨⟨m, s.cyc.cause, s.cyc.detail, s.cyc.resetCause⟩,
          (s.link.modeSlot.map (·.age)).getD (s.eventNo + 1)⟩ }
    let atRest := (∀ u, (s.heads.get u).state = .up ∨ (s.heads.get u).state = .faulted)
      ∧ ∀ a, (s.axes.get a).state = .idle
    (s.cyc.mode ≠ .work →
        exec (.pause dt tag) s = .next { s.beginAt dt with link := s.answering dt .pause tag .wrongMode [] })
      ∧ (s.cyc.mode = .work → s.cyc.phase = .seek ∨ s.cyc.phase = .waitDesign →
        exec (.pause dt tag) s
          = .next { s.beginAt dt with
              cyc := { s.cyc with
                mode := .paused, phase := .none, pausePending := false, current := none, active := none
                stopwatch := none }
              cond := { s.cond with armed := none }
              seg := { s.seg with starved := false }
              pos := { s.pos with demand := .stop, strokeTerm := .go }
              link := announced .pause .paused })
      ∧ (s.cyc.mode = .work → s.cyc.phase ≠ .seek → s.cyc.phase ≠ .waitDesign →
        exec (.pause dt tag) s
          = .next { s.beginAt dt with
              cyc := { s.cyc with pausePending := true }
              link := s.answering dt .pause tag .ok [] })
      ∧ (s.cyc.mode ≠ .halted →
        exec (.clearHalt dt tag) s
          = .next { s.beginAt dt with link := s.answering dt .clearHalt tag .wrongMode [] })
      ∧ (s.cyc.mode = .halted → ¬ atRest →
        exec (.clearHalt dt tag) s
          = .next { s.beginAt dt with link := s.answering dt .clearHalt tag .busy [] })
      ∧ (s.cyc.mode = .halted → atRest →
        exec (.clearHalt dt tag) s
          = .next { s.beginAt dt with
              cyc := { s.cyc with
                mode := .ready, phase := .none, current := none, active := none, stopwatch := none }
              seg := { s.seg with starved := false }
              pos := { s.pos with demand := .go, strokeTerm := .go }
              link := announced .clearHalt .ready })

/-- STOP replies OK in every mode. In READY and HALTED it changes nothing. In WORK and PAUSED it makes a hard
halt with cause OPERATOR (R143), with all that a hard halt does at that instant (R155, R156): a record IN_WORK
is ABORTED with its result part from the reports as they stand, the drive rides, no unit lowers, stands
inserted or squeezes, every axis is IDLE, and the MODE slot is filled. With the engine on a design pass, which
the halt leaves it on, the segments and the SEGMENTS_WANTED slot stay, and so does the CONDITION slot where no
flag changes. Model's choices it rests on: logs 1, 4. -/
def Obligations.StopHalts : Prop :=
  ∀ (s : State) (dt : Nat) (tag : Byte), s.Listens →
    (s.cyc.mode = .ready ∨ s.cyc.mode = .halted →
        exec (.stop dt tag) s = .next { s.beginAt dt with link := s.answering dt .stop tag .ok [] })
      ∧ (s.cyc.mode = .work ∨ s.cyc.mode = .paused → s.LowersPendRaising →
        ∃ t condSlot segSlot, exec (.stop dt tag) s = .next t
          ∧ t.clock = s.clock + dt
          ∧ t.cyc = ⟨.halted, .none, false, none, none, none, .operator, none, s.cyc.resetCause⟩
          ∧ t.cond.armed = none
          ∧ t.pos = { s.pos with
              drive := .riding, target := none, output := .stop, holdLost := false, strokeEnd := false
              demand := .stop, strokeTerm := .go }
          ∧ (∀ u, (t.heads.get u).state ≠ .lowering ∧ (t.heads.get u).state ≠ .inserted
              ∧ (t.heads.get u).state ≠ .squeezing)
          ∧ (∀ a, (t.axes.get a).state = .idle)
          ∧ t.link = { s.answering dt .stop tag .ok [] with
              modeSlot := some ⟨⟨.halted, .operator, none, s.cyc.resetCause⟩,
                (s.link.modeSlot.map (·.age)).getD (s.eventNo + 1)⟩
              condSlot := condSlot
              segSlot := segSlot }
          ∧ (∀ p, s.eng.activity = .designing p →
            t.eng.activity = .designing p ∧ t.seg.segments = s.seg.segments ∧ segSlot = s.link.segSlot
              ∧ (t.cond.flags = s.cond.flags → condSlot = s.link.condSlot))
          ∧ (∀ p, t.eng.activity ≠ .targeting p) ∧ t.eng.request = none
          ∧ t.slp.records.length = s.slp.records.length
          ∧ (∀ r ∈ s.slp.records, r.state.finished = true → r ∈ t.slp.records)
          ∧ (∀ r, s.cyc.current = some r.seq → unfinishedRecord r.seq s = some r → r.state = .inWork →
              ∃ result, { r with state := .aborted, result := some result } ∈ t.slp.records
                ∧ result.active = s.cyc.active.getD 0
                ∧ result.cycleTime
                  = (s.cyc.stopwatch.map fun t0 => min 65535 ((s.clock + dt - t0) / 1000)).getD 0
                ∧ result.skip = none ∧ result.flags = r.flags
                ∧ (∀ u, result.units.get u = (s.heads.get u).report)
                ∧ ∀ a, result.axes.get a = axisReport a s)
          ∧ t.count = s.count ∧ t.params = s.params ∧ t.headSet = s.headSet ∧ t.store = s.store)

/-- JOB_CLEAR (R145, R57, R76, R91) is refused with WRONG_MODE in WORK and PAUSED. In READY and HALTED it
replies OK; the segment queue, the pool and the sleeper queue are empty but for a record whose work record is
being sent, which stays with its chainage the high-water; numbering restarts at 1; the engine is idle; the
look-ahead condition holds, and where it had not held SEGMENTS_WANTED is filled as R53 says; and everything
else is as it was. Model's choices it rests on: logs 1, 4, 33. -/
def Obligations.JobCleared : Prop :=
  ∀ (s : State) (dt : Nat) (tag : Byte), s.Listens →
    let cleared := fun (slp : SleeperQueue) =>
      exec (.jobClear dt tag) s
          = .next { s.beginAt dt with
              slp := slp
              seg := ⟨[], true, false⟩
              eng := ⟨.idle, none⟩
              pos := { s.pos with
                demand := if s.cyc.mode = .ready then .go else .stop
                strokeTerm := .go }
              link := { s.answering dt .jobClear tag .ok [] with
                segSlot := s.wantedSlot [] (detectorChainage s + max s.params.p01 s.params.p03 + s.params.p36)
                  false } }
    (s.cyc.mode = .work ∨ s.cyc.mode = .paused →
        exec (.jobClear dt tag) s
          = .next { s.beginAt dt with link := s.answering dt .jobClear tag .wrongMode [] })
      ∧ (s.cyc.mode = .ready ∨ s.cyc.mode = .halted →
        (∀ x, s.link.tx = some x → x.source ≠ .workRecord) → cleared ⟨[], none, 1, none, [], false⟩)
      ∧ (s.cyc.mode = .ready ∨ s.cyc.mode = .halted →
        ∀ x r rest, s.link.tx = some x → x.source = .workRecord → s.slp.records = r :: rest →
        cleared ⟨[r], some r.chainage, 1, none, [], true⟩)

/-! ## Conditions and settings -/

/-- CONFIGURE and READ_PARAM (R180, R181, R20, R77, R178). The five checks of R180 in their order refuse with
nothing changed; the value already in force changes nothing beyond the reply; a parameter that acts at its
next use is replaced and nothing else changes; a new P05 rebases the datum so that frame chainage stays; a new
P37 loads a running supervision timer afresh, or stops it. READ_PARAM replies with the value in force. Model's
choices it rests on: logs 1, 4, 25. -/
def Obligations.ParameterConfigured : Prop :=
  ∀ (s : State) (dt : Nat) (tag id : Byte) (v : BitVec 32), s.Listens → s.params.Legal →
    let n := id.toNat
    let rest := n ≤ 9 ∨ n = 33 ∨ n = 35 ∨ n = 38 ∨ n = 39
    let refused := fun status : Status => exec (.configure dt tag id v) s
      = .next { s.beginAt dt with link := s.answering dt (.configure id v) tag status [] }
    let replied := s.answering dt (.configure id v) tag .ok ([id] ++ beBytes 4 v.toNat)
    let known := 1 ≤ n ∧ n ≤ 39
    let timely := known ∧ (rest → s.cyc.mode = .ready)
    let inside := timely ∧ inRange n v.toNat = true
    let valid := inside ∧ (s.params.put n v.toNat).Crossed
    let ok := valid ∧ (n = 33 → s.slp.records = [])
    (¬ known → refused .outOfRange)
      ∧ (known → rest → s.cyc.mode ≠ .ready → refused .wrongMode)
      ∧ (timely → inRange n v.toNat = false → refused .outOfRange)
      ∧ (inside → ¬ (s.params.put n v.toNat).Crossed → refused .outOfRange)
      ∧ (valid → n = 33 → s.slp.records ≠ [] → refused .inUse)
      ∧ (ok → s.params.value n = v.toNat →
        exec (.configure dt tag id v) s = .next { s.beginAt dt with link := replied })
      ∧ (ok → (n = 6 ∨ n = 7 ∨ n = 9 ∨ 15 ≤ n ∧ n ≤ 35) →
        (s.params.put n v.toNat).value n = v.toNat
          ∧ (∀ m, m ≠ n → (s.params.put n v.toNat).value m = s.params.value m)
          ∧ exec (.configure dt tag id v) s
            = .next { s.beginAt dt with params := s.params.put n v.toNat, link := replied })
      ∧ (ok → n = 5 → s.params.value n ≠ v.toNat →
        ∃ t, exec (.configure dt tag id v) s = .next t
          ∧ t = { s.beginAt dt with
              params := { s.params with p05 := v.toNat }
              pos := { s.pos with datum := frameMicrons s, countAtDatum := s.count.odo.count }
              link := replied }
          ∧ frameMicrons t = frameMicrons s ∧ frameChainage t = frameChainage s)
      ∧ (ok → n = 37 → s.params.value n ≠ v.toNat →
        exec (.configure dt tag id v) s
          = .next { s.beginAt dt with
              params := { s.params with p37 := v.toNat }
              link := { replied with
                supervision := if v.toNat = 0 ∨ s.params.p37 = 0 then none
                  else some ⟨v.toNat, s.clock + dt⟩ } })
      ∧ (known → exec (.readParam dt tag id) s
          = .next { s.beginAt dt with
              link := s.answering dt (.readParam id) tag .ok ([id] ++ beBytes 4 (s.params.value n)) })
      ∧ (¬ known → exec (.readParam dt tag id) s
          = .next { s.beginAt dt with link := s.answering dt (.readParam id) tag .outOfRange [] })

/-- What a CONFIGURE that changes a value sets off at once. P01 to P04: a design pass in flight is abandoned
and every DESIGNED record is QUEUED again without its design part (R90). P08 and P36: the rear bound, the
retirement and the look-ahead are judged afresh (R51, R52, R53), and head and frame chainage stay. P10 and
P11: the travel demand is re-determined, with STROKE_LOW where the stroke term tightens (R34, R36). P12, P13
and P14: the drive is re-determined (R33). P38: every change that has been steady for the new window is
accepted, and the others go on being timed (R2). P39: each channel but ODO whose polarity changes loses its
null, and the detector line makes no edge (R4, R14). Stated where the other blocks do not act on the outcome
at the same instant. Model's choices it rests on: logs 1, 4, 13, 40. -/
def Obligations.ParameterChangesActed : Prop :=
  ∀ (s : State) (dt : Nat) (tag id : Byte) (v : BitVec 32), s.Listens → s.params.Legal →
    let n := id.toNat
    let rest := n ≤ 9 ∨ n = 33 ∨ n = 35 ∨ n = 38 ∨ n = 39
    let put := s.params.put n v.toNat
    let order := Instr.configure dt tag id v
    let replaced := { s.beginAt dt with params := put }
    let replied := s.answering dt (.configure id v) tag .ok ([id] ++ beBytes 4 v.toNat)
    (rest → s.cyc.mode = .ready) → inRange n v.toNat = true → put.Crossed → s.params.value n ≠ v.toNat →
    (1 ≤ n → n ≤ 4 →
        ∃ t, exec order s = .next t ∧ t.params = put
          ∧ t.slp.records.length = s.slp.records.length
          ∧ (∀ (i : Nat) (q q' : Sleeper), s.slp.records[i]? = some q → t.slp.records[i]? = some q' →
            q.state = .designed →
            q'.design = none ∧ (q'.state = .queued
              ∨ q'.state = .skipped ∧ q'.result.map (·.skip) = some (some .noCover)))
          ∧ (∀ p, t.eng.activity = .designing p → p.arms = ⟨put.p01, put.p02, put.p03, put.p04⟩)
          ∧ (s.seg.segments = [] → (∀ p, s.eng.activity ≠ .targeting p) → s.eng.request = none →
            t.eng.activity = .idle ∧ t.slp = { s.slp with
              records := s.slp.records.map fun q =>
                if q.state = .designed then { q with state := .queued, design := none } else q }))
      ∧ (n = 8 ∨ n = 36 → s.cyc.mode ≠ .work → (∃ p, s.eng.activity = .designing p) →
        let segs := s.seg.segments.dropWhile fun g => decide (g.start + g.length ≤ rearBound replaced)
        let reach := detectorChainage replaced + max put.p01 put.p03 + put.p36
        exec order s = .next { replaced with
            seg := ⟨segs, wanting segs reach, s.seg.starved⟩
            link := { replied with segSlot := s.wantedSlot segs reach false } }
          ∧ detectorChainage replaced = max (-2000000000) (min 2000000000 (frameChainage s + put.p08))
          ∧ frameChainage replaced = frameChainage s ∧ headChainage replaced = headChainage s)
      ∧ (n = 10 ∨ n = 11 →
        ∃ t, exec order s = .next t ∧ t.params = put ∧ t.DemandCurrent ∧ t.count = s.count
          ∧ (s.InWorkOrOut → t.cyc = s.cyc ∧ t.slp = s.slp ∧ t.heads = s.heads ∧ t.axes = s.axes)
          ∧ ∀ o, s.cyc.mode = .work → s.pos.drive = .holding → satOffset s = some o →
            (o ≤ put.p11 → s.pos.strokeTerm ≠ .stop → flagIn .strokeLow t.cond.flags = true)
              ∧ (o ≤ put.p10 → s.pos.strokeTerm = .go → flagIn .strokeLow t.cond.flags = true))
      ∧ (n = 12 ∨ n = 13 ∨ n = 14 → ∀ tgt h o, s.pos.target = some tgt → headChainage s = some h →
        satOffset s = some o → s.cyc.mode = .work →
        ∃ t, exec order s = .next t ∧ t.params = put
          ∧ (s.pos.drive = .indexing → s.cyc.phase = .indexing → s.cond.armed = none → frameChainage s ≤ tgt →
            put.p12 < ((h - tgt).natAbs : Int) → DriveGoesOn replaced t)
          ∧ (s.pos.drive = .holding → s.cyc.phase = .arrived ∨ s.cyc.phase = .working ∨ s.cyc.phase = .clearing →
            HoldingJudged replaced t ((h - tgt).natAbs : Int) o))
      ∧ (n = 38 →
        ((∀ l t0, (s.count.filter l).since = some t0 → s.clock + dt < t0 + v.toNat) →
            exec order s = .next { replaced with link := replied })
          ∧ ∃ t, exec order s = .next t ∧ t.params = put
            ∧ (∀ l t0, (s.count.filter l).since = some t0 → t0 + v.toNat ≤ s.clock + dt →
              t.count.filter l = ⟨(s.count.filter l).present, (s.count.filter l).present, none⟩)
            ∧ (∀ l, (∀ t0, (s.count.filter l).since = some t0 → s.clock + dt < t0 + v.toNat) →
              t.count.filter l = s.count.filter l))
      ∧ (n = 39 → s.NoRelease →
        ∃ t, exec order s = .next t ∧ t.params = put ∧ t.slp = s.slp ∧ t.cyc = s.cyc ∧ t.seg = s.seg
          ∧ (∀ l, t.count.filter l = s.count.filter l)
          ∧ ∀ c, t.count.get c = { s.count.get c with
              nulled := (s.count.get c).nulled
                && decide (c = .odo ∨ channelIn c put.p39polarity = channelIn c s.params.p39polarity) })

/-- SAVE_SETTINGS and RESTART (R182, R184, R177). SAVE_SETTINGS is refused with WRONG_MODE outside READY; in
READY the store begins to write the image of the live set, and the request is being taken with no reply yet.
RESTART is refused with WRONG_MODE in WORK and PAUSED; otherwise it replies OK and the restart marker stops
the reception, and at the end of the last reply waiting the controller makes the reset with reset cause
RESTART and the values of the store. Model's choices it rests on: logs 1, 4, 30, 46. -/
def Obligations.SaveAndRestartTaken : Prop :=
  (∀ (s : State) (dt : Nat) (tag : Byte), s.Listens →
    (s.cyc.mode ≠ .ready →
        exec (.saveSettings dt tag) s
          = .next { s.beginAt dt with link := s.answering dt .saveSettings tag .wrongMode [] })
      ∧ (s.cyc.mode = .ready →
        exec (.saveSettings dt tag) s
          = .next (arbitrate { s.beginAt dt with
              store := { s.store with saving := some (imageOf s.params) }
              link := { s.link with
                assembler := .hunt
                lastByte := s.clock + dt
                requests := s.link.requests ++ [⟨0x11, tag, .saveSettings, .taking⟩]
                supervision := heardAt s.params (s.clock + dt) } }))
      ∧ (s.cyc.mode = .work ∨ s.cyc.mode = .paused →
        exec (.restart dt tag) s
          = .next { s.beginAt dt with link := s.answering dt .restart tag .wrongMode [] })
      ∧ (s.cyc.mode = .ready ∨ s.cyc.mode = .halted →
        exec (.restart dt tag) s
          = .next { s.beginAt dt with
              link := { s.answering dt .restart tag .ok [] with restart := true } }))
    ∧ ∀ (s : State) (x : Transmission), s.powered = true → s.link.restart = true → s.link.full = [] →
        s.link.replies.length = 1 → s.link.tx = some x → x.source = .reply →
        ∃ t, exec .transmitEnd s = .next t
          ∧ t.cyc = ⟨.ready, .none, false, none, none, none, .none, none, .restart⟩
          ∧ t.params = (loadImage s.store.image).1 ∧ t.store.image = s.store.image
          ∧ t.slp.records = [] ∧ t.seg.segments = []
          ∧ t.link.restart = false ∧ t.link.requests = [] ∧ t.link.replies = []
          ∧ (∀ u, (t.heads.get u).state = .parking)
          ∧ t.link.tx.map (·.bytes) = some (frameBytes 0xC0 0 [0, 0, 0xFF, 1])

end Statements
end

