-- ==== Sys2Proof/Laws/State.lean ====
section
/-! SUPPORT. One lemma per field and update of the state: what an update of one block leaves, and what it
makes. -/

namespace Sys2Proof.Machine

/-! ### `State.modCount` -/

@[simp] theorem State.modCount_pending (s : State) (f : CountUnit → CountUnit) : (s.modCount f).pending = s.pending := rfl
@[simp] theorem State.modCount_clock (s : State) (f : CountUnit → CountUnit) : (s.modCount f).clock = s.clock := rfl
@[simp] theorem State.modCount_eventNo (s : State) (f : CountUnit → CountUnit) : (s.modCount f).eventNo = s.eventNo := rfl
@[simp] theorem State.modCount_freeNext (s : State) (f : CountUnit → CountUnit) : (s.modCount f).freeNext = s.freeNext := rfl
@[simp] theorem State.modCount_powered (s : State) (f : CountUnit → CountUnit) : (s.modCount f).powered = s.powered := rfl
@[simp] theorem State.modCount_params (s : State) (f : CountUnit → CountUnit) : (s.modCount f).params = s.params := rfl
@[simp] theorem State.modCount_store (s : State) (f : CountUnit → CountUnit) : (s.modCount f).store = s.store := rfl
@[simp] theorem State.modCount_count (s : State) (f : CountUnit → CountUnit) : (s.modCount f).count = f s.count := rfl
@[simp] theorem State.modCount_pos (s : State) (f : CountUnit → CountUnit) : (s.modCount f).pos = s.pos := rfl
@[simp] theorem State.modCount_seg (s : State) (f : CountUnit → CountUnit) : (s.modCount f).seg = s.seg := rfl
@[simp] theorem State.modCount_slp (s : State) (f : CountUnit → CountUnit) : (s.modCount f).slp = s.slp := rfl
@[simp] theorem State.modCount_eng (s : State) (f : CountUnit → CountUnit) : (s.modCount f).eng = s.eng := rfl
@[simp] theorem State.modCount_axes (s : State) (f : CountUnit → CountUnit) : (s.modCount f).axes = s.axes := rfl
@[simp] theorem State.modCount_heads (s : State) (f : CountUnit → CountUnit) : (s.modCount f).heads = s.heads := rfl
@[simp] theorem State.modCount_headSet (s : State) (f : CountUnit → CountUnit) : (s.modCount f).headSet = s.headSet := rfl
@[simp] theorem State.modCount_cyc (s : State) (f : CountUnit → CountUnit) : (s.modCount f).cyc = s.cyc := rfl
@[simp] theorem State.modCount_cond (s : State) (f : CountUnit → CountUnit) : (s.modCount f).cond = s.cond := rfl
@[simp] theorem State.modCount_link (s : State) (f : CountUnit → CountUnit) : (s.modCount f).link = s.link := rfl

/-! ### `State.modPos` -/

@[simp] theorem State.modPos_pending (s : State) (f : Position → Position) : (s.modPos f).pending = s.pending := rfl
@[simp] theorem State.modPos_clock (s : State) (f : Position → Position) : (s.modPos f).clock = s.clock := rfl
@[simp] theorem State.modPos_eventNo (s : State) (f : Position → Position) : (s.modPos f).eventNo = s.eventNo := rfl
@[simp] theorem State.modPos_freeNext (s : State) (f : Position → Position) : (s.modPos f).freeNext = s.freeNext := rfl
@[simp] theorem State.modPos_powered (s : State) (f : Position → Position) : (s.modPos f).powered = s.powered := rfl
@[simp] theorem State.modPos_params (s : State) (f : Position → Position) : (s.modPos f).params = s.params := rfl
@[simp] theorem State.modPos_store (s : State) (f : Position → Position) : (s.modPos f).store = s.store := rfl
@[simp] theorem State.modPos_count (s : State) (f : Position → Position) : (s.modPos f).count = s.count := rfl
@[simp] theorem State.modPos_pos (s : State) (f : Position → Position) : (s.modPos f).pos = f s.pos := rfl
@[simp] theorem State.modPos_seg (s : State) (f : Position → Position) : (s.modPos f).seg = s.seg := rfl
@[simp] theorem State.modPos_slp (s : State) (f : Position → Position) : (s.modPos f).slp = s.slp := rfl
@[simp] theorem State.modPos_eng (s : State) (f : Position → Position) : (s.modPos f).eng = s.eng := rfl
@[simp] theorem State.modPos_axes (s : State) (f : Position → Position) : (s.modPos f).axes = s.axes := rfl
@[simp] theorem State.modPos_heads (s : State) (f : Position → Position) : (s.modPos f).heads = s.heads := rfl
@[simp] theorem State.modPos_headSet (s : State) (f : Position → Position) : (s.modPos f).headSet = s.headSet := rfl
@[simp] theorem State.modPos_cyc (s : State) (f : Position → Position) : (s.modPos f).cyc = s.cyc := rfl
@[simp] theorem State.modPos_cond (s : State) (f : Position → Position) : (s.modPos f).cond = s.cond := rfl
@[simp] theorem State.modPos_link (s : State) (f : Position → Position) : (s.modPos f).link = s.link := rfl

/-! ### `State.modSeg` -/

@[simp] theorem State.modSeg_pending (s : State) (f : SegmentQueue → SegmentQueue) : (s.modSeg f).pending = s.pending := rfl
@[simp] theorem State.modSeg_clock (s : State) (f : SegmentQueue → SegmentQueue) : (s.modSeg f).clock = s.clock := rfl
@[simp] theorem State.modSeg_eventNo (s : State) (f : SegmentQueue → SegmentQueue) : (s.modSeg f).eventNo = s.eventNo := rfl
@[simp] theorem State.modSeg_freeNext (s : State) (f : SegmentQueue → SegmentQueue) : (s.modSeg f).freeNext = s.freeNext := rfl
@[simp] theorem State.modSeg_powered (s : State) (f : SegmentQueue → SegmentQueue) : (s.modSeg f).powered = s.powered := rfl
@[simp] theorem State.modSeg_params (s : State) (f : SegmentQueue → SegmentQueue) : (s.modSeg f).params = s.params := rfl
@[simp] theorem State.modSeg_store (s : State) (f : SegmentQueue → SegmentQueue) : (s.modSeg f).store = s.store := rfl
@[simp] theorem State.modSeg_count (s : State) (f : SegmentQueue → SegmentQueue) : (s.modSeg f).count = s.count := rfl
@[simp] theorem State.modSeg_pos (s : State) (f : SegmentQueue → SegmentQueue) : (s.modSeg f).pos = s.pos := rfl
@[simp] theorem State.modSeg_seg (s : State) (f : SegmentQueue → SegmentQueue) : (s.modSeg f).seg = f s.seg := rfl
@[simp] theorem State.modSeg_slp (s : State) (f : SegmentQueue → SegmentQueue) : (s.modSeg f).slp = s.slp := rfl
@[simp] theorem State.modSeg_eng (s : State) (f : SegmentQueue → SegmentQueue) : (s.modSeg f).eng = s.eng := rfl
@[simp] theorem State.modSeg_axes (s : State) (f : SegmentQueue → SegmentQueue) : (s.modSeg f).axes = s.axes := rfl
@[simp] theorem State.modSeg_heads (s : State) (f : SegmentQueue → SegmentQueue) : (s.modSeg f).heads = s.heads := rfl
@[simp] theorem State.modSeg_headSet (s : State) (f : SegmentQueue → SegmentQueue) : (s.modSeg f).headSet = s.headSet := rfl
@[simp] theorem State.modSeg_cyc (s : State) (f : SegmentQueue → SegmentQueue) : (s.modSeg f).cyc = s.cyc := rfl
@[simp] theorem State.modSeg_cond (s : State) (f : SegmentQueue → SegmentQueue) : (s.modSeg f).cond = s.cond := rfl
@[simp] theorem State.modSeg_link (s : State) (f : SegmentQueue → SegmentQueue) : (s.modSeg f).link = s.link := rfl

/-! ### `State.modSlp` -/

@[simp] theorem State.modSlp_pending (s : State) (f : SleeperQueue → SleeperQueue) : (s.modSlp f).pending = s.pending := rfl
@[simp] theorem State.modSlp_clock (s : State) (f : SleeperQueue → SleeperQueue) : (s.modSlp f).clock = s.clock := rfl
@[simp] theorem State.modSlp_eventNo (s : State) (f : SleeperQueue → SleeperQueue) : (s.modSlp f).eventNo = s.eventNo := rfl
@[simp] theorem State.modSlp_freeNext (s : State) (f : SleeperQueue → SleeperQueue) : (s.modSlp f).freeNext = s.freeNext := rfl
@[simp] theorem State.modSlp_powered (s : State) (f : SleeperQueue → SleeperQueue) : (s.modSlp f).powered = s.powered := rfl
@[simp] theorem State.modSlp_params (s : State) (f : SleeperQueue → SleeperQueue) : (s.modSlp f).params = s.params := rfl
@[simp] theorem State.modSlp_store (s : State) (f : SleeperQueue → SleeperQueue) : (s.modSlp f).store = s.store := rfl
@[simp] theorem State.modSlp_count (s : State) (f : SleeperQueue → SleeperQueue) : (s.modSlp f).count = s.count := rfl
@[simp] theorem State.modSlp_pos (s : State) (f : SleeperQueue → SleeperQueue) : (s.modSlp f).pos = s.pos := rfl
@[simp] theorem State.modSlp_seg (s : State) (f : SleeperQueue → SleeperQueue) : (s.modSlp f).seg = s.seg := rfl
@[simp] theorem State.modSlp_slp (s : State) (f : SleeperQueue → SleeperQueue) : (s.modSlp f).slp = f s.slp := rfl
@[simp] theorem State.modSlp_eng (s : State) (f : SleeperQueue → SleeperQueue) : (s.modSlp f).eng = s.eng := rfl
@[simp] theorem State.modSlp_axes (s : State) (f : SleeperQueue → SleeperQueue) : (s.modSlp f).axes = s.axes := rfl
@[simp] theorem State.modSlp_heads (s : State) (f : SleeperQueue → SleeperQueue) : (s.modSlp f).heads = s.heads := rfl
@[simp] theorem State.modSlp_headSet (s : State) (f : SleeperQueue → SleeperQueue) : (s.modSlp f).headSet = s.headSet := rfl
@[simp] theorem State.modSlp_cyc (s : State) (f : SleeperQueue → SleeperQueue) : (s.modSlp f).cyc = s.cyc := rfl
@[simp] theorem State.modSlp_cond (s : State) (f : SleeperQueue → SleeperQueue) : (s.modSlp f).cond = s.cond := rfl
@[simp] theorem State.modSlp_link (s : State) (f : SleeperQueue → SleeperQueue) : (s.modSlp f).link = s.link := rfl

/-! ### `State.modEng` -/

@[simp] theorem State.modEng_pending (s : State) (f : Engine → Engine) : (s.modEng f).pending = s.pending := rfl
@[simp] theorem State.modEng_clock (s : State) (f : Engine → Engine) : (s.modEng f).clock = s.clock := rfl
@[simp] theorem State.modEng_eventNo (s : State) (f : Engine → Engine) : (s.modEng f).eventNo = s.eventNo := rfl
@[simp] theorem State.modEng_freeNext (s : State) (f : Engine → Engine) : (s.modEng f).freeNext = s.freeNext := rfl
@[simp] theorem State.modEng_powered (s : State) (f : Engine → Engine) : (s.modEng f).powered = s.powered := rfl
@[simp] theorem State.modEng_params (s : State) (f : Engine → Engine) : (s.modEng f).params = s.params := rfl
@[simp] theorem State.modEng_store (s : State) (f : Engine → Engine) : (s.modEng f).store = s.store := rfl
@[simp] theorem State.modEng_count (s : State) (f : Engine → Engine) : (s.modEng f).count = s.count := rfl
@[simp] theorem State.modEng_pos (s : State) (f : Engine → Engine) : (s.modEng f).pos = s.pos := rfl
@[simp] theorem State.modEng_seg (s : State) (f : Engine → Engine) : (s.modEng f).seg = s.seg := rfl
@[simp] theorem State.modEng_slp (s : State) (f : Engine → Engine) : (s.modEng f).slp = s.slp := rfl
@[simp] theorem State.modEng_eng (s : State) (f : Engine → Engine) : (s.modEng f).eng = f s.eng := rfl
@[simp] theorem State.modEng_axes (s : State) (f : Engine → Engine) : (s.modEng f).axes = s.axes := rfl
@[simp] theorem State.modEng_heads (s : State) (f : Engine → Engine) : (s.modEng f).heads = s.heads := rfl
@[simp] theorem State.modEng_headSet (s : State) (f : Engine → Engine) : (s.modEng f).headSet = s.headSet := rfl
@[simp] theorem State.modEng_cyc (s : State) (f : Engine → Engine) : (s.modEng f).cyc = s.cyc := rfl
@[simp] theorem State.modEng_cond (s : State) (f : Engine → Engine) : (s.modEng f).cond = s.cond := rfl
@[simp] theorem State.modEng_link (s : State) (f : Engine → Engine) : (s.modEng f).link = s.link := rfl

/-! ### `State.modCyc` -/

@[simp] theorem State.modCyc_pending (s : State) (f : Cycle → Cycle) : (s.modCyc f).pending = s.pending := rfl
@[simp] theorem State.modCyc_clock (s : State) (f : Cycle → Cycle) : (s.modCyc f).clock = s.clock := rfl
@[simp] theorem State.modCyc_eventNo (s : State) (f : Cycle → Cycle) : (s.modCyc f).eventNo = s.eventNo := rfl
@[simp] theorem State.modCyc_freeNext (s : State) (f : Cycle → Cycle) : (s.modCyc f).freeNext = s.freeNext := rfl
@[simp] theorem State.modCyc_powered (s : State) (f : Cycle → Cycle) : (s.modCyc f).powered = s.powered := rfl
@[simp] theorem State.modCyc_params (s : State) (f : Cycle → Cycle) : (s.modCyc f).params = s.params := rfl
@[simp] theorem State.modCyc_store (s : State) (f : Cycle → Cycle) : (s.modCyc f).store = s.store := rfl
@[simp] theorem State.modCyc_count (s : State) (f : Cycle → Cycle) : (s.modCyc f).count = s.count := rfl
@[simp] theorem State.modCyc_pos (s : State) (f : Cycle → Cycle) : (s.modCyc f).pos = s.pos := rfl
@[simp] theorem State.modCyc_seg (s : State) (f : Cycle → Cycle) : (s.modCyc f).seg = s.seg := rfl
@[simp] theorem State.modCyc_slp (s : State) (f : Cycle → Cycle) : (s.modCyc f).slp = s.slp := rfl
@[simp] theorem State.modCyc_eng (s : State) (f : Cycle → Cycle) : (s.modCyc f).eng = s.eng := rfl
@[simp] theorem State.modCyc_axes (s : State) (f : Cycle → Cycle) : (s.modCyc f).axes = s.axes := rfl
@[simp] theorem State.modCyc_heads (s : State) (f : Cycle → Cycle) : (s.modCyc f).heads = s.heads := rfl
@[simp] theorem State.modCyc_headSet (s : State) (f : Cycle → Cycle) : (s.modCyc f).headSet = s.headSet := rfl
@[simp] theorem State.modCyc_cyc (s : State) (f : Cycle → Cycle) : (s.modCyc f).cyc = f s.cyc := rfl
@[simp] theorem State.modCyc_cond (s : State) (f : Cycle → Cycle) : (s.modCyc f).cond = s.cond := rfl
@[simp] theorem State.modCyc_link (s : State) (f : Cycle → Cycle) : (s.modCyc f).link = s.link := rfl

/-! ### `State.modCond` -/

@[simp] theorem State.modCond_pending (s : State) (f : Conditions → Conditions) : (s.modCond f).pending = s.pending := rfl
@[simp] theorem State.modCond_clock (s : State) (f : Conditions → Conditions) : (s.modCond f).clock = s.clock := rfl
@[simp] theorem State.modCond_eventNo (s : State) (f : Conditions → Conditions) : (s.modCond f).eventNo = s.eventNo := rfl
@[simp] theorem State.modCond_freeNext (s : State) (f : Conditions → Conditions) : (s.modCond f).freeNext = s.freeNext := rfl
@[simp] theorem State.modCond_powered (s : State) (f : Conditions → Conditions) : (s.modCond f).powered = s.powered := rfl
@[simp] theorem State.modCond_params (s : State) (f : Conditions → Conditions) : (s.modCond f).params = s.params := rfl
@[simp] theorem State.modCond_store (s : State) (f : Conditions → Conditions) : (s.modCond f).store = s.store := rfl
@[simp] theorem State.modCond_count (s : State) (f : Conditions → Conditions) : (s.modCond f).count = s.count := rfl
@[simp] theorem State.modCond_pos (s : State) (f : Conditions → Conditions) : (s.modCond f).pos = s.pos := rfl
@[simp] theorem State.modCond_seg (s : State) (f : Conditions → Conditions) : (s.modCond f).seg = s.seg := rfl
@[simp] theorem State.modCond_slp (s : State) (f : Conditions → Conditions) : (s.modCond f).slp = s.slp := rfl
@[simp] theorem State.modCond_eng (s : State) (f : Conditions → Conditions) : (s.modCond f).eng = s.eng := rfl
@[simp] theorem State.modCond_axes (s : State) (f : Conditions → Conditions) : (s.modCond f).axes = s.axes := rfl
@[simp] theorem State.modCond_heads (s : State) (f : Conditions → Conditions) : (s.modCond f).heads = s.heads := rfl
@[simp] theorem State.modCond_headSet (s : State) (f : Conditions → Conditions) : (s.modCond f).headSet = s.headSet := rfl
@[simp] theorem State.modCond_cyc (s : State) (f : Conditions → Conditions) : (s.modCond f).cyc = s.cyc := rfl
@[simp] theorem State.modCond_cond (s : State) (f : Conditions → Conditions) : (s.modCond f).cond = f s.cond := rfl
@[simp] theorem State.modCond_link (s : State) (f : Conditions → Conditions) : (s.modCond f).link = s.link := rfl

/-! ### `State.modLink` -/

@[simp] theorem State.modLink_pending (s : State) (f : Link → Link) : (s.modLink f).pending = s.pending := rfl
@[simp] theorem State.modLink_clock (s : State) (f : Link → Link) : (s.modLink f).clock = s.clock := rfl
@[simp] theorem State.modLink_eventNo (s : State) (f : Link → Link) : (s.modLink f).eventNo = s.eventNo := rfl
@[simp] theorem State.modLink_freeNext (s : State) (f : Link → Link) : (s.modLink f).freeNext = s.freeNext := rfl
@[simp] theorem State.modLink_powered (s : State) (f : Link → Link) : (s.modLink f).powered = s.powered := rfl
@[simp] theorem State.modLink_params (s : State) (f : Link → Link) : (s.modLink f).params = s.params := rfl
@[simp] theorem State.modLink_store (s : State) (f : Link → Link) : (s.modLink f).store = s.store := rfl
@[simp] theorem State.modLink_count (s : State) (f : Link → Link) : (s.modLink f).count = s.count := rfl
@[simp] theorem State.modLink_pos (s : State) (f : Link → Link) : (s.modLink f).pos = s.pos := rfl
@[simp] theorem State.modLink_seg (s : State) (f : Link → Link) : (s.modLink f).seg = s.seg := rfl
@[simp] theorem State.modLink_slp (s : State) (f : Link → Link) : (s.modLink f).slp = s.slp := rfl
@[simp] theorem State.modLink_eng (s : State) (f : Link → Link) : (s.modLink f).eng = s.eng := rfl
@[simp] theorem State.modLink_axes (s : State) (f : Link → Link) : (s.modLink f).axes = s.axes := rfl
@[simp] theorem State.modLink_heads (s : State) (f : Link → Link) : (s.modLink f).heads = s.heads := rfl
@[simp] theorem State.modLink_headSet (s : State) (f : Link → Link) : (s.modLink f).headSet = s.headSet := rfl
@[simp] theorem State.modLink_cyc (s : State) (f : Link → Link) : (s.modLink f).cyc = s.cyc := rfl
@[simp] theorem State.modLink_cond (s : State) (f : Link → Link) : (s.modLink f).cond = s.cond := rfl
@[simp] theorem State.modLink_link (s : State) (f : Link → Link) : (s.modLink f).link = f s.link := rfl

/-! ### `State.modStore` -/

@[simp] theorem State.modStore_pending (s : State) (f : Store → Store) : (s.modStore f).pending = s.pending := rfl
@[simp] theorem State.modStore_clock (s : State) (f : Store → Store) : (s.modStore f).clock = s.clock := rfl
@[simp] theorem State.modStore_eventNo (s : State) (f : Store → Store) : (s.modStore f).eventNo = s.eventNo := rfl
@[simp] theorem State.modStore_freeNext (s : State) (f : Store → Store) : (s.modStore f).freeNext = s.freeNext := rfl
@[simp] theorem State.modStore_powered (s : State) (f : Store → Store) : (s.modStore f).powered = s.powered := rfl
@[simp] theorem State.modStore_params (s : State) (f : Store → Store) : (s.modStore f).params = s.params := rfl
@[simp] theorem State.modStore_store (s : State) (f : Store → Store) : (s.modStore f).store = f s.store := rfl
@[simp] theorem State.modStore_count (s : State) (f : Store → Store) : (s.modStore f).count = s.count := rfl
@[simp] theorem State.modStore_pos (s : State) (f : Store → Store) : (s.modStore f).pos = s.pos := rfl
@[simp] theorem State.modStore_seg (s : State) (f : Store → Store) : (s.modStore f).seg = s.seg := rfl
@[simp] theorem State.modStore_slp (s : State) (f : Store → Store) : (s.modStore f).slp = s.slp := rfl
@[simp] theorem State.modStore_eng (s : State) (f : Store → Store) : (s.modStore f).eng = s.eng := rfl
@[simp] theorem State.modStore_axes (s : State) (f : Store → Store) : (s.modStore f).axes = s.axes := rfl
@[simp] theorem State.modStore_heads (s : State) (f : Store → Store) : (s.modStore f).heads = s.heads := rfl
@[simp] theorem State.modStore_headSet (s : State) (f : Store → Store) : (s.modStore f).headSet = s.headSet := rfl
@[simp] theorem State.modStore_cyc (s : State) (f : Store → Store) : (s.modStore f).cyc = s.cyc := rfl
@[simp] theorem State.modStore_cond (s : State) (f : Store → Store) : (s.modStore f).cond = s.cond := rfl
@[simp] theorem State.modStore_link (s : State) (f : Store → Store) : (s.modStore f).link = s.link := rfl

/-! ### `State.modParams` -/

@[simp] theorem State.modParams_pending (s : State) (f : Params → Params) : (s.modParams f).pending = s.pending := rfl
@[simp] theorem State.modParams_clock (s : State) (f : Params → Params) : (s.modParams f).clock = s.clock := rfl
@[simp] theorem State.modParams_eventNo (s : State) (f : Params → Params) : (s.modParams f).eventNo = s.eventNo := rfl
@[simp] theorem State.modParams_freeNext (s : State) (f : Params → Params) : (s.modParams f).freeNext = s.freeNext := rfl
@[simp] theorem State.modParams_powered (s : State) (f : Params → Params) : (s.modParams f).powered = s.powered := rfl
@[simp] theorem State.modParams_params (s : State) (f : Params → Params) : (s.modParams f).params = f s.params := rfl
@[simp] theorem State.modParams_store (s : State) (f : Params → Params) : (s.modParams f).store = s.store := rfl
@[simp] theorem State.modParams_count (s : State) (f : Params → Params) : (s.modParams f).count = s.count := rfl
@[simp] theorem State.modParams_pos (s : State) (f : Params → Params) : (s.modParams f).pos = s.pos := rfl
@[simp] theorem State.modParams_seg (s : State) (f : Params → Params) : (s.modParams f).seg = s.seg := rfl
@[simp] theorem State.modParams_slp (s : State) (f : Params → Params) : (s.modParams f).slp = s.slp := rfl
@[simp] theorem State.modParams_eng (s : State) (f : Params → Params) : (s.modParams f).eng = s.eng := rfl
@[simp] theorem State.modParams_axes (s : State) (f : Params → Params) : (s.modParams f).axes = s.axes := rfl
@[simp] theorem State.modParams_heads (s : State) (f : Params → Params) : (s.modParams f).heads = s.heads := rfl
@[simp] theorem State.modParams_headSet (s : State) (f : Params → Params) : (s.modParams f).headSet = s.headSet := rfl
@[simp] theorem State.modParams_cyc (s : State) (f : Params → Params) : (s.modParams f).cyc = s.cyc := rfl
@[simp] theorem State.modParams_cond (s : State) (f : Params → Params) : (s.modParams f).cond = s.cond := rfl
@[simp] theorem State.modParams_link (s : State) (f : Params → Params) : (s.modParams f).link = s.link := rfl

/-! ### `State.modAxis` and `State.modHead` -/

@[simp] theorem State.modAxis_pending (s : State) (a : AxisId) (f : Axis → Axis) :
    (s.modAxis a f).pending = s.pending := rfl
@[simp] theorem State.modAxis_clock (s : State) (a : AxisId) (f : Axis → Axis) :
    (s.modAxis a f).clock = s.clock := rfl
@[simp] theorem State.modAxis_eventNo (s : State) (a : AxisId) (f : Axis → Axis) :
    (s.modAxis a f).eventNo = s.eventNo := rfl
@[simp] theorem State.modAxis_freeNext (s : State) (a : AxisId) (f : Axis → Axis) :
    (s.modAxis a f).freeNext = s.freeNext := rfl
@[simp] theorem State.modAxis_powered (s : State) (a : AxisId) (f : Axis → Axis) :
    (s.modAxis a f).powered = s.powered := rfl
@[simp] theorem State.modAxis_params (s : State) (a : AxisId) (f : Axis → Axis) :
    (s.modAxis a f).params = s.params := rfl
@[simp] theorem State.modAxis_store (s : State) (a : AxisId) (f : Axis → Axis) :
    (s.modAxis a f).store = s.store := rfl
@[simp] theorem State.modAxis_count (s : State) (a : AxisId) (f : Axis → Axis) :
    (s.modAxis a f).count = s.count := rfl
@[simp] theorem State.modAxis_pos (s : State) (a : AxisId) (f : Axis → Axis) :
    (s.modAxis a f).pos = s.pos := rfl
@[simp] theorem State.modAxis_seg (s : State) (a : AxisId) (f : Axis → Axis) :
    (s.modAxis a f).seg = s.seg := rfl
@[simp] theorem State.modAxis_slp (s : State) (a : AxisId) (f : Axis → Axis) :
    (s.modAxis a f).slp = s.slp := rfl
@[simp] theorem State.modAxis_eng (s : State) (a : AxisId) (f : Axis → Axis) :
    (s.modAxis a f).eng = s.eng := rfl
@[simp] theorem State.modAxis_axes (s : State) (a : AxisId) (f : Axis → Axis) :
    (s.modAxis a f).axes = s.axes.set a (f (s.axes.get a)) := rfl
@[simp] theorem State.modAxis_heads (s : State) (a : AxisId) (f : Axis → Axis) :
    (s.modAxis a f).heads = s.heads := rfl
@[simp] theorem State.modAxis_headSet (s : State) (a : AxisId) (f : Axis → Axis) :
    (s.modAxis a f).headSet = s.headSet := rfl
@[simp] theorem State.modAxis_cyc (s : State) (a : AxisId) (f : Axis → Axis) :
    (s.modAxis a f).cyc = s.cyc := rfl
@[simp] theorem State.modAxis_cond (s : State) (a : AxisId) (f : Axis → Axis) :
    (s.modAxis a f).cond = s.cond := rfl
@[simp] theorem State.modAxis_link (s : State) (a : AxisId) (f : Axis → Axis) :
    (s.modAxis a f).link = s.link := rfl

@[simp] theorem State.modHead_pending (s : State) (u : UnitId) (f : Head → Head) :
    (s.modHead u f).pending = s.pending := rfl
@[simp] theorem State.modHead_clock (s : State) (u : UnitId) (f : Head → Head) :
    (s.modHead u f).clock = s.clock := rfl
@[simp] theorem State.modHead_eventNo (s : State) (u : UnitId) (f : Head → Head) :
    (s.modHead u f).eventNo = s.eventNo := rfl
@[simp] theorem State.modHead_freeNext (s : State) (u : UnitId) (f : Head → Head) :
    (s.modHead u f).freeNext = s.freeNext := rfl
@[simp] theorem State.modHead_powered (s : State) (u : UnitId) (f : Head → Head) :
    (s.modHead u f).powered = s.powered := rfl
@[simp] theorem State.modHead_params (s : State) (u : UnitId) (f : Head → Head) :
    (s.modHead u f).params = s.params := rfl
@[simp] theorem State.modHead_store (s : State) (u : UnitId) (f : Head → Head) :
    (s.modHead u f).store = s.store := rfl
@[simp] theorem State.modHead_count (s : State) (u : UnitId) (f : Head → Head) :
    (s.modHead u f).count = s.count := rfl
@[simp] theorem State.modHead_pos (s : State) (u : UnitId) (f : Head → Head) :
    (s.modHead u f).pos = s.pos := rfl
@[simp] theorem State.modHead_seg (s : State) (u : UnitId) (f : Head → Head) :
    (s.modHead u f).seg = s.seg := rfl
@[simp] theorem State.modHead_slp (s : State) (u : UnitId) (f : Head → Head) :
    (s.modHead u f).slp = s.slp := rfl
@[simp] theorem State.modHead_eng (s : State) (u : UnitId) (f : Head → Head) :
    (s.modHead u f).eng = s.eng := rfl
@[simp] theorem State.modHead_axes (s : State) (u : UnitId) (f : Head → Head) :
    (s.modHead u f).axes = s.axes := rfl
@[simp] theorem State.modHead_heads (s : State) (u : UnitId) (f : Head → Head) :
    (s.modHead u f).heads = s.heads.set u (f (s.heads.get u)) := rfl
@[simp] theorem State.modHead_headSet (s : State) (u : UnitId) (f : Head → Head) :
    (s.modHead u f).headSet = s.headSet := rfl
@[simp] theorem State.modHead_cyc (s : State) (u : UnitId) (f : Head → Head) :
    (s.modHead u f).cyc = s.cyc := rfl
@[simp] theorem State.modHead_cond (s : State) (u : UnitId) (f : Head → Head) :
    (s.modHead u f).cond = s.cond := rfl
@[simp] theorem State.modHead_link (s : State) (u : UnitId) (f : Head → Head) :
    (s.modHead u f).link = s.link := rfl

/-! ### The beginning of a command -/

@[simp] theorem State.beginAt_pending (s : State) (dt : Nat) : (s.beginAt dt).pending = s.pending := rfl
@[simp] theorem State.beginAt_clock (s : State) (dt : Nat) : (s.beginAt dt).clock = s.clock + dt := rfl
@[simp] theorem State.beginAt_eventNo (s : State) (dt : Nat) : (s.beginAt dt).eventNo = s.eventNo + 1 := rfl
@[simp] theorem State.beginAt_freeNext (s : State) (dt : Nat) : (s.beginAt dt).freeNext = s.freeNext := rfl
@[simp] theorem State.beginAt_powered (s : State) (dt : Nat) : (s.beginAt dt).powered = s.powered := rfl
@[simp] theorem State.beginAt_params (s : State) (dt : Nat) : (s.beginAt dt).params = s.params := rfl
@[simp] theorem State.beginAt_store (s : State) (dt : Nat) : (s.beginAt dt).store = s.store := rfl
@[simp] theorem State.beginAt_count (s : State) (dt : Nat) : (s.beginAt dt).count = s.count := rfl
@[simp] theorem State.beginAt_pos (s : State) (dt : Nat) : (s.beginAt dt).pos = s.pos := rfl
@[simp] theorem State.beginAt_seg (s : State) (dt : Nat) : (s.beginAt dt).seg = s.seg := rfl
@[simp] theorem State.beginAt_slp (s : State) (dt : Nat) : (s.beginAt dt).slp = s.slp := rfl
@[simp] theorem State.beginAt_eng (s : State) (dt : Nat) : (s.beginAt dt).eng = s.eng := rfl
@[simp] theorem State.beginAt_axes (s : State) (dt : Nat) : (s.beginAt dt).axes = s.axes := rfl
@[simp] theorem State.beginAt_heads (s : State) (dt : Nat) : (s.beginAt dt).heads = s.heads := rfl
@[simp] theorem State.beginAt_headSet (s : State) (dt : Nat) : (s.beginAt dt).headSet = s.headSet := rfl
@[simp] theorem State.beginAt_cyc (s : State) (dt : Nat) : (s.beginAt dt).cyc = s.cyc := rfl
@[simp] theorem State.beginAt_cond (s : State) (dt : Nat) : (s.beginAt dt).cond = s.cond := rfl
@[simp] theorem State.beginAt_link (s : State) (dt : Nat) : (s.beginAt dt).link = s.link := rfl

@[simp] theorem State.beginBy_pending (s : State) (t : Nat) : (s.beginBy t).pending = s.pending := rfl
@[simp] theorem State.beginBy_clock (s : State) (t : Nat) : (s.beginBy t).clock = max s.clock t := rfl
@[simp] theorem State.beginBy_eventNo (s : State) (t : Nat) : (s.beginBy t).eventNo = s.eventNo + 1 := rfl
@[simp] theorem State.beginBy_freeNext (s : State) (t : Nat) : (s.beginBy t).freeNext = s.freeNext := rfl
@[simp] theorem State.beginBy_powered (s : State) (t : Nat) : (s.beginBy t).powered = s.powered := rfl
@[simp] theorem State.beginBy_params (s : State) (t : Nat) : (s.beginBy t).params = s.params := rfl
@[simp] theorem State.beginBy_store (s : State) (t : Nat) : (s.beginBy t).store = s.store := rfl
@[simp] theorem State.beginBy_count (s : State) (t : Nat) : (s.beginBy t).count = s.count := rfl
@[simp] theorem State.beginBy_pos (s : State) (t : Nat) : (s.beginBy t).pos = s.pos := rfl
@[simp] theorem State.beginBy_seg (s : State) (t : Nat) : (s.beginBy t).seg = s.seg := rfl
@[simp] theorem State.beginBy_slp (s : State) (t : Nat) : (s.beginBy t).slp = s.slp := rfl
@[simp] theorem State.beginBy_eng (s : State) (t : Nat) : (s.beginBy t).eng = s.eng := rfl
@[simp] theorem State.beginBy_axes (s : State) (t : Nat) : (s.beginBy t).axes = s.axes := rfl
@[simp] theorem State.beginBy_heads (s : State) (t : Nat) : (s.beginBy t).heads = s.heads := rfl
@[simp] theorem State.beginBy_headSet (s : State) (t : Nat) : (s.beginBy t).headSet = s.headSet := rfl
@[simp] theorem State.beginBy_cyc (s : State) (t : Nat) : (s.beginBy t).cyc = s.cyc := rfl
@[simp] theorem State.beginBy_cond (s : State) (t : Nat) : (s.beginBy t).cond = s.cond := rfl
@[simp] theorem State.beginBy_link (s : State) (t : Nat) : (s.beginBy t).link = s.link := rfl

/-! ### One of four, one of three -/

@[simp] theorem Four.get_set {α : Type} (x : Four α) (u : UnitId) (v : α) : (x.set u v).get u = v := by
  cases u <;> rfl

theorem Four.get_set_ne {α : Type} (x : Four α) {u w : UnitId} (v : α) (h : w ≠ u) :
    (x.set u v).get w = x.get w := by
  cases u <;> cases w <;> first | rfl | exact absurd rfl h

@[simp] theorem Three.get_set {α : Type} (x : Three α) (a : AxisId) (v : α) : (x.set a v).get a = v := by
  cases a <;> rfl

theorem Three.get_set_ne {α : Type} (x : Three α) {a b : AxisId} (v : α) (h : b ≠ a) :
    (x.set a v).get b = x.get b := by
  cases a <;> cases b <;> first | rfl | exact absurd rfl h

@[simp] theorem Four.set_get {α : Type} (x : Four α) (u : UnitId) : x.set u (x.get u) = x := by
  cases u <;> rfl

@[simp] theorem Three.set_get {α : Type} (x : Three α) (a : AxisId) : x.set a (x.get a) = x := by
  cases a <;> rfl

/-! ### One channel -/

@[simp] theorem CountUnit.get_set (q : CountUnit) (c : ChannelId) (v : Channel) : (q.set c v).get c = v := by
  cases c with
  | dep u => exact Four.get_set q.depth u v
  | odo => rfl
  | sat => rfl
  | lat => rfl
  | lvlL => rfl
  | lvlR => rfl
  | xl => rfl

theorem CountUnit.get_set_ne (q : CountUnit) {c d : ChannelId} (v : Channel) (h : d ≠ c) :
    (q.set c v).get d = q.get d := by
  cases c <;> cases d <;> first
    | rfl
    | exact absurd rfl h
    | exact Four.get_set_ne q.depth v fun e => h (congrArg ChannelId.dep e)

@[simp] theorem CountUnit.set_detector (q : CountUnit) (c : ChannelId) (v : Channel) :
    (q.set c v).detector = q.detector := by cases c <;> rfl

@[simp] theorem CountUnit.set_pressure (q : CountUnit) (c : ChannelId) (v : Channel) :
    (q.set c v).pressure = q.pressure := by cases c <;> rfl

@[simp] theorem CountUnit.set_set (q : CountUnit) (c : ChannelId) (v w : Channel) :
    (q.set c v).set c w = q.set c w := by
  cases c with
  | dep u => cases u <;> rfl
  | odo => rfl
  | sat => rfl
  | lat => rfl
  | lvlL => rfl
  | lvlR => rfl
  | xl => rfl

end Sys2Proof.Machine
end

