-- ==== Sys2Proof/Laws/Kept.lean ====
section
/-! SUPPORT. What the blocks leave alone when they follow an event: for each operation of the blocks one
lemma that says once what it does not touch. -/

namespace Sys2Proof.Machine

/-- What no block changes on its own: the queue of commands, the clock, power, the parameters and the store,
the count unit, the head set, the datum and the direction, the enable sets, the reset cause, and the port
but for its three notice slots. -/
structure Fixed where
  pending : List Instr
  clock : Nat
  eventNo : Nat
  powered : Bool
  params : Params
  store : Store
  count : CountUnit
  headSet : UnitSet
  datum : Int
  countAtDatum : Int
  direction : Direction
  notice : FlagSet
  stop : FlagSet
  resetCause : ResetCause
  assembler : Assembler
  lastByte : Nat
  hold : Bool
  requests : List QueuedRequest
  replies : List Reply
  full : List (Byte × Byte)
  tx : Option Transmission
  restart : Bool
  supervision : Option Timer

/-- Which sleeper records are held, by number, chainage and plan, with the high-water chainage, the next
number, and the staying marker. -/
structure Roster where
  records : List (Nat × Int × Option Plan)
  highWater : Option Int
  nextSeq : Nat
  staying : Bool

/-- What an operation of the blocks keeps where no record enters. -/
structure Kept where
  fixed : Fixed
  roster : Roster

/-- The part of a state that its blocks leave alone. -/
def State.fixedPart (s : State) : Fixed where
  pending := s.pending
  clock := s.clock
  eventNo := s.eventNo
  powered := s.powered
  params := s.params
  store := s.store
  count := s.count
  headSet := s.headSet
  datum := s.pos.datum
  countAtDatum := s.pos.countAtDatum
  direction := s.pos.direction
  notice := s.cond.notice
  stop := s.cond.stop
  resetCause := s.cyc.resetCause
  assembler := s.link.assembler
  lastByte := s.link.lastByte
  hold := s.link.hold
  requests := s.link.requests
  replies := s.link.replies
  full := s.link.full
  tx := s.link.tx
  restart := s.link.restart
  supervision := s.link.supervision

/-- The roster of a state. -/
def State.rosterPart (s : State) : Roster where
  records := s.slp.records.map fun r => (r.seq, r.chainage, r.plan)
  highWater := s.slp.highWater
  nextSeq := s.slp.nextSeq
  staying := s.slp.staying

/-- Both parts of a state. -/
def State.kept (s : State) : Kept := ⟨s.fixedPart, s.rosterPart⟩

/-! ### From the parts to the fields -/

section fields
variable {s t : State}

theorem Kept.fixed_eq (h : t.kept = s.kept) : t.kept.fixed = s.kept.fixed := congrArg Kept.fixed h

theorem pending_of_fixed (h : t.kept.fixed = s.kept.fixed) : t.pending = s.pending := congrArg Fixed.pending h

theorem clock_of_fixed (h : t.kept.fixed = s.kept.fixed) : t.clock = s.clock := congrArg Fixed.clock h

theorem eventNo_of_fixed (h : t.kept.fixed = s.kept.fixed) : t.eventNo = s.eventNo := congrArg Fixed.eventNo h

theorem powered_of_fixed (h : t.kept.fixed = s.kept.fixed) : t.powered = s.powered := congrArg Fixed.powered h

theorem params_of_fixed (h : t.kept.fixed = s.kept.fixed) : t.params = s.params := congrArg Fixed.params h

theorem store_of_fixed (h : t.kept.fixed = s.kept.fixed) : t.store = s.store := congrArg Fixed.store h

theorem count_of_fixed (h : t.kept.fixed = s.kept.fixed) : t.count = s.count := congrArg Fixed.count h

theorem headSet_of_fixed (h : t.kept.fixed = s.kept.fixed) : t.headSet = s.headSet := congrArg Fixed.headSet h

theorem datum_of_fixed (h : t.kept.fixed = s.kept.fixed) : t.pos.datum = s.pos.datum := congrArg Fixed.datum h

theorem countAtDatum_of_fixed (h : t.kept.fixed = s.kept.fixed) : t.pos.countAtDatum = s.pos.countAtDatum := congrArg Fixed.countAtDatum h

theorem direction_of_fixed (h : t.kept.fixed = s.kept.fixed) : t.pos.direction = s.pos.direction := congrArg Fixed.direction h

theorem notice_of_fixed (h : t.kept.fixed = s.kept.fixed) : t.cond.notice = s.cond.notice := congrArg Fixed.notice h

theorem stop_of_fixed (h : t.kept.fixed = s.kept.fixed) : t.cond.stop = s.cond.stop := congrArg Fixed.stop h

theorem resetCause_of_fixed (h : t.kept.fixed = s.kept.fixed) : t.cyc.resetCause = s.cyc.resetCause := congrArg Fixed.resetCause h

theorem assembler_of_fixed (h : t.kept.fixed = s.kept.fixed) : t.link.assembler = s.link.assembler := congrArg Fixed.assembler h

theorem lastByte_of_fixed (h : t.kept.fixed = s.kept.fixed) : t.link.lastByte = s.link.lastByte := congrArg Fixed.lastByte h

theorem hold_of_fixed (h : t.kept.fixed = s.kept.fixed) : t.link.hold = s.link.hold := congrArg Fixed.hold h

theorem requests_of_fixed (h : t.kept.fixed = s.kept.fixed) : t.link.requests = s.link.requests := congrArg Fixed.requests h

theorem replies_of_fixed (h : t.kept.fixed = s.kept.fixed) : t.link.replies = s.link.replies := congrArg Fixed.replies h

theorem full_of_fixed (h : t.kept.fixed = s.kept.fixed) : t.link.full = s.link.full := congrArg Fixed.full h

theorem tx_of_fixed (h : t.kept.fixed = s.kept.fixed) : t.link.tx = s.link.tx := congrArg Fixed.tx h

theorem restart_of_fixed (h : t.kept.fixed = s.kept.fixed) : t.link.restart = s.link.restart := congrArg Fixed.restart h

theorem supervision_of_fixed (h : t.kept.fixed = s.kept.fixed) : t.link.supervision = s.link.supervision := congrArg Fixed.supervision h

theorem records_length_of_kept (h : t.kept = s.kept) : t.slp.records.length = s.slp.records.length := by
  simpa [State.kept, State.rosterPart] using congrArg (fun k => k.roster.records.length) h

theorem nextSeq_of_kept (h : t.kept = s.kept) : t.slp.nextSeq = s.slp.nextSeq := congrArg (·.roster.nextSeq) h

theorem highWater_of_kept (h : t.kept = s.kept) : t.slp.highWater = s.slp.highWater :=
  congrArg (·.roster.highWater) h

theorem staying_of_kept (h : t.kept = s.kept) : t.slp.staying = s.slp.staying :=
  congrArg (·.roster.staying) h

theorem chainages_of_kept (h : t.kept = s.kept) :
    t.slp.records.map (·.chainage) = s.slp.records.map (·.chainage) := by
  have := congrArg (fun k => k.roster.records.map fun x => x.2.1) h
  simpa [State.kept, State.rosterPart, Function.comp_def] using this

end fields

/-! ### Updates of one block -/

@[simp] theorem modSeg_kept (s : State) (f : SegmentQueue → SegmentQueue) : (s.modSeg f).kept = s.kept := rfl

@[simp] theorem modEng_kept (s : State) (f : Engine → Engine) : (s.modEng f).kept = s.kept := rfl

@[simp] theorem modAxis_kept (s : State) (a : AxisId) (f : Axis → Axis) : (s.modAxis a f).kept = s.kept := rfl

@[simp] theorem modHead_kept (s : State) (u : UnitId) (f : Head → Head) : (s.modHead u f).kept = s.kept := rfl

@[simp] theorem modPos_kept (s : State) (f : Position → Position) (hd : (f s.pos).datum = s.pos.datum)
    (hc : (f s.pos).countAtDatum = s.pos.countAtDatum) (hr : (f s.pos).direction = s.pos.direction) :
    (s.modPos f).kept = s.kept := by
  simp only [State.kept, State.fixedPart, State.modPos_pos, hd, hc, hr]
  rfl

@[simp] theorem modCyc_kept (s : State) (f : Cycle → Cycle) (h : (f s.cyc).resetCause = s.cyc.resetCause) :
    (s.modCyc f).kept = s.kept := by
  simp only [State.kept, State.fixedPart, State.modCyc_cyc, h]
  rfl

@[simp] theorem modCond_kept (s : State) (f : Conditions → Conditions) (hn : (f s.cond).notice = s.cond.notice)
    (hs : (f s.cond).stop = s.cond.stop) : (s.modCond f).kept = s.kept := by
  simp only [State.kept, State.fixedPart, State.modCond_cond, hn, hs]
  rfl

@[simp] theorem modSlp_fixed (s : State) (f : SleeperQueue → SleeperQueue) :
    (s.modSlp f).kept.fixed = s.kept.fixed := rfl

@[simp] theorem freeOrder_kept (s : State) : s.freeOrder.2.kept = s.kept := rfl

/-- A fold of operations that keep both parts keeps them. -/
@[simp] theorem foldl_kept {α : Type} (f : State → α → State) (h : ∀ s x, (f s x).kept = s.kept)
    (l : List α) (s : State) : (l.foldl f s).kept = s.kept := by
  induction l generalizing s with
  | nil => rfl
  | cons x xs ih => rw [List.foldl_cons, ih, h]

/-- A fold of operations that keep the fixed part keeps it. -/
@[simp] theorem foldl_fixed {α : Type} (f : State → α → State) (h : ∀ s x, (f s x).kept.fixed = s.kept.fixed)
    (l : List α) (s : State) : (l.foldl f s).kept.fixed = s.kept.fixed := by
  induction l generalizing s with
  | nil => rfl
  | cons x xs ih => rw [List.foldl_cons, ih, h]

/-- A change of the sleeper records that keeps each one's number, chainage and plan keeps both parts. -/
theorem mapRecords_kept (s : State) (q : SleeperQueue → SleeperQueue)
    (hr : (q s.slp).records.map (fun r => (r.seq, r.chainage, r.plan))
      = s.slp.records.map fun r => (r.seq, r.chainage, r.plan))
    (hh : (q s.slp).highWater = s.slp.highWater) (hn : (q s.slp).nextSeq = s.slp.nextSeq)
    (hs : (q s.slp).staying = s.slp.staying) : (s.modSlp q).kept = s.kept := by
  simp only [State.kept, State.rosterPart, State.modSlp_slp, hr, hh, hn, hs]
  rfl

/-! ### Machine/Flags.lean -/

@[simp] theorem fillCondition_kept (f : Flag) (s : State) :
    (fillCondition f s).kept = s.kept := rfl

@[simp] theorem armStop_kept (f : Flag) (s : State) :
    (armStop f s).kept = s.kept := by
  unfold armStop
  try dsimp only
  repeat' split
  all_goals simp

@[simp] theorem setFlag_kept (f : Flag) (s : State) :
    (setFlag f s).kept = s.kept := by
  unfold setFlag
  try dsimp only
  repeat' split
  all_goals simp

@[simp] theorem addRecordFlag_kept (f : Flag) (s : State) :
    (addRecordFlag f s).kept = s.kept := by
  refine mapRecords_kept s _ ?_ rfl rfl rfl
  simp only [List.map_map]
  exact List.map_congr_left fun r _ => by dsimp only [Function.comp]; split <;> rfl

@[simp] theorem recordFlag_kept (f : Flag) (s : State) :
    (recordFlag f s).kept = s.kept := by
  unfold recordFlag
  try dsimp only
  all_goals simp

/-! ### Machine/Position.lean -/

@[simp] theorem refreshOutput_kept (s : State) :
    (refreshOutput s).kept = s.kept := rfl

@[simp] theorem refreshDemand_kept (s : State) :
    (refreshDemand s).kept = s.kept := by
  unfold refreshDemand
  try dsimp only
  repeat' split
  all_goals simp

@[simp] theorem rideDrive_kept (s : State) :
    (rideDrive s).kept = s.kept := by
  unfold rideDrive
  try dsimp only
  all_goals simp

@[simp] theorem enterHolding_kept (t o : Int) (s : State) :
    (enterHolding t o s).1.kept = s.kept := by
  unfold enterHolding
  try dsimp only
  all_goals simp

@[simp] theorem indexOrder_kept (t : Int) (s : State) :
    (indexOrder t s).1.kept = s.kept := by
  unfold indexOrder
  try dsimp only
  repeat' split
  all_goals simp

@[simp] theorem holdingReports_kept (lost atEnd : Bool) (s : State) :
    (holdingReports lost atEnd s).1.kept = s.kept := by
  unfold holdingReports
  try dsimp only
  repeat' split
  all_goals simp

@[simp] theorem redetermine_kept (s : State) :
    (redetermine s).1.kept = s.kept := by
  unfold redetermine
  try dsimp only
  repeat' split
  all_goals simp

/-! ### Machine/Axes.lean -/

@[simp] theorem measureOvershoot_kept (a : AxisId) (s : State) :
    (measureOvershoot a s).kept = s.kept := by
  unfold measureOvershoot
  try dsimp only
  repeat' split
  all_goals simp

@[simp] theorem enterHold_kept (a : AxisId) (outcome : AxisOutcome) (s : State) :
    (enterHold a outcome s).kept = s.kept := by
  unfold enterHold
  try dsimp only
  all_goals simp

@[simp] theorem prepareAxis_kept (a : AxisId) (s : State) :
    (prepareAxis a s).kept = s.kept := by
  unfold prepareAxis
  try dsimp only
  all_goals simp

@[simp] theorem enterDriving_kept (a : AxisId) (dir : Option LineDir) (s : State) :
    (enterDriving a dir s).kept = s.kept := by
  unfold enterDriving
  try dsimp only
  all_goals simp

@[simp] theorem startAxis_kept (a : AxisId) (vt : Int) (s : State) :
    (startAxis a vt s).kept = s.kept := by
  unfold startAxis
  try dsimp only
  repeat' split
  all_goals simp

@[simp] theorem judgeReversal_kept (a : AxisId) (dir : LineDir) (s : State) :
    (judgeReversal a dir s).kept = s.kept := by
  unfold judgeReversal
  try dsimp only
  repeat' split
  all_goals simp

@[simp] theorem judgeAxis_kept (a : AxisId) (s : State) :
    (judgeAxis a s).kept = s.kept := by
  unfold judgeAxis
  try dsimp only
  repeat' split
  all_goals simp

@[simp] theorem timeOutAxis_kept (a : AxisId) (s : State) :
    (timeOutAxis a s).kept = s.kept := by
  unfold timeOutAxis
  try dsimp only
  repeat' split
  all_goals simp

@[simp] theorem cutAxis_kept (a : AxisId) (s : State) :
    (cutAxis a s).kept = s.kept := by
  unfold cutAxis
  try dsimp only
  repeat' split
  all_goals simp

@[simp] theorem finishRelease_kept (a : AxisId) (s : State) :
    (finishRelease a s).kept = s.kept := by
  unfold finishRelease
  try dsimp only
  all_goals simp

@[simp] theorem takeRelease_kept (a : AxisId) (s : State) :
    (takeRelease a s).kept = s.kept := by
  unfold takeRelease
  try dsimp only
  repeat' split
  all_goals simp

@[simp] theorem releaseAxis_kept (a : AxisId) (s : State) :
    (releaseAxis a s).kept = s.kept := by
  unfold releaseAxis
  try dsimp only
  repeat' split
  all_goals simp

@[simp] theorem releaseAxes_kept (s : State) :
    (releaseAxes s).kept = s.kept := by
  unfold releaseAxes
  try dsimp only
  all_goals simp

@[simp] theorem settleReleases_kept (s : State) :
    (settleReleases s).kept = s.kept := by
  unfold settleReleases
  split
  · rfl
  · exact foldl_kept _ (fun s x => by split <;> simp) _ _

/-! ### Machine/Workheads.lean -/

@[simp] theorem enterOpening_kept (u : UnitId) (s : State) :
    (enterOpening u s).kept = s.kept := by
  unfold enterOpening
  try dsimp only
  all_goals simp

@[simp] theorem endPhase_kept (u : UnitId) (s : State) :
    (endPhase u s).kept = s.kept := by
  unfold endPhase
  try dsimp only
  repeat' split
  all_goals simp

@[simp] theorem seePressure_kept (u : UnitId) (s : State) :
    (seePressure u s).kept = s.kept := by
  unfold seePressure
  try dsimp only
  repeat' split
  all_goals simp

@[simp] theorem enterSqueezing_kept (u : UnitId) (s : State) :
    (enterSqueezing u s).kept = s.kept := by
  unfold enterSqueezing
  try dsimp only
  repeat' split
  all_goals simp

@[simp] theorem judgeGate_kept (u : UnitId) (s : State) :
    (judgeGate u s).kept = s.kept := by
  unfold judgeGate
  try dsimp only
  repeat' split
  all_goals simp

@[simp] theorem openGate_kept (s : State) :
    (openGate s).kept = s.kept := by
  unfold openGate
  try dsimp only
  all_goals simp

@[simp] theorem enterInserted_kept (u : UnitId) (s : State) :
    (enterInserted u s).kept = s.kept := by
  unfold enterInserted
  try dsimp only
  all_goals simp

@[simp] theorem judgeLowering_kept (u : UnitId) (s : State) :
    (judgeLowering u s).kept = s.kept := by
  unfold judgeLowering
  try dsimp only
  repeat' split
  all_goals simp

@[simp] theorem enterLowering_kept (u : UnitId) (s : State) :
    (enterLowering u s).kept = s.kept := by
  unfold enterLowering
  try dsimp only
  all_goals simp

@[simp] theorem enterTilting_kept (u : UnitId) (tilted : Bool) (s : State) :
    (enterTilting u tilted s).kept = s.kept := by
  unfold enterTilting
  try dsimp only
  all_goals simp

@[simp] theorem takeLower_kept (u : UnitId) (p : HeadPlan) (s : State) :
    (takeLower u p s).kept = s.kept := by
  unfold takeLower
  try dsimp only
  repeat' split
  all_goals simp

@[simp] theorem enterUp_kept (u : UnitId) (s : State) :
    (enterUp u s).kept = s.kept := by
  unfold enterUp
  try dsimp only
  repeat' split
  all_goals simp

@[simp] theorem judgeRaising_kept (u : UnitId) (s : State) :
    (judgeRaising u s).kept = s.kept := by
  unfold judgeRaising
  try dsimp only
  repeat' split
  all_goals simp

@[simp] theorem enterRaising_kept (u : UnitId) (s : State) :
    (enterRaising u s).kept = s.kept := by
  unfold enterRaising
  try dsimp only
  all_goals simp

@[simp] theorem enterBlind_kept (u : UnitId) (s : State) :
    (enterBlind u s).kept = s.kept := by
  unfold enterBlind
  try dsimp only
  all_goals simp

@[simp] theorem enterFaulted_kept (u : UnitId) (s : State) :
    (enterFaulted u s).kept = s.kept := by
  unfold enterFaulted
  try dsimp only
  all_goals simp

@[simp] theorem markFaulted_kept (u : UnitId) (s : State) :
    (markFaulted u s).kept = s.kept := by
  unfold markFaulted
  try dsimp only
  all_goals simp

@[simp] theorem loseDepth_kept (u : UnitId) (s : State) :
    (loseDepth u s).kept = s.kept := by
  unfold loseDepth
  try dsimp only
  repeat' split
  all_goals simp

@[simp] theorem deepen_kept (u : UnitId) (s : State) :
    (deepen u s).kept = s.kept := by
  unfold deepen
  try dsimp only
  repeat' split
  all_goals simp

@[simp] theorem changeDepth_kept (u : UnitId) (s : State) :
    (changeDepth u s).kept = s.kept := by
  unfold changeDepth
  try dsimp only
  repeat' split
  all_goals simp

@[simp] theorem arrivalOrder_kept (u : UnitId) (plan : Option HeadPlan) (s : State) :
    (arrivalOrder u plan s).kept = s.kept := by
  unfold arrivalOrder
  try dsimp only
  repeat' split
  all_goals simp

@[simp] theorem abortHead_kept (u : UnitId) (s : State) :
    (abortHead u s).kept = s.kept := by
  unfold abortHead
  try dsimp only
  repeat' split
  all_goals simp

@[simp] theorem abortHeads_kept (s : State) :
    (abortHeads s).kept = s.kept := by
  unfold abortHeads
  try dsimp only
  all_goals simp

@[simp] theorem endTilt_kept (u : UnitId) (s : State) :
    (endTilt u s).kept = s.kept := by
  unfold endTilt
  try dsimp only
  repeat' split
  all_goals simp

@[simp] theorem blockHead_kept (u : UnitId) (s : State) :
    (blockHead u s).kept = s.kept := by
  unfold blockHead
  try dsimp only
  all_goals simp

@[simp] theorem endOpening_kept (u : UnitId) (s : State) :
    (endOpening u s).kept = s.kept := by
  unfold endOpening
  try dsimp only
  repeat' split
  all_goals simp

@[simp] theorem enterStuck_kept (u : UnitId) (s : State) :
    (enterStuck u s).kept = s.kept := by
  unfold enterStuck
  try dsimp only
  all_goals simp

@[simp] theorem endParking_kept (u : UnitId) (s : State) :
    (endParking u s).kept = s.kept := by
  unfold endParking
  try dsimp only
  repeat' split
  all_goals simp

@[simp] theorem restoreHead_kept (u : UnitId) (s : State) :
    (restoreHead u s).kept = s.kept := by
  unfold restoreHead
  try dsimp only
  repeat' split
  all_goals simp

/-! ### Machine/Records.lean -/

@[simp] theorem modRecord_kept (seq : Nat) (f : Sleeper → Sleeper) (s : State)
    (h : ∀ r, (f r).seq = r.seq ∧ (f r).chainage = r.chainage ∧ (f r).plan = r.plan) :
    (modRecord seq f s).kept = s.kept := by
  refine mapRecords_kept s _ ?_ rfl rfl rfl
  simp only [List.map_map]
  refine List.map_congr_left fun r _ => ?_
  dsimp only [Function.comp]
  split
  · rw [(h r).1, (h r).2.1, (h r).2.2]
  · rfl

/-! ### Machine/Halts.lean -/

@[simp] theorem fillMode_kept (s : State) :
    (fillMode s).kept = s.kept := rfl

@[simp] theorem enterMode_kept (m : Mode) (s : State) :
    (enterMode m s).kept = s.kept := by
  unfold enterMode
  simp only [refreshDemand_kept, fillMode_kept]
  rw [modSeg_kept, mapRecords_kept, modCond_kept, modCyc_kept]
  all_goals first | rfl | (split <;> rfl)

@[simp] theorem haltOrders_kept (s : State) :
    (haltOrders s).kept = s.kept := by
  unfold haltOrders
  try dsimp only
  all_goals simp

@[simp] theorem enterHalted_kept (cause : HaltCause) (detail : Option Detail) (s : State) :
    (enterHalted cause detail s).kept = s.kept := by
  unfold enterHalted
  try dsimp only
  all_goals simp

@[simp] theorem orderlyHalt_kept (f : Flag) (s : State) :
    (orderlyHalt f s).kept = s.kept := by
  unfold orderlyHalt
  try dsimp only
  all_goals simp

@[simp] theorem actOnStop_kept (s : State) :
    (actOnStop s).kept = s.kept := by
  unfold actOnStop
  try dsimp only
  repeat' split
  all_goals simp

@[simp] theorem setPhase_kept (p : Phase) (s : State) :
    (setPhase p s).kept = s.kept := by
  unfold setPhase
  try dsimp only
  all_goals simp

@[simp] theorem raiseFlag_kept (f : Flag) (s : State) :
    (raiseFlag f s).kept = s.kept := by
  unfold raiseFlag
  try dsimp only
  all_goals simp

/-! ### Machine/Segments.lean -/

@[simp] theorem retireSegments_kept (s : State) :
    (retireSegments s).kept = s.kept := by
  unfold retireSegments
  try dsimp only
  all_goals simp

@[simp] theorem fillWanted_kept (s : State) :
    (fillWanted s).kept = s.kept := rfl

@[simp] theorem judgeLookAhead_kept (appended : Bool) (s : State) :
    (judgeLookAhead appended s).kept = s.kept := by
  unfold judgeLookAhead
  try dsimp only
  repeat' split
  all_goals simp

@[simp] theorem judgeStarved_kept (s : State) :
    (judgeStarved s).kept = s.kept := by
  unfold judgeStarved
  try dsimp only
  repeat' split
  all_goals simp

@[simp] theorem judgeSegments_kept (s : State) :
    (judgeSegments s).kept = s.kept := by
  unfold judgeSegments
  try dsimp only
  all_goals simp

@[simp] theorem consumeBearer_kept (c : Int) (s : State) :
    (consumeBearer c s).kept = s.kept := by
  unfold consumeBearer
  try dsimp only
  all_goals simp

/-! ### Machine/Engine.lean -/

@[simp] theorem beginDesign_kept (r : Sleeper) (s : State) :
    (beginDesign r s).kept = s.kept := by
  unfold beginDesign
  try dsimp only
  all_goals simp

@[simp] theorem beginTarget_kept (req : TargetRequest) (s : State) :
    (beginTarget req s).kept = s.kept := by
  unfold beginTarget
  try dsimp only
  repeat' split
  all_goals simp

@[simp] theorem returnToSeek_kept (s : State) :
    (returnToSeek s).kept = s.kept := by
  unfold returnToSeek
  try dsimp only
  all_goals simp

@[simp] theorem noCoverSkip_kept (r : Sleeper) (s : State) :
    (noCoverSkip r s).kept = s.kept := by
  unfold noCoverSkip
  try dsimp only
  repeat' split
  all_goals simp

@[simp] theorem engineLoop_kept (n : Nat) (s : State) :
    (engineLoop n s).kept = s.kept := by
  induction n generalizing s with
  | zero => rfl
  | succ n ih =>
    unfold engineLoop
    repeat' split
    all_goals simp [ih]

@[simp] theorem judgeEngine_kept (s : State) :
    (judgeEngine s).kept = s.kept := by
  unfold judgeEngine
  try dsimp only
  all_goals simp

@[simp] theorem abandonDesign_kept (test : DesignPass → Bool) (s : State) :
    (abandonDesign test s).kept = s.kept := rfl

@[simp] theorem withdrawTarget_kept (s : State) :
    (withdrawTarget s).kept = s.kept := rfl

@[simp] theorem requestTarget_kept (req : TargetRequest) (s : State) :
    (requestTarget req s).kept = s.kept := by
  unfold requestTarget
  try dsimp only
  repeat' split
  all_goals simp

/-! ### Machine/Cycle.lean -/

@[simp] theorem abortCurrent_kept (s : State) :
    (abortCurrent s).kept = s.kept := by
  unfold abortCurrent
  try dsimp only
  repeat' split
  all_goals simp

@[simp] theorem hardHalt_kept (cause : HaltCause) (detail : Option Detail) (s : State) :
    (hardHalt cause detail s).kept = s.kept := by
  unfold hardHalt
  try dsimp only
  repeat' split
  all_goals simp

@[simp] theorem skipCurrent_kept (reason : SkipReason) (s : State) :
    (skipCurrent reason s).kept = s.kept := by
  unfold skipCurrent
  try dsimp only
  repeat' split
  all_goals simp

@[simp] theorem arrivalOrders_kept (r : Sleeper) (withPlans : Bool) (s : State) :
    (arrivalOrders r withPlans s).kept = s.kept := by
  unfold arrivalOrders
  try dsimp only
  all_goals simp

@[simp] theorem prepareAxes_kept (s : State) :
    (prepareAxes s).kept = s.kept := by
  unfold prepareAxes
  try dsimp only
  all_goals simp

@[simp] theorem arrival_kept (s : State) :
    (arrival s).kept = s.kept := by
  unfold arrival
  try dsimp only
  repeat' split
  all_goals simp

@[simp] theorem onDriveReport_kept (s : State) (report : DriveReport) :
    (onDriveReport s report).kept = s.kept := by
  unfold onDriveReport
  try dsimp only
  repeat' split
  all_goals simp

@[simp] theorem judgeReach_kept (r : Sleeper) (s : State) :
    (judgeReach r s).kept = s.kept := by
  unfold judgeReach
  try dsimp only
  repeat' split
  all_goals simp

@[simp] theorem selectRecord_kept (r : Sleeper) (s : State) :
    (selectRecord r s).kept = s.kept := by
  unfold selectRecord
  try dsimp only
  repeat' split
  all_goals simp

@[simp] theorem seekOnce_kept (s : State) :
    (seekOnce s).kept = s.kept := by
  unfold seekOnce
  try dsimp only
  repeat' split
  all_goals simp

@[simp] theorem seekLoop_kept (n : Nat) (s : State) :
    (seekLoop n s).kept = s.kept := by
  induction n generalizing s with
  | zero => rfl
  | succ n ih =>
    unfold seekLoop
    split <;> simp [ih]

@[simp] theorem seek_kept (s : State) :
    (seek s).kept = s.kept := by
  unfold seek
  try dsimp only
  all_goals simp

@[simp] theorem reachAgain_kept (s : State) :
    (reachAgain s).kept = s.kept := by
  unfold reachAgain
  try dsimp only
  repeat' split
  all_goals simp

@[simp] theorem afterDrive_kept (p : State × List DriveReport) :
    (afterDrive p).kept = p.1.kept := by
  unfold afterDrive
  try dsimp only
  all_goals simp

@[simp] theorem finishWork_kept (s : State) :
    (finishWork s).kept = s.kept := by
  unfold finishWork
  try dsimp only
  repeat' split
  all_goals simp

@[simp] theorem judgeClearing_kept (s : State) :
    (judgeClearing s).kept = s.kept := by
  unfold judgeClearing
  try dsimp only
  repeat' split
  all_goals simp

@[simp] theorem judgeRelease_kept (s : State) :
    (judgeRelease s).kept = s.kept := by
  unfold judgeRelease
  try dsimp only
  repeat' split
  all_goals simp

@[simp] theorem afterUnit_kept (u : UnitId) (s : State) :
    (afterUnit u s).kept = s.kept := by
  unfold afterUnit
  try dsimp only
  repeat' split
  all_goals simp

@[simp] theorem followUnit_kept (u : UnitId) (before s : State) :
    (followUnit u before s).kept = s.kept := by
  unfold followUnit
  repeat' split
  all_goals simp

@[simp] theorem afterAxis_kept (s : State) :
    (afterAxis s).kept = s.kept := by
  unfold afterAxis
  try dsimp only
  all_goals simp

@[simp] theorem axisChannelLost_kept (c : ChannelId) (s : State) :
    (axisChannelLost c s).kept = s.kept := by
  unfold axisChannelLost
  try dsimp only
  repeat' split
  all_goals simp

/-! ### Machine/Sleepers.lean -/

@[simp] theorem appendRecord_kept (c : Int) (width : Option Int) (source : Source) (plan : Option Plan) (unplanned : Bool) (s : State) :
    (appendRecord c width source plan unplanned s).kept.fixed = s.kept.fixed := rfl

@[simp] theorem afterEntry_fixed (raised : Option Flag) (s : State) :
    (afterEntry raised s).kept.fixed = s.kept.fixed := by
  unfold afterEntry
  try dsimp only
  repeat' split
  all_goals simp

@[simp] theorem enterRecord_fixed (c : Int) (width : Option Int) (source : Source) (plan : Option Plan) (unplanned : Bool) (raised : Option Flag) (s : State) :
    (enterRecord c width source plan unplanned raised s).kept.fixed = s.kept.fixed := by
  unfold enterRecord
  try dsimp only
  all_goals simp

@[simp] theorem judgePlanned_fixed (g : Segment) (b : Bearer) (s : State) :
    (judgePlanned g b s).kept.fixed = s.kept.fixed := by
  unfold judgePlanned
  try dsimp only
  repeat' split
  all_goals simp

@[simp] theorem judgeInTurn_fixed (found : List (Segment × Bearer)) (s : State) :
    (judgeInTurn found s).kept.fixed = s.kept.fixed := by
  exact foldl_fixed _ (fun s x => by split <;> simp) _ _

@[simp] theorem judgePassing_fixed (s : State) :
    (judgePassing s).kept.fixed = s.kept.fixed := by
  unfold judgePassing
  try dsimp only
  repeat' split
  all_goals simp

@[simp] theorem judgeHeld_fixed (s : State) :
    (judgeHeld s).kept.fixed = s.kept.fixed := by
  simp [judgeHeld]

@[simp] theorem enterDetection_fixed (c w : Int) (s : State) :
    (enterDetection c w s).kept.fixed = s.kept.fixed := by
  unfold enterDetection
  try dsimp only
  repeat' split
  all_goals simp

@[simp] theorem judgeDetection_fixed (a d : Int) (s : State) :
    (judgeDetection a d s).kept.fixed = s.kept.fixed := by
  unfold judgeDetection
  try dsimp only
  repeat' split
  all_goals simp

@[simp] theorem closeDetection_fixed (a : Int) (s : State) :
    (closeDetection a s).kept.fixed = s.kept.fixed := by
  unfold closeDetection
  try dsimp only
  all_goals simp

@[simp] theorem abandonDetection_fixed (s : State) :
    (abandonDetection s).kept.fixed = s.kept.fixed := by
  unfold abandonDetection
  try dsimp only
  repeat' split
  all_goals simp

@[simp] theorem detectorEdge_fixed (s : State) :
    (detectorEdge s).kept.fixed = s.kept.fixed := by
  unfold detectorEdge
  try dsimp only
  repeat' split
  all_goals simp

end Sys2Proof.Machine
end

