-- ==== Sys2Proof/Tests/Slice0.lean ====
section
/-! SUPPORT. Tests of the model, one step each, and a witness of the hypotheses of every statement. -/

namespace Sys2Proof.Tests

open Sys2Proof Sys2Proof.Machine

set_option Elab.async false

/-! ## Small states -/

/-- A channel at count 0, nulled with a reference value. -/
def nulledAt (ref : Int) : Channel := { Channel.low with nulled := true, reference := ref }

/-- A unit that is UP with nothing in hand. -/
def upHead : Head := { Head.atReset 3000 0 with state := .up, timer := none }

/-- A controller in READY a second after power-on: units UP, every channel nulled, nothing to send. -/
def calm : State :=
  { State.reset with
    clock := 1000000
    heads := ⟨upHead, upHead, upHead, upHead⟩
    count := ⟨.low, nulledAt 0, nulledAt 0, nulledAt 0, nulledAt 0, nulledAt 0,
      ⟨nulledAt 0, nulledAt 0, nulledAt 0, nulledAt 0⟩, .low, ⟨.low, .low, .low, .low⟩⟩
    cond := ⟨0, 0, 0, none⟩
    link := { State.reset.link with modeSlot := none, segSlot := none, tx := none } }

/-- What holds of the four units holds of every unit. -/
theorem everyUnit {p : UnitId → Prop} (h : p .LO ∧ p .LI ∧ p .RI ∧ p .RO) : ∀ u, p u
  | .LO => h.1
  | .LI => h.2.1
  | .RI => h.2.2.1
  | .RO => h.2.2.2

/-- What holds of the three axes holds of every axis. -/
theorem everyAxis {p : AxisId → Prop} (h : p .liftL ∧ p .liftR ∧ p .line) : ∀ a, p a
  | .liftL => h.1
  | .liftR => h.2.1
  | .line => h.2.2

/-- What `Listens` asks of a port, as one decidable proposition. -/
theorem listening {s : State}
    (h : s.powered = true ∧ s.link.restart = false ∧ s.link.hold = false ∧ s.link.requests.length < 4
      ∧ (∀ q ∈ s.link.requests, q.progress = .replied) ∧ s.link.assembler = .hunt) : s.Listens :=
  ⟨⟨h.1, h.2.1, h.2.2.1, h.2.2.2.1, h.2.2.2.2.1⟩, h.2.2.2.2.2⟩

/-- The same in a mode and phase. -/
def calmIn (m : Mode) (p : Phase) : State := { calm with cyc := { calm.cyc with mode := m, phase := p } }

/-- A state with the head of unit LO changed. -/
def withLO (f : Head → Head) (s : State) : State := s.modHead .LO f

/-- A state with a depth of unit LO. -/
def depthLO (d : Int) (s : State) : State := s.modCount fun c => c.set (.dep .LO) (nulledAt d)

/-- A state with the three axes in one state. -/
def axesIn (x : AxisState) (s : State) : State :=
  { s with axes := ⟨{ Axis.atReset with state := x }, { Axis.atReset with state := x }, { Axis.atReset with state := x }⟩ }

/-- S1, S2 and a planned S3 of the worked case of 03, S3 with its first bearer. -/
def s1 : Segment := ⟨101, 94000, 9000, 0, 0, 0, 0, 0, 0, .left, none, false, []⟩
def s2 : Segment := ⟨102, 103000, 30000, 0, 3000, 0, 0, 0, -900, .left, some ⟨400, 400, -250, -250⟩, false, []⟩
def s3 : Segment := ⟨103, 133000, 40000, 0, 0, 0, 0, 0, 0, .left, none, true, [⟨600, 133600, 15, 0, 1, 0, false⟩]⟩

/-- A record of the default plan. -/
def record (seq : Nat) (c : Int) (st : RecordState) : Sleeper :=
  ⟨seq, c, none, .detected, none, st, false, 0, if st = .queued then none else some ⟨1242, 0, -540, .left, 400, -250⟩,
    none, none⟩

/-- A design pass in flight for a record far ahead. -/
def farPass : DesignPass := ⟨99, 0, ⟨12000, 4800, 9600, 4800⟩, [], ⟨⟨0, 1⟩, ⟨0, 1⟩, ⟨0, 1⟩, ⟨0, 1⟩⟩⟩

/-- The state with an engine on that pass. -/
def busyEngine (s : State) : State := { s with eng := ⟨.designing farPass, none⟩ }

/-- The state with the given records and the high-water chainage of the last. -/
def holding (l : List Sleeper) (s : State) : State :=
  { s with slp := { s.slp with records := l, highWater := l.getLast?.map (·.chainage) } }

/-- The state with the frame at a chainage in mm. -/
def frameAt (x : Int) (s : State) : State := { s with pos := { s.pos with datum := 1000 * x } }

/-- A phase timer that ends 100 ms after the state's clock. -/
def soon : Timer := ⟨100, 1000000⟩

/-- The next state of a command, where there is one. -/
def after (c : Instr) (s : State) : State :=
  match exec c s with
  | .next t => t
  | _ => s

/-! ## WellFormed: each check refuses an ill-formed term -/

/-- A body of SEGMENT_APPEND that fits (S2 of the worked case of 03). -/
def goodBody : SegmentBody := ⟨102, 30000, 0, 3000, 0, 0, 0, -900, 0, none, some ⟨400, 400, -250, -250⟩, none⟩

theorem test_wf_good : (Instr.segmentAppend 0 1 goodBody).wellFormed = true := by decide
theorem test_wf_chainage : (Instr.setChainage 0 1 2147483648).wellFormed = false := by decide
theorem test_wf_truncate : (Instr.segmentTruncate 0 1 (-2147483649)).wellFormed = false := by decide
theorem test_wf_null_channel : (Instr.nullChannels 0 1 [(256, 0)]).wellFormed = false := by decide
theorem test_wf_null_reference : (Instr.nullChannels 0 1 [(1, 2147483648)]).wellFormed = false := by decide
theorem test_wf_null_count : (Instr.nullChannels 0 1 (List.replicate 48 (1, 0))).wellFormed = false := by
  decide +kernel
theorem test_wf_id : { goodBody with id := 65536 }.fits = false := by decide
theorem test_wf_length : { goodBody with length := 2147483648 }.fits = false := by decide
theorem test_wf_kh0 : { goodBody with kh0 := 32768 }.fits = false := by decide
theorem test_wf_kh1 : { goodBody with kh1 := -32769 }.fits = false := by decide
theorem test_wf_kv0 : { goodBody with kv0 := 32768 }.fits = false := by decide
theorem test_wf_kv1 : { goodBody with kv1 := 32768 }.fits = false := by decide
theorem test_wf_cant0 : { goodBody with cant0 := 32768 }.fits = false := by decide
theorem test_wf_cant1 : { goodBody with cant1 := -32769 }.fits = false := by decide
theorem test_wf_start : { goodBody with start := some 2147483648 }.fits = false := by decide
theorem test_wf_lat0 : { goodBody with survey := some ⟨32768, 0, 0, 0⟩ }.fits = false := by decide
theorem test_wf_lat1 : { goodBody with survey := some ⟨0, 32768, 0, 0⟩ }.fits = false := by decide
theorem test_wf_vert0 : { goodBody with survey := some ⟨0, 0, 32768, 0⟩ }.fits = false := by decide
theorem test_wf_vert1 : { goodBody with survey := some ⟨0, 0, 0, 32768⟩ }.fits = false := by decide
theorem test_wf_offset : { goodBody with bearers := some [⟨4294967296, 0, 0, 1, 0⟩] }.fits = false := by decide
theorem test_wf_insertions : { goodBody with bearers := some [⟨0, 0, 0, 256, 0⟩] }.fits = false := by decide
theorem test_wf_depth : { goodBody with bearers := some [⟨0, 0, 0, 1, 128⟩] }.fits = false := by decide
theorem test_wf_list : { goodBody with bearers := some (List.replicate 27 ⟨0, 0, 0, 1, 0⟩) }.fits = false := by
  decide

/-! ## Values of the spec -/

/-- The CRC of the nine ASCII digits 1 to 9. The value is the published one for the polynomial, start value and
order of R170; the spec itself gives none. -/
theorem test_crc : crc16 [0x31, 0x32, 0x33, 0x34, 0x35, 0x36, 0x37, 0x38, 0x39] = 0x29B1 := by decide +kernel

/-- The pass of record 12 (worked case of 05: entering a transition). -/
def pass12 : DesignPass :=
  ⟨12, 104800, ⟨12000, 4800, 9600, 4800⟩, [s1, s2], designSums ⟨12000, 4800, 9600, 4800⟩ 104800 [s1, s2]⟩

theorem test_design_record12 : designPart pass12 = ⟨1242, 0, -540, .left, 400, -250⟩ := by decide

/-- The chord across three segments (worked case of 05). -/
def threeSegments : List Segment :=
  [⟨201, 190000, 7200, 1000, 1000, 0, 0, -400, -400, .left, none, false, []⟩,
    ⟨202, 197200, 7000, 500, 1200, 200, 200, -400, -1100, .left, none, false, []⟩,
    ⟨203, 204200, 25800, -400, -400, 0, 0, -1100, -1100, .left, some ⟨300, -345, 0, 100⟩, false, []⟩]

theorem test_design_three :
    designPart ⟨1, 200000, ⟨12000, 4800, 9600, 4800⟩, threeSegments,
        designSums ⟨12000, 4800, 9600, 4800⟩ 200000 threeSegments⟩
      = ⟨1402, 337, -6800, .left, 105, 21⟩ := by decide

/-- The target pass of record 12 (worked case of 05). -/
def target12 : TargetPass :=
  ⟨12, ⟨1530, 2210, 1950, -180⟩, ⟨1242, 0, -540, .left, 400, -250⟩, ⟨12000, 4800, 9600, 4800⟩, 1000, 500, 8000, 5000,
    frontCorrection 12000 4800 400, frontCorrection 9600 4800 (-250)⟩

theorem test_target_record12 :
    targetPart target12 = (⟨⟨1530, 2210, 1950, -180⟩, 3293, 3653, 402, 1128, -1083, -1703⟩, []) := by decide

/-- A high spot on a right-hand curve (worked case of 05). -/
def highSpotPass : TargetPass :=
  ⟨1, ⟨-5200, -350, -900, 2400⟩, ⟨-5760, 0, 1500, .right, 0, 0⟩, ⟨12000, 4800, 9600, 4800⟩, 1000, 500, 8000, 500,
    frontCorrection 12000 4800 0, frontCorrection 9600 4800 0⟩

theorem test_target_highSpot :
    targetPart highSpotPass
      = (⟨⟨-5200, -350, -900, 2400⟩, 0, 500, 500, -5700, -350, -1400⟩, [.highSpot, .lineLimit, .cantUnmet]) := by
  decide

/-! ## One step of each command -/

/-- The reply made by a request: its status and content. -/
def replied (c : Instr) (s : State) : Option (Status × List Byte) :=
  (after c s).link.replies.getLast?.map fun r => (r.status, r.content)

theorem test_powerOn_defaults :
    let t := after .powerOn { State.reset with powered := false, params := { Params.defaults with p36 := 10000 } }
    (t.params.p36, t.cyc.mode, flagIn .settingsDefaulted t.cond.flags) = (60000, .ready, true) := by decide +kernel

theorem test_powerFailure_reply_lost :
    (after (.powerFailure 5) { calm with link := { calm.link with replies := [⟨1, 7, .ok, []⟩] } }).link.replies = [] := by
  decide +kernel

theorem test_lineLevelChange_times :
    ((after (.lineLevelChange 5 (.channelA .lat) false) calm).count.lat.a.since, calm.clock) = (some 1000005, 1000000) := by
  decide +kernel

/-- A line of LAT that has been high for the window. -/
def latStep (paired : Bool) : State :=
  calm.modCount fun c =>
    { c with lat := { c.lat with
        a := ⟨false, true, some 999999⟩, b := ⟨false, paired, if paired then some 999999 else none⟩, paired := paired } }

/-- R3: a change of A to high with B low counts up, and R8 gives the reading. -/
theorem test_filterWindowExpiry_counts :
    let t := after (.filterWindowExpiry (.channelA .lat)) (latStep false)
    (t.count.lat.count, reading .lat t, t.clock) = (1, some 1, 1000001) := by decide +kernel

/-- R5: both lines at one instant are a fault, and the count is kept. -/
theorem test_filterWindowExpiry_illegal :
    let t := after (.filterWindowExpiry (.channelA .lat)) (latStep true)
    (t.count.lat.count, t.count.lat.fault, reading .lat t, flagIn .channelFault t.cond.flags)
      = (0, true, none, true) := by decide +kernel

/-- The worked case of 01: 3,251 counts of 200 µm are a depth of 650 mm. -/
theorem test_depth_floor :
    depthOf .LO (calm.modCount fun c => c.set (.dep .LO) { nulledAt 0 with count := 3251 }) = some 650 := by decide

/-- Record 12 waiting for its design pass in PAUSED. -/
def designing12 : State :=
  holding [record 12 104800 .queued] { calmIn .paused .none with eng := ⟨.designing pass12, none⟩ }

theorem test_designPassComplete :
    (after (.designPassComplete 2000) designing12).slp.records = [record 12 104800 .designed] := by decide +kernel

/-- Record 12 at its arrival, with LO lowering (worked cases of 05 and 06). -/
def targeting12 : State :=
  holding [record 12 104800 .inWork]
    { withLO (fun h => { h with state := .lowering, timer := some soon, plan := some ⟨false, 450, 1⟩ }) calm with
      count := { calm.count with lat := nulledAt 1530, lvlL := nulledAt 2210, lvlR := nulledAt 1950, xl := nulledAt (-180) }
      eng := ⟨.targeting target12, none⟩
      cyc := { calm.cyc with mode := .work, phase := .arrived, current := some 12, active := some 15, stopwatch := some 1000000 }
      seg := ⟨[s1, s2, s3], false, false⟩ }

theorem test_targetPassComplete_axes :
    let t := after (.targetPassComplete 500) targeting12
    (t.cyc.phase, t.axes.line.target, t.axes.line.lastDir, t.axes.liftL.target, t.axes.liftR.target)
      = (.working, some 1128, some .left, some (-1083), some (-1703)) := by decide +kernel

/-- LIFT-L of record 12 as its settle timer expires (worked case of 06): overshoot 38, above the deadband. -/
def settlingL : State :=
  { calmIn .work .working with
    count := { calm.count with lvlL := nulledAt (-1121) }
    axes := { calm.axes with liftL := { Axis.atReset with
      state := .moving, stage := some .settling, started := true, target := some (-1083)
      latched := some ⟨30, 4000, 0⟩, motion := some ⟨4000, 0⟩, settle := some ⟨150, 1000000⟩ } } }

theorem test_axisSettleExpiry :
    let t := after (.axisSettleExpiry .liftL) settlingL
    (t.axes.liftL.outcome, t.axes.liftL.overshoot, flagIn .overshoot t.cond.flags, t.clock)
      = (some .reached, some 38, true, 1150000) := by decide +kernel

theorem test_axisMotionTimeout :
    let t := after (.axisMotionTimeout .liftL)
      { settlingL with
        count := { calm.count with lvlL := nulledAt (-835) }
        axes := { settlingL.axes with liftL := { settlingL.axes.liftL with stage := some .driving, settle := none } } }
    (t.axes.liftL.outcome, t.axes.liftL.overshoot, flagIn .liftTimeout t.cond.flags) = (some .timeout, some 0, true) := by
  decide +kernel

/-- Unit LO in a state with its phase timer running and a plan of three insertions to 480 mm. -/
def unitIn' (st : HeadState) : State :=
  withLO (fun h => { h with state := st, timer := some soon, plan := some ⟨true, 480, 3⟩ })
    (depthLO 120 (calmIn .work .arrived))

theorem test_tiltExpiry :
    ((after (.tiltExpiry .LO) (unitIn' .tilting)).heads.LO.state,
      (after (.tiltExpiry .LO) (unitIn' .tilting)).heads.LO.timer) = (.lowering, some ⟨2500, 1100000⟩) := by
  decide +kernel

theorem test_lowerTimeout :
    let t := after (.lowerTimeout .LO) (unitIn' .lowering)
    (t.heads.LO.state, t.heads.LO.report.blocked, flagIn .headBlocked t.cond.flags) = (.raising, true, true) := by
  decide +kernel

theorem test_squeezeTimerExpiry :
    let t := after (.squeezeTimerExpiry .LO) (axesIn .hold (unitIn' .squeezing))
    (t.heads.LO.state, t.heads.LO.report.insertions, flagIn .lowPressure t.cond.flags) = (.opening, 1, true) := by
  decide +kernel

/-- With insertions left and the gate open the unit is through INSERTED and SQUEEZING at one instant. -/
theorem test_openExpiry :
    (after (.openExpiry .LO) (axesIn .hold (unitIn' .opening))).heads.LO.state = .squeezing := by decide +kernel

theorem test_raiseTimeout_stuck :
    let t := after (.raiseTimeout .LO)
      (withLO (fun h => { h with stage := some .normal, latched := some ⟨60, 10⟩ }) (unitIn' .raising))
    (t.heads.LO.stage, t.cyc.mode, t.cyc.cause, t.cyc.detail) = (some .stuck, .halted, .unitStuck, some (.unit .LO)) := by
  decide +kernel

theorem test_blindRaiseExpiry :
    (after (.blindRaiseExpiry .LO) (withLO (fun h => { h with stage := some .blind }) (unitIn' .raising))).heads.LO.state
      = .faulted := by decide +kernel

theorem test_parkingExpiry : (after (.parkingExpiry .LO) State.reset).heads.LO.state = .up := by decide +kernel

theorem test_byteReceived_sync : (after (.byteReceived 10 0xA5 false) calm).link.assembler = .length := by decide +kernel

theorem test_receiveHoldDrop :
    flagIn .linkError (after (.receiveHoldDrop 10 0xA5 false) { calm with link := { calm.link with hold := true } }).cond.flags
      = true := by decide +kernel

/-- LENGTH above 240 discards the frame. -/
theorem test_frameDiscard_length :
    let t := after (.frameDiscard 10 241 false) { calm with link := { calm.link with assembler := .length, lastByte := 1000000 } }
    (t.link.assembler, flagIn .linkError t.cond.flags) = (.hunt, true) := by decide +kernel

/-- The last byte of a HEAD_SET frame with the set LO and LI. -/
theorem test_frameArrival :
    let check := crc16 [1, 0x07, 9, 3]
    (after (.frameArrival 10 (BitVec.ofNat 8 check) false)
      { calm with link := { calm.link with
          assembler := .checkLow 0x07 9 [3] (BitVec.ofNat 8 (check / 256)), lastByte := 1000000 } }).headSet = 3 := by
  decide +kernel

/-- After the start-up MODE notice comes SEGMENTS_WANTED: no queue end, 32 and 192 free, wanted 81,000 (R58). -/
theorem test_transmitEnd_wanted :
    (after .transmitEnd State.reset).link.tx.map (·.bytes)
      = some (frameBytes 0xC2 0 [0x80, 0, 0, 0, 32, 192, 0x00, 0x01, 0x3C, 0x68]) := by decide +kernel

theorem test_supervisionTimeout :
    let t := after .supervisionTimeout
      { calmIn .work .seek with link := { calm.link with supervision := some ⟨1000, 1000000⟩ } }
    (t.cyc.mode, t.cyc.cause, t.pos.demand) = (.halted, .cabSilent, .stop) := by decide +kernel

theorem test_saveComplete :
    replied (.saveComplete 400000 true) (after (.saveSettings 5 10) calm) = some (.ok, []) := by decide +kernel

theorem test_saveSettings_waits :
    let t := after (.saveSettings 5 10) calm
    (t.link.replies, t.store.saving.map (·.length)) = ([], some 158) := by decide +kernel

/-- The STATUS body has 74 bytes and begins with mode, phase and pause-pending. -/
theorem test_status :
    ((replied (.status 5 1) (calmIn .work .seek)).map fun x => (x.1, x.2.length, x.2.take 3)) = some (.ok, 74, [1, 1, 0]) := by
  decide +kernel

/-- A request's frame that comes while another is assembled discards it with LINK_ERROR (R171). -/
theorem test_status_discards :
    let t := after (.status 5 1) { calm with link := { calm.link with assembler := .length } }
    (flagIn .linkError t.cond.flags, t.link.assembler, t.link.replies.length) = (true, .hunt, 1) := by decide +kernel

theorem test_snapshot_length :
    ((replied (.snapshot 5 1) calm).map fun x => x.2.length) = some 91 := by decide +kernel

theorem test_nullChannels_reading :
    reading .lat (after (.nullChannels 5 1 [(2, 50)]) (calm.modCount fun c => { c with lat := { c.lat with count := 12000 } }))
      = some 50 := by decide +kernel

/-- ODO cannot be nulled (R11). -/
theorem test_nullChannels_odo : replied (.nullChannels 5 1 [(0, 0)]) calm = some (.outOfRange, []) := by decide +kernel

/-- The datum of the worked case of 02. -/
def datum100 : State :=
  after (.setChainage 5 1 100000) (calm.modCount fun c => { c with odo := { c.odo with count := 40000 } })

theorem test_setChainage : (frameChainage datum100, detectorChainage datum100) = (100000, 109000) := by decide +kernel

/-- One count backward floors the frame chainage to 99,999. -/
theorem test_odo_back :
    let t := after (.filterWindowExpiry (.channelB .odo))
      (datum100.modCount fun c => { c with odo := { c.odo with b := ⟨false, true, some 1000000⟩ } })
    (frameMicrons t, frameChainage t, t.pos.direction) = (99999500, 99999, .backward) := by decide +kernel

/-- The window of the worked case of 03 with its frame at 90,000. -/
def window : State := frameAt 90000 { calm with seg := ⟨[s1], true, false⟩ }

/-- S2 is appended behind S1: id 102, from 103,000 to 133,000, two segments, 192 free entries. -/
theorem test_segmentAppend :
    replied (.segmentAppend 5 1 goodBody) window
      = some (.ok, [0, 102, 0x00, 0x01, 0x92, 0x58, 0x00, 0x02, 0x07, 0x88, 2, 192]) := by decide +kernel

theorem test_segmentAppend_gap :
    replied (.segmentAppend 5 1 { goodBody with start := some 132000 }) window = some (.segGap, []) := by decide +kernel

/-- The revision of the worked case of 03: end 133,000, one segment removed, one entry freed, one record reverted. -/
theorem test_segmentTruncate :
    replied (.segmentTruncate 5 1 133000)
        (busyEngine (holding [record 1 120400 .designed, record 2 121020 .designed]
          (frameAt 112500 { calm with seg := ⟨[s2, s3], false, false⟩ })))
      = some (.ok, [0x00, 0x02, 0x07, 0x88, 1, 1, 1]) := by decide +kernel

theorem test_headSet_names_other : replied (.headSet 5 1 16) calm = some (.outOfRange, []) := by decide +kernel

/-- The index of the worked case of 02: target 101,550, frame 100,000, offset 800, all units UP. -/
def indexStart : State :=
  holding [record 5 101550 .designed]
    (frameAt 100000 { calm with
      count := { calm.count with sat := nulledAt 800 }
      seg := ⟨[⟨1, 90000, 90000, 0, 0, 0, 0, 0, 0, .left, none, false, []⟩], false, false⟩ })

theorem test_start_indexes :
    let t := after (.start 5 1) indexStart
    (t.cyc.phase, t.pos.drive, t.pos.output) = (.indexing, .indexing, .fwdFast) := by decide +kernel

theorem test_start_notNulled :
    replied (.start 5 1) { calm with count := { calm.count with xl := .low } } = some (.notNulled, []) := by decide +kernel

theorem test_pause_waits :
    let t := after (.pause 5 1) (calmIn .work .working)
    (t.cyc.mode, t.cyc.pausePending) = (.work, true) := by decide +kernel

theorem test_stop : (after (.stop 5 1) (calmIn .paused .none)).cyc.cause = .operator := by decide +kernel

theorem test_clearHalt_busy :
    replied (.clearHalt 5 1) (withLO (fun h => { h with state := .opening }) (calmIn .halted .none)) = some (.busy, []) := by
  decide +kernel

theorem test_jobClear :
    let t := after (.jobClear 5 1) (holding [record 7 100 .designed] { window with slp := { calm.slp with nextSeq := 8 } })
    (t.slp.records, t.slp.nextSeq, t.seg.segments) = ([], 1, []) := by decide +kernel

theorem test_setEnables :
    replied (.setEnables 5 1 0x000001 0x080000) calm = some (.ok, [0, 0, 1, 8, 0, 0]) := by decide +kernel

/-- LINK_ERROR, flag 19, stays where SETTINGS_DEFAULTED, flag 20, is cleared. -/
theorem test_clearFlags :
    replied (.clearFlags 5 1 0x080000) { calm with cond := { calm.cond with flags := 0xC0000#20 } }
      = some (.ok, [4, 0, 0, 1]) := by decide +kernel

/-- P25 below P24 less 50 (the example of R180): 200 is refused for P24 while P25 is 150. -/
theorem test_configure_cross :
    replied (.configure 5 1 24 200) { calm with params := { Params.defaults with p25 := 150 } } = some (.outOfRange, []) := by
  decide +kernel

/-- P05 is changed and frame chainage stays (worked case of 02). -/
theorem test_configure_pitch :
    let t := after (.configure 5 1 5 510) { datum100 with count := { calm.count with odo := { Channel.low with count := 41001 } } }
    (t.pos.datum, frameChainage t) = (100500500, 100500) := by decide +kernel

/-- P34 carries its minimum in the upper two bytes: 150 and 320. -/
theorem test_readParam : replied (.readParam 5 1 34) calm = some (.ok, [34, 0, 150, 1, 64]) := by decide +kernel

theorem test_restart_reset :
    let t := after .transmitEnd (after (.restart 5 1) calm)
    (t.cyc.resetCause, t.heads.LO.state, t.link.requests) = (.restart, .parking, []) := by decide +kernel


/-! ## Witnesses of the hypotheses of the statements -/

/-- A queue with a command at its front, and an empty queue. -/
theorem witness_StepRunsFrontCommand :
    { calm with pending := [.transmitEnd, .powerOn] }.pending = .transmitEnd :: [.powerOn]
        ∧ calm.pending = [] := by
  decide +kernel

/-- A state with two records and two segments in which a command waits, for the invariants. -/
def sound : State :=
  { busyEngine (holding [record 1 120400 .designed, record 2 121020 .designed]
      (frameAt 112500 { calm with seg := ⟨[s2, s3], false, false⟩ })) with
    pending := [.parkingExpiry .LO] }

/-- The default parameters are legal. -/
theorem defaults_legal : Params.defaults.Legal :=
  ⟨by constructor <;> decide, by constructor <;> decide⟩

theorem witness_LegalParametersKept : sound.params.Legal ∧ ∃ t, step sound = .next t := ⟨defaults_legal, _, rfl⟩

theorem witness_BoundsKept : sound.Bounded ∧ sound.HoldTracks ∧ ∃ t, step sound = .next t :=
  ⟨by constructor <;> decide, rfl, _, rfl⟩

/-- Unit LO squeezes with the three axes in HOLD, and unit LI rises with a pending lower. -/
def squeezing : State :=
  { (axesIn .hold (unitIn' .squeezing)).modHead .LI fun h =>
      { h with state := .raising, stage := some .normal, pendingLower := true } with
    pending := [.squeezeTimerExpiry .LO] }

theorem witness_SqueezeNeedsHold :
    squeezing.SqueezesHeld ∧ squeezing.LowersPendRaising ∧ ∃ t, step squeezing = .next t :=
  ⟨fun _ a => by cases a <;> rfl,
    (fun u h => by cases u <;> first | exact ⟨rfl, Or.inl rfl⟩ | cases h), _, rfl⟩

theorem witness_FastNeedsClearHeads :
    ({ after (.start 5 1) indexStart with pending := [.transmitEnd] }).FastIsClear
      ∧ (after (.start 5 1) indexStart).pos.output = .fwdFast
      ∧ ∃ t, step { after (.start 5 1) indexStart with pending := [.transmitEnd] } = .next t :=
  ⟨fun _ u => by cases u <;> decide +kernel, by decide +kernel, _, rfl⟩

theorem witness_DemandStaysCurrent : sound.DemandCurrent ∧ ∃ t, step sound = .next t :=
  ⟨⟨fun _ => rfl, (fun h => by rcases h with h | h <;> cases h), (fun h => by cases h), (fun h => by cases h)⟩, _, rfl⟩

theorem witness_RecordsStaySpaced :
    sound.params.Legal ∧ sound.RecordsSpaced ∧ ∃ t, step sound = .next t :=
  ⟨defaults_legal, ⟨by decide +kernel, fun r h => by have e := Option.some.inj h; subst e; rfl⟩, _, rfl⟩

theorem sound_window : sound.WindowSound :=
  ⟨by decide, fun i g h hg hh => by
      rcases i with _ | i
      · have e := Option.some.inj hg; subst e; have e := Option.some.inj hh; subst e; decide
      · simp [sound, busyEngine, holding, frameAt] at hh,
    by decide, by decide, by decide, by decide, by decide⟩

theorem witness_SegmentWindowKept : sound.WindowSound ∧ ∃ t, step sound = .next t := ⟨sound_window, _, rfl⟩

theorem witness_TransmitterServesAtOnce : sound.LineBusyOrDone ∧ ∃ t, step sound = .next t :=
  ⟨fun _ _ => ⟨rfl, rfl, fun _ => ⟨fun r h => by have e := Option.some.inj h; subst e; rfl, rfl, rfl, rfl⟩⟩, _, rfl⟩

/-- A set flag, and a command that is neither a reset nor a clearing. -/
theorem witness_FlagsStaySet :
    (Instr.stop 5 1 ≠ .powerOn
        ∧ State.reset.link.restart = false
        ∧ flagIn .settingsDefaulted State.reset.cond.flags = true)
      ∧ (∀ dt tag set, Instr.stop 5 1 ≠ .clearFlags dt tag set)
      ∧ (∀ q ∈ State.reset.link.requests, ∀ set, q.request ≠ .clearFlags set)
      ∧ (∀ kind tag body high, State.reset.link.assembler ≠ .checkLow kind tag body high)
      ∧ (∃ t, exec (.stop 5 1) State.reset = .next t) :=
  ⟨by decide +kernel,
    (fun _ _ _ h => by cases h),
    (fun _ h => by cases h),
    (fun _ _ _ _ h => by cases h),
    ⟨_, rfl⟩⟩

/-- The lowest chainage its field holds. -/
theorem witness_RequestReadsBack :
    (Request.setChainage (-2147483648)).fits = true := by
  decide +kernel

/-- A port in HUNT and a body of the greatest length. -/
theorem witness_IntactFrameArrives :
    (List.replicate 240 (0 : Byte)).length ≤ 240
        ∧ calm.link.restart = false
        ∧ calm.link.hold = false
        ∧ calm.link.assembler = .hunt := by
  decide +kernel

/-- The default parameters. -/
theorem witness_SavedImageLoads :
    Params.defaults.Legal :=
  defaults_legal

/-- S2 split 10,000 mm from its start, where its curvature is 1,000. -/
theorem witness_SplitTrackSameVersine :
    (0 : Int) < 12000
        ∧ (0 : Int) < 4800
        ∧ (∀ h ∈ [s1] ++ s2 :: [s3], 0 < h.length)
        ∧ (0 : Int) < 10000
        ∧ 10000 < s2.length
        ∧ 1000 * s2.length = s2.kh0 * s2.length + (s2.kh1 - s2.kh0) * 10000
        ∧ { s2 with length := 10000, kh1 := 1000 }.start = s2.start
        ∧ { s2 with length := 10000, kh1 := 1000 }.length = 10000
        ∧ { s2 with length := 10000, kh1 := 1000 }.kh0 = s2.kh0
        ∧ { s2 with length := 10000, kh1 := 1000 }.kh1 = 1000
        ∧ { s2 with start := 113000, length := 20000, kh0 := 1000 }.start = s2.start + 10000
        ∧ { s2 with start := 113000, length := 20000, kh0 := 1000 }.length = s2.length - 10000
        ∧ { s2 with start := 113000, length := 20000, kh0 := 1000 }.kh0 = 1000
        ∧ { s2 with start := 113000, length := 20000, kh0 := 1000 }.kh1 = s2.kh1 := by
  decide +kernel

/-- The limits of the worked case, in which the shift is held to the positive limit, the grade lift to the least lift and the other lift to 0; readings that hold the shift to the negative limit and both lifts to the lift limit; and the pass of record 12, in which nothing acts. -/
theorem witness_TargetLimitsHold :
    0 ≤ highSpotPass.minLift
        ∧ highSpotPass.minLift ≤ highSpotPass.liftLimit
        ∧ 0 ≤ highSpotPass.shiftLimit
        ∧ (targetPart highSpotPass).1.shift = 500
        ∧ (targetPart highSpotPass).1.liftR = 500
        ∧ (targetPart highSpotPass).1.liftL = 0
        ∧ (targetPart { highSpotPass with readings := ⟨-7000, -350, 12000, -9000⟩ }).1.shift = -500
        ∧ (targetPart { highSpotPass with readings := ⟨-7000, -350, 12000, -9000⟩ }).1.liftR = 8000
        ∧ (targetPart { highSpotPass with readings := ⟨-7000, -350, 12000, -9000⟩ }).1.liftL = 8000
        ∧ (targetPart target12).2 = [] := by
  decide +kernel

/-- Record 12 in S2. -/
theorem witness_DesignCantRounded :
    segmentAt pass12.segments pass12.chainage = some s2
        ∧ 0 < s2.length
        ∧ -2000 ≤ s2.cant0
        ∧ s2.cant0 ≤ 2000
        ∧ -2000 ≤ s2.cant1
        ∧ s2.cant1 ≤ 2000 := by
  decide +kernel

/-- A flag that is set, and one that is clear. -/
theorem witness_RisingFlagActs :
    flagIn .settingsDefaulted State.reset.cond.flags = true
        ∧ flagIn .linkError State.reset.cond.flags = false := by
  decide +kernel

/-- A port with a given part, idle. -/
def portWith (f : Link → Link) : State := { calm with link := f calm.link }

/-- A transmitter that sends; an idle one with a QUEUE_FULL tag, with a reply, with a RESTART waiting, with a finished front record; and slots of one age, of which each is chosen. -/
theorem witness_ArbitrationOrder :
    (State.reset.link.tx ≠ none
        ∧ calm.powered = true
        ∧ calm.link.tx = none
        ∧ (portWith fun l => { l with full := [(1, 2)] }).link.full = (1, 2) :: []
        ∧ (portWith fun l => { l with replies := [⟨1, 2, .ok, []⟩] }).link.replies = ⟨1, 2, .ok, []⟩ :: []
        ∧ calm.link.full = []
        ∧ calm.link.replies = []
        ∧ (portWith fun l => { l with restart := true }).link.restart = true
        ∧ calm.link.restart = false
        ∧ (holding [record 1 5 .done] calm).slp.records = record 1 5 .done :: []
        ∧ (record 1 5 .done).state.finished = true)
      ∧ (∀ r rest, sound.slp.records = r :: rest → r.state.finished = false)
      ∧ (∃ x y z, (portWith fun l => { l with modeSlot := some ⟨⟨.ready, .none, none, .power⟩, 4⟩, condSlot := some ⟨⟨0, 0⟩, 4⟩, segSlot := some ⟨⟨none, 0, 0, 0⟩, 4⟩ }).link.modeSlot = some x ∧ (portWith fun l => { l with condSlot := some ⟨⟨0, 0⟩, 4⟩ }).link.condSlot = some y ∧ (portWith fun l => { l with segSlot := some ⟨⟨none, 0, 0, 0⟩, 4⟩ }).link.segSlot = some z ∧ x.age ≤ y.age ∧ y.age ≤ z.age)
      ∧ (∃ x y z : Nat, x = 5 ∧ y = 4 ∧ z = 3 ∧ y < x ∧ z < y) :=
  ⟨by decide +kernel,
    (fun r rest h => by have e := (List.cons.inj h).1; subst e; rfl),
    ⟨_, _, _, rfl, rfl, rfl, by decide, by decide⟩,
    ⟨5, 4, 3, by decide⟩⟩

/-- A controller without power. -/
theorem witness_PowerOnResets :
    { State.reset with powered := false }.powered = false := by
  decide +kernel

/-- A controller in which a save is being taken. -/
def saving : State := after (.saveSettings 5 10) calm

/-- No save, and a save, in progress. A save being taken. -/
theorem witness_StoreWritesEnd :
    (calm.powered = true
        ∧ calm.store.saving = none
        ∧ saving.powered = true
        ∧ saving.store.saving = some (imageOf .defaults)
        ∧ saving.link.requests = [] ++ [⟨0x11, 10, .saveSettings, .taking⟩])
      ∧ (∀ r ∈ ([] : List QueuedRequest), r.progress = .replied) :=
  ⟨by decide +kernel,
    (fun _ h => by cases h)⟩

/-- A window that is not empty, and an empty one with both lines of LAT at their accepted levels. -/
theorem witness_LineChangeTimed :
    calm.powered = true
        ∧ calm.params.p38 ≠ 0
        ∧ { calm with params := { Params.defaults with p38 := 0 } }.params.p38 = 0
        ∧ (calm.count.filter (.channelB .lat)).accepted = (calm.count.filter (.channelB .lat)).present
        ∧ (calm.count.get .lat).a.accepted = (calm.count.get .lat).a.present
        ∧ (calm.count.get .lat).b.accepted = (calm.count.get .lat).b.present := by
  decide +kernel

/-- A step of channel A or B of a channel with both lines low, at a count. -/
def stepOf (c : ChannelId) (onA : Bool) (count : Int) : State :=
  calm.modCount fun q => q.set c { q.get c with
    a := ⟨false, onA, if onA then some 999998 else none⟩
    b := ⟨false, !onA, if onA then none else some 999998⟩
    count := count }

/-- Steps to both ends of the count range, on each line, and one of XL. -/
theorem witness_QuadratureStepCounted :
    (stepOf .lat true 2147483646).powered = true
        ∧ ((stepOf .lat true 2147483646).count.get .lat).paired = false
        ∧ ((stepOf .lat true 2147483646).count.get .lat).a.since = some 999998
        ∧ (if (true != false) != false then (2147483646 : Int) + 1 else 2147483646 - 1) = 2147483647
        ∧ ((stepOf .lat false (-2147483647)).count.get .lat).b.since = some 999998
        ∧ (if (true == false) != false then (-2147483647 : Int) + 1 else -2147483647 - 1) = -2147483648
        ∧ ((stepOf .xl true 0).count.get .xl).a.since = some 999998 := by
  decide +kernel

/-- Both lines at once, found at either, and a step of each line beyond each end of the range. -/
theorem witness_IllegalTransitionFaults :
    ((latStep true).powered = true
        ∧ ((latStep true).count.get .lat).a.since = some 999999
        ∧ ((latStep true).count.get .lat).b.since = some 999999
        ∧ ((latStep true).count.get .lat).paired = true
        ∧ ((stepOf .lat true 2147483647).count.get .lat).count = 2147483647
        ∧ ((stepOf .lat true 2147483647).count.get .lat).paired = false
        ∧ ((true != false) != channelIn .lat calm.params.p39polarity) = true
        ∧ ((stepOf .lat true (-2147483648)).count.get .lat).a.since = some 999998
        ∧ ((true != false) != channelIn .lat 4) = false
        ∧ ((stepOf .lat false (-2147483648)).count.get .lat).b.since = some 999998
        ∧ ((true == false) != channelIn .lat calm.params.p39polarity) = false
        ∧ ((true == false) != channelIn .lat 4) = true)
      ∧ (ChannelId.lat = .odo → (latStep true).count.odo.nulled = false) :=
  ⟨by decide +kernel,
    (fun h => by cases h)⟩

/-- Both lines of a channel due to change at one instant. -/
def faulting (c : ChannelId) (s : State) : State :=
  s.modCount fun q => q.set c { q.get c with a := ⟨false, true, some 999998⟩, b := ⟨false, true, some 999998⟩, paired := true }

/-- LIFT-L MOVING in a mode, in phase WORKING where that is WORK. -/
def movingIn (m : Mode) : State :=
  let s := calmIn m (if m = .work then .working else .none)
  { s with axes := { s.axes with liftL := { Axis.atReset with state := .moving, stage := some .driving } } }

/-- SAT with the drive RIDING and HOLDING at work; LVL-L with its axis MOVING in two modes and at rest; XL; and a depth channel with the unit in each row of the table. -/
theorem witness_NullLossActs :
    (calm.powered = true
        ∧ ((faulting .sat calm).count.get .sat).a.since = some 999998
        ∧ ((faulting .sat calm).count.get .sat).paired = true
        ∧ ((faulting .sat calm).count.get .sat).nulled = true
        ∧ ((faulting .xl calm).count.get .xl).nulled = true
        ∧ (faulting .sat calm).pos.drive = .riding
        ∧ ({ calmIn .work .working with pos := { calm.pos with drive := .holding } }).pos.drive ≠ .riding
        ∧ ((movingIn .work).axes.get .liftL).state = .moving
        ∧ ((movingIn .paused).axes.get .liftL).state = .moving
        ∧ ((movingIn .ready).axes.get .liftL).state = .moving
        ∧ (calm.axes.get .liftL).state ≠ .moving
        ∧ ((faulting .lvlL (movingIn .work)).count.get .lvlL).nulled = true
        ∧ ((faulting (.dep .LO) (unitIn' .lowering)).count.get (.dep .LO)).nulled = true
        ∧ ((unitIn' .lowering).heads.get .LO).state = .lowering
        ∧ ((unitIn' .up).heads.get .LO).state = .up
        ∧ ((unitIn' .parking).heads.get .LO).state = .parking
        ∧ ((unitIn' .faulted).heads.get .LO).state = .faulted
        ∧ ((unitIn' .raising).heads.get .LO).state = .raising)
      ∧ (faulting .sat calm).InWorkOrOut
      ∧ (faulting .lvlL (movingIn .work)).LowersPendRaising
      ∧ (faulting .lvlL (movingIn .paused)).LowersPendRaising
      ∧ (faulting (.dep .LO) (unitIn' .lowering)).Undisturbed .LO
      ∧ (faulting (.dep .LO) (unitIn' .lowering)).NoRelease :=
  ⟨by decide +kernel,
    (fun h => by cases h),
    (fun u h => by cases u <;> cases h),
    (fun u h => by cases u <;> cases h),
    (fun _ => Or.inl rfl),
    (fun a => by cases a <;> rfl)⟩

/-- The drive in a state about 1,000 with the satellite at an offset, in WORK in a phase; the frame is at 0, and
a count of SAT that leaves the offset in millimetres is due. -/
def satStep (drive : Drive) (phase : Phase) (offset : Int) : State :=
  holding [record 5 1000 (if phase = .indexing then .designed else .inWork)]
    { calmIn .work phase with
      cyc := { (calmIn .work phase).cyc with current := some 5, active := some 15 }
      pos := { calm.pos with drive := drive, target := some 1000 }
      count := { calm.count with sat := { nulledAt offset with a := ⟨false, true, some 999998⟩ } } }

/-- The state with that count taken. -/
def satCounted (s : State) : State :=
  { s.beginBy 1000000 with count := { s.count with sat := { s.count.sat with a := ⟨true, true, none⟩, count := 1 } } }

/-- The count that brings the head to the edge of the window, with a measuring channel not nulled. -/
def satWithout (c : ChannelId) : State :=
  (satStep .indexing .indexing 990).modCount fun q => q.set c .low

/-- Commands on both sides of P13 and of the window; and counts that leave an index outside its window by 1 mm and bring it to its edge, each measuring channel missing in turn at that edge, and a HOLDING drive at the excursion P14, 1 mm beyond it, and at offset 0. -/
theorem witness_SatelliteJudged :
    (calm.pos.drive = .riding
        ∧ (satStep .indexing .indexing 849).pos.target = some 1000
        ∧ headChainage (satStep .indexing .indexing 849) = some 849
        ∧ satOffset (satStep .indexing .indexing 849) = some 849
        ∧ (satStep .indexing .indexing 849).params.p13 < (((849 : Int) - 1000).natAbs : Int)
        ∧ ¬ (satStep .indexing .indexing 850).params.p13 < (((850 : Int) - 1000).natAbs : Int)
        ∧ (satStep .indexing .indexing 849).params.p12 < 1011 - 1000
        ∧ (0 : Int) ≤ (satStep .indexing .indexing 849).params.p12
        ∧ (satStep .indexing .indexing 989).powered = true
        ∧ (satStep .indexing .indexing 989).count.sat.a.since = some 999998
        ∧ (satStep .indexing .indexing 989).count.sat.paired = false
        ∧ (1 : Int) = (if ((true != false) != channelIn .sat calm.params.p39polarity) then (0 : Int) + 1 else 0 - 1)
        ∧ (satStep .indexing .indexing 989).cyc.mode = .work
        ∧ (satStep .indexing .indexing 989).cyc.phase = .indexing
        ∧ (satStep .indexing .indexing 989).cond.armed = none
        ∧ frameChainage (satStep .indexing .indexing 989) ≤ 1000
        ∧ headChainage (satCounted (satStep .indexing .indexing 989)) = some 989
        ∧ satOffset (satCounted (satStep .indexing .indexing 990)) = some 990
        ∧ unfinishedRecord 5 (satStep .indexing .indexing 990) = some (record 5 1000 .designed)
        ∧ (satStep .indexing .indexing 990).cyc.current = some (record 5 1000 .designed).seq
        ∧ (((990 : Int) - 1000).natAbs : Int) ≤ (satStep .indexing .indexing 990).params.p12
        ∧ ¬ (((989 : Int) - 1000).natAbs : Int) ≤ (satStep .indexing .indexing 990).params.p12
        ∧ ((satWithout .lat).count.get .lat).nulled = false
        ∧ ((satWithout .lvlL).count.get .lat).nulled = true
        ∧ ((satWithout .lvlL).count.get .lvlL).nulled = false
        ∧ ((satWithout .lvlR).count.get .lvlL).nulled = true
        ∧ ((satWithout .lvlR).count.get .lvlR).nulled = false
        ∧ ((satWithout .xl).count.get .lvlR).nulled = true
        ∧ ((satWithout .xl).count.get .xl).nulled = false
        ∧ unfinishedRecord 5 (satWithout .xl) = some (record 5 1000 .designed)
        ∧ headChainage (satCounted (satWithout .xl)) = some 990
        ∧ satOffset (satCounted (satWithout .lat)) = some 990
        ∧ headChainage (satCounted (satStep .holding .arrived 1040)) = some 1040
        ∧ headChainage (satCounted (satStep .holding .clearing 1041)) = some 1041
        ∧ satOffset (satCounted (satStep .holding .working 0)) = some 0
        ∧ (satStep .holding .working 0).pos.strokeEnd = false
        ∧ (satStep .holding .clearing 1041).pos.holdLost = false)
      ∧ (∀ u, (calm.heads.get u).state = .up)
      ∧ (∀ c, c = .lat ∨ c = .lvlL ∨ c = .lvlR ∨ c = .xl → ((satStep .indexing .indexing 990).count.get c).nulled = true)
      ∧ (∀ x, ((satWithout .xl).axes.get x).state = .idle)
      ∧ ({ calm with count := { calm.count with sat := { nulledAt 0 with a := ⟨false, true, some 999998⟩ } } }).InWorkOrOut :=
  ⟨by decide +kernel,
    everyUnit (by decide +kernel),
    (by intro c h; rcases h with h | h | h | h <;> subst h <;> rfl),
    everyAxis (by decide +kernel),
    (fun h => by cases h)⟩

/-- A change of the detector line due in a mode, with a detection open at a chainage or none; the frame is at 0
and the detector at 9,000. -/
def edge (m : Mode) (level : Bool) (opened : Option Int) (s : State) : State :=
  { s with
    cyc := { s.cyc with mode := m }
    count := { s.count with detector := ⟨!level, level, some 999998⟩ }
    slp := { s.slp with detection := opened } }

/-- An activation taken and not taken, a deactivation in IDLE, and widths of 149 and 321 mm. -/
theorem witness_DetectorEdgesPaired :
    (edge .work true none calm).powered = true
        ∧ (edge .work true none calm).count.detector.since = some 999998
        ∧ (edge .work true none calm).slp.detection = none
        ∧ (true != calm.params.p39low) = true
        ∧ (edge .work true none calm).cyc.mode = .work
        ∧ calm.pos.direction = .forward
        ∧ (edge .ready true none calm).cyc.mode = .ready
        ∧ (false != calm.params.p39low) = false
        ∧ (edge .paused false (some 8851) calm).slp.detection = some 8851
        ∧ calm.slp.held = []
        ∧ detectorChainage calm - 8851 < calm.params.p34min
        ∧ (edge .work false (some 8679) calm).slp.detection = some 8679
        ∧ calm.params.p34max < detectorChainage calm - 8679 := by
  decide +kernel

/-- A closing detection of the least width, from 8,850 to 9,000, in PAUSED: its centre is 8,925. A bearer waits
120 mm behind it, and the high-water chainage is 451 mm behind it. -/
def closing : State :=
  busyEngine { edge .paused false (some 8850) calm with
    slp := { calm.slp with detection := some 8850, highWater := some 8474 }
    seg := ⟨[⟨7, 0, 20000, 0, 0, 0, 0, 0, 0, .left, none, true, [⟨8805, 8805, 15, 0, 1, 0, false⟩]⟩], false, false⟩ }

theorem closing_window : closing.WindowSound :=
  ⟨by decide, fun i g h hg hh => by
      rcases i with _ | i
      · simp [closing, busyEngine] at hh
      · simp [closing, busyEngine] at hh,
    by decide, by decide, by decide, by decide, by decide⟩

/-- A detection of the least width just beyond the spacing, with a bearer at the edge of the match window, and with none. -/
theorem witness_DetectionEnters :
    (closing.powered = true
        ∧ closing.count.detector.since = some 999998
        ∧ closing.count.detector.present = closing.params.p39low
        ∧ closing.cyc.mode = .paused
        ∧ closing.pos.direction = .forward
        ∧ closing.eng.activity = .designing farPass
        ∧ closing.slp.detection = some 8850
        ∧ closing.slp.held = []
        ∧ closing.params.p34min ≤ detectorChainage closing - 8850
        ∧ detectorChainage closing - 8850 ≤ closing.params.p34max
        ∧ closing.slp.records.length < 16
        ∧ (∀ b' ∈ poolOf closing.seg.segments, b'.consumed = false ∧ ((b'.chainage - 8925).natAbs : Int) ≤ closing.params.p35)
        ∧ (∀ b ∈ poolOf [s1, s2], b.consumed = false → sound.params.p35 < ((b.chainage - 8925).natAbs : Int))
        ∧ ({ closing with slp := { closing.slp with highWater := some 8475 } }).slp.highWater = some 8475
        ∧ (8925 : Int) ≤ 8475 + closing.params.p33
        ∧ 16 ≤ (List.replicate 16 (record 1 5 .done)).length)
      ∧ closing.WindowSound
      ∧ (∀ h, closing.slp.highWater = some h → h + closing.params.p33 < 8925) :=
  ⟨by decide +kernel,
    closing_window,
    by intro d h; have e := Option.some.inj h; subst e; decide +kernel⟩

/-- The frame half a millimetre before a count of ODO that takes the detector to 9,001, in a mode with the engine
on a pass, a detection open or not, and a bearer at 8,881 that the count makes passed. -/
def passing (m : Mode) (opened : Option Int) : State :=
  busyEngine { calmIn m .none with
    pos := { calm.pos with datum := 500 }
    count := { calm.count with odo := { Channel.low with a := ⟨false, true, some 999998⟩ } }
    slp := { calm.slp with detection := opened }
    seg := ⟨[⟨7, 0, 20000, 0, 0, 0, 0, 0, 0, .left, none, true, [⟨8881, 8881, 15, 0, 1, 0, false⟩]⟩], false, false⟩ }

/-- The state with that count taken. -/
def odoCounted (s : State) : State :=
  { s.beginBy 1000000 with count := { s.count with odo := { s.count.odo with a := ⟨true, true, none⟩, count := 1 } } }

theorem passing_window : (passing .paused none).WindowSound :=
  ⟨by decide, fun i g h hg hh => by
      rcases i with _ | i
      · simp [passing, busyEngine] at hh
      · simp [passing, busyEngine] at hh,
    by decide, by decide, by decide, by decide, by decide⟩

/-- A bearer just passed in PAUSED, in READY, with a detection open, just beyond the spacing and at it, and with a full queue; a held bearer at a rejected detection; and an append in PAUSED. -/
theorem witness_PlannedBearersEnter :
    ((passing .paused none).powered = true
        ∧ (passing .paused none).count.odo.a.since = some 999998
        ∧ (passing .paused none).count.odo.paired = false
        ∧ (passing .paused none).eng.activity = .designing farPass
        ∧ ((true != false) != channelIn .odo (passing .paused none).params.p39polarity) = true
        ∧ (1 : Int) = (passing .paused none).count.odo.count + 1
        ∧ detectorChainage (odoCounted (passing .paused none)) = 9001
        ∧ detectorChainage (passing .paused none) = 9000
        ∧ (passing .paused none).cyc.mode = .paused
        ∧ (passing .ready none).cyc.mode = .ready
        ∧ (passing .paused none).slp.detection = none
        ∧ (passing .paused (some 8900)).slp.detection = some 8900
        ∧ (passing .paused (some 8900)).slp.held = []
        ∧ (∀ b ∈ poolOf (passing .paused none).seg.segments, b.consumed = false ∧ b.chainage + (passing .paused none).params.p35 ≤ 9001)
        ∧ (8430 : Int) + calm.params.p33 < 8881
        ∧ (8881 : Int) ≤ 8431 + calm.params.p33
        ∧ calm.slp.records.length < 16
        ∧ (List.replicate 16 (record 1 5 .done)).length = 16
        ∧ detectorChainage closing - 8851 < closing.params.p34min
        ∧ ({ closing with slp := { closing.slp with detection := some 8851, held := [8805], highWater := none } }).slp.held = [8805]
        ∧ (∀ b ∈ poolOf closing.seg.segments, b.chainage = 8805 ∧ b.consumed = false)
        ∧ ({ busyEngine window with cyc := { window.cyc with mode := .paused } }).cyc.mode = .paused
        ∧ appendRefusal goodBody (busyEngine window) = none
        ∧ window.slp.detection = none)
      ∧ (passing .paused none).WindowSound
      ∧ (∀ h, (passing .paused none).slp.highWater = some h → h + calm.params.p33 < 8881)
      ∧ ({ busyEngine window with cyc := { window.cyc with mode := .paused } }).Listens :=
  ⟨by decide +kernel,
    passing_window,
    (fun _ h => by cases h),
    listening (by decide +kernel)⟩

/-- The pressure line of LO due to change to a level while the unit is in a state and squeeze mode. -/
def pressing (level : Bool) (st : HeadState) (m : SqueezeMode) : State :=
  (withLO (fun h => { h with squeezeMode := m }) (unitIn' st)).modCount fun c =>
    { c with pressure := c.pressure.set .LO ⟨!level, level, some 999998⟩ }

/-- Each of the four cases. -/
theorem witness_PressureLineSeen :
    ((pressing true .squeezing .pressure).powered = true
        ∧ ((pressing true .squeezing .pressure).count.pressure.get .LO).since = some 999998
        ∧ ((pressing false .squeezing .time).count.pressure.get .LO).present = false
        ∧ ((pressing true .squeezing .pressure).count.pressure.get .LO).present = true
        ∧ ((pressing true .squeezing .pressure).heads.get .LO).state = .squeezing
        ∧ ((pressing true .squeezing .pressure).heads.get .LO).pressureSeen = false
        ∧ ((pressing true .squeezing .pressure).heads.get .LO).squeezeMode = .pressure
        ∧ ((pressing true .squeezing .time).heads.get .LO).squeezeMode = .time
        ∧ ((pressing true .up .time).heads.get .LO).state ≠ .squeezing)
      ∧ (pressing true .squeezing .pressure).Undisturbed .LO
      ∧ (pressing true .squeezing .pressure).NoRelease :=
  ⟨by decide +kernel,
    (fun _ => Or.inl rfl),
    (fun a => by cases a <;> rfl)⟩

/-- Record 12 in design with a next record behind it at a chainage; the window ends at 173,000. -/
def designingNext (c : Int) : State :=
  holding [record 12 104800 .queued, record 13 c .queued] { designing12 with seg := ⟨[s1, s2, s3], false, false⟩ }

/-- The pass of record 12, with a target request held for another record, and with a next record that the window just covers and one it misses by 1 mm. -/
theorem witness_DesignPassWritten :
    (designing12.powered = true
        ∧ designing12.eng.activity = .designing pass12
        ∧ record 12 104800 .queued ∈ designing12.slp.records
        ∧ (record 12 104800 .queued).state = .queued
        ∧ (record 12 104800 .queued).seq = pass12.seq
        ∧ (∀ r' ∈ designing12.slp.records, r'.seq = pass12.seq → r' = record 12 104800 .queued)
        ∧ unfinishedRecord 11 (holding [record 11 104200 .inWork, record 12 104800 .queued] designing12) = some (record 11 104200 .inWork)
        ∧ (record 11 104200 .inWork).design.isSome = true
        ∧ 11 ≠ pass12.seq
        ∧ (record 11 104200 .inWork).design = some ⟨1242, 0, -540, .left, 400, -250⟩
        ∧ ((designingNext 161000).eng.request = none ∧ (designingNext 161000).slp.records = [record 12 104800 .queued] ++ record 13 161000 .queued :: [] ∧ 13 ≠ pass12.seq ∧ ∀ x ∈ [record 12 104800 .queued], x.state = .queued → x.seq = pass12.seq)
        ∧ ((after (.designPassComplete 0) (designingNext 161000)).seg.segments.head?.map (·.start)) = some 94000
        ∧ queueEnd (after (.designPassComplete 0) (designingNext 161000)).seg.segments = some 173000
        ∧ (94000 : Int) ≤ 161000 - max (designingNext 161000).params.p02 (designingNext 161000).params.p04
        ∧ 161000 + max (designingNext 161000).params.p01 (designingNext 161000).params.p03 ≤ 173000
        ∧ 173000 < 161001 + max (designingNext 161001).params.p01 (designingNext 161001).params.p03)
      ∧ designing12.InWorkOrOut :=
  ⟨by decide +kernel,
    (fun h => by cases h)⟩

/-- Record 12 at its arrival. -/
theorem witness_TargetPassStartsAxes :
    (targeting12.powered = true
        ∧ targeting12.eng.activity = .targeting target12
        ∧ targeting12.cyc.mode = .work
        ∧ targeting12.cyc.phase = .arrived
        ∧ targeting12.cyc.current = some target12.seq
        ∧ firstUnfinished targeting12 = some (record 12 104800 .inWork)
        ∧ (record 12 104800 .inWork).seq = target12.seq
        ∧ (record 12 104800 .inWork).state = .inWork
        ∧ targeting12.cyc.active = some 15
        ∧ reading .lat targeting12 = some 1530
        ∧ reading .lvlL targeting12 = some 2210
        ∧ reading .lvlR targeting12 = some 1950)
      ∧ (∃ u, unitIn u 15 = true ∧ inTrain (targeting12.heads.get u).state = true)
      ∧ (∀ a, (targeting12.axes.get a).state = .idle ∧ (targeting12.axes.get a).started = false) :=
  ⟨by decide +kernel,
    ⟨.LO, by decide +kernel⟩,
    everyAxis (by decide +kernel)⟩

/-- A settle timer, and a motion timer in each stage. -/
theorem witness_AxisMotionEnds :
    (settlingL.powered = true
        ∧ (settlingL.axes.get .liftL).settle = some ⟨150, 1000000⟩
        ∧ (settlingL.axes.get .liftL).motion = some ⟨4000, 0⟩
        ∧ (settlingL.axes.get .liftL).stage = some .settling
        ∧ { settlingL.axes.liftL with stage := some .driving }.stage = some .driving)
      ∧ settlingL.InWorkOrOut :=
  ⟨by decide +kernel,
    (fun _ => Or.inr (Or.inl rfl))⟩

/-- LINE settles at 1,078, the edge of its band about 1,128, and steps to 1,077 (worked case of 06). -/
def huntState (reversals : Nat) : State :=
  { calmIn .work .working with
    count := { calm.count with lat := { nulledAt 1078 with a := ⟨true, false, some 999998⟩ } }
    axes := { calm.axes with line := { Axis.atReset with
      state := .moving, stage := some .settling, started := true, target := some 1128, latched := some ⟨50, 4000, 3⟩
      motion := some ⟨4000, 0⟩, settle := some ⟨150, 0⟩, lastDir := some .left, reversals := reversals } } }

/-- Below the limit and at it, on line A and on line B. -/
theorem witness_LineHuntJudged :
    ((huntState 2).powered = true
        ∧ (huntState 2).count.lat.a.since = some 999998
        ∧ (huntState 2).count.lat.paired = false
        ∧ (1077 : Int) = (if ((false != false) != channelIn .lat (huntState 2).params.p39polarity) then (1078 : Int) + 1 else 1078 - 1)
        ∧ (1077 : Int) = (if ((true == false) != channelIn .lat (huntState 2).params.p39polarity) then (1078 : Int) + 1 else 1078 - 1)
        ∧ ((huntState 2).modCount fun q => { q with lat := { nulledAt 1078 with b := ⟨false, true, some 999998⟩ } }).count.lat.b.since = some 999998
        ∧ (huntState 2).axes.line.state = .moving
        ∧ (huntState 2).axes.line.stage = some .settling
        ∧ (huntState 2).axes.line.latched = some ⟨50, 4000, 3⟩
        ∧ (huntState 2).axes.line.target = some 1128
        ∧ (huntState 2).count.lat.nulled = true
        ∧ reading .lat (huntState 2) = some 1078
        ∧ (50 : Int) < (((1077 : Int) - 1128).natAbs : Int)
        ∧ (huntState 2).axes.line.lastDir ≠ some (if (1077 : Int) - 1128 > 0 then LineDir.left else LineDir.right)
        ∧ (huntState 2).axes.line.reversals < 3
        ∧ 3 ≤ (huntState 3).axes.line.reversals)
      ∧ (huntState 2).InWorkOrOut :=
  ⟨by decide +kernel,
    (fun _ => Or.inr (Or.inl rfl))⟩

/-- An axis about 500 with a deadband of 30 in a stage, a count of its channel due that takes its reading to a
value. -/
def readingStep (a : AxisId) (stage : AxisStage) (vm : Int) : State :=
  (calm.modAxis a fun x =>
    { x with
      state := .moving, stage := some stage, target := some 500, latched := some ⟨30, 4000, 3⟩
      lastDir := some .left }).modCount fun q =>
    q.set (axisChannel a) { nulledAt (vm - 1) with a := ⟨false, true, some 999998⟩ }

/-- The state with that count taken. -/
def channelCounted (c : ChannelId) (s : State) : State :=
  { s.beginBy 1000000 with
    count := s.count.set c { s.count.get c with a := ⟨true, true, none⟩, count := 1 } }

/-- LO in a state and stage at a depth with a count due that leaves the depth in millimetres. -/
def depthStep (st : HeadState) (stage : Option RaiseStage) (d : Int) : State :=
  (withLO (fun h => { h with stage := stage, latched := some ⟨60, 10⟩, pendingLower := stage == some .normal })
    (unitIn' st)).modCount fun q => q.set (.dep .LO) { nulledAt d with a := ⟨false, true, some 999998⟩ }

/-- Readings at the edge of the band and 1 beyond it, of a lift and of LINE; a unit at rest, one at its target depth and 1 mm short of it, and one at its top depth and 1 mm below it. -/
theorem witness_ReadingsJudged :
    ((readingStep .liftL .driving 530).powered = true
        ∧ ((readingStep .liftL .driving 530).count.get .lvlL).a.since = some 999998
        ∧ ((readingStep .liftL .driving 530).count.get .lvlL).paired = false
        ∧ (1 : Int) = (if ((true != false) != channelIn .lvlL calm.params.p39polarity) then (0 : Int) + 1 else 0 - 1)
        ∧ reading .lvlL (channelCounted .lvlL (readingStep .liftL .driving 530)) = some 530
        ∧ reading .lvlL (channelCounted .lvlL (readingStep .liftL .settling 531)) = some 531
        ∧ reading .lat (channelCounted .lat (readingStep .line .driving 530)) = some 530
        ∧ reading .lat (channelCounted .lat (readingStep .line .settling 531)) = some 531
        ∧ ((readingStep .liftL .driving 530).axes.get .liftL).state = .moving
        ∧ ((readingStep .liftL .driving 530).axes.get .liftL).target = some 500
        ∧ ((readingStep .liftL .driving 530).axes.get .liftL).latched = some ⟨30, 4000, 3⟩
        ∧ ((readingStep .line .settling 531).axes.get .line).lastDir = some (if (531 : Int) - 500 > 0 then LineDir.left else LineDir.right)
        ∧ (calm.axes.get .liftL).state ≠ .moving
        ∧ (depthStep .lowering none 480).powered = true
        ∧ ((depthStep .lowering none 480).count.get (.dep .LO)).a.since = some 999998
        ∧ ((depthStep .lowering none 480).count.get (.dep .LO)).paired = false
        ∧ depthOf .LO (channelCounted (.dep .LO) (depthStep .lowering none 480)) = some 480
        ∧ depthOf .LO (channelCounted (.dep .LO) (depthStep .lowering none 479)) = some 479
        ∧ ((depthStep .lowering none 480).heads.get .LO).plan = some ⟨true, 480, 3⟩
        ∧ ((depthStep .lowering none 480).heads.get .LO).state = .lowering
        ∧ depthOf .LO (channelCounted (.dep .LO) (depthStep .raising (some .stuck) 10)) = some 10
        ∧ depthOf .LO (channelCounted (.dep .LO) (depthStep .raising (some .normal) 11)) = some 11
        ∧ ((depthStep .raising (some .stuck) 10).heads.get .LO).latched = some ⟨60, 10⟩
        ∧ ((depthStep .raising (some .stuck) 10).heads.get .LO).pendingLower = false
        ∧ ((depthStep .raising (some .normal) 10).heads.get .LO).pendingLower = true
        ∧ true ≠ ((depthStep .raising (some .normal) 10).heads.get .LO).tilted
        ∧ ((depthStep .up none 10).heads.get .LO).state ≠ .lowering
        ∧ (10 : Int) < 480)
      ∧ (depthStep .lowering none 480).Undisturbed .LO
      ∧ (depthStep .lowering none 480).NoRelease
      ∧ (∃ a, ((depthStep .lowering none 480).axes.get a).state ≠ .hold)
      ∧ (∀ a, ((axesIn .hold (depthStep .lowering none 480)).axes.get a).state = .hold) :=
  ⟨by decide +kernel,
    (fun _ => Or.inl rfl),
    (fun a => by cases a <;> rfl),
    ⟨.line, by decide +kernel⟩,
    everyAxis (by decide +kernel)⟩

/-- LO, the only active unit, in a state at a depth 1 mm above P25, in WORKING with the axes in a state. -/
def lastOut (st : HeadState) (x : AxisState) : State :=
  axesIn x (withLO (fun h => { h with report := { h.report with insertions := 3 } })
    (depthLO 61 { unitIn' st with cyc := { calm.cyc with mode := .work, phase := .working, active := some 1 } }))

theorem lastOut_last (st : HeadState) (x : AxisState) : (lastOut st x).LastInTrain .LO :=
  ⟨rfl, rfl, ⟨1, rfl, rfl⟩, fun v h _ => by cases v <;> first | exact absurd rfl h | exact ⟨rfl, rfl⟩,
    fun v h => by cases v <;> first | exact absurd rfl h | exact fun e => by cases e⟩

/-- A tilt that ends short of its target depth, and one that was aborted. A head at 120 mm; and the last active unit 1 mm deeper than P25. -/
theorem witness_TiltAndLowerEnd :
    ((unitIn' .tilting).powered = true
        ∧ ((unitIn' .tilting).heads.get .LO).state = .tilting
        ∧ ((unitIn' .tilting).heads.get .LO).stage = none
        ∧ ((unitIn' .tilting).heads.get .LO).timer = some soon
        ∧ ((unitIn' .tilting).heads.get .LO).abort = false
        ∧ ((withLO (fun h => { h with abort := true }) (unitIn' .tilting)).heads.get .LO).abort = true
        ∧ ((withLO (fun h => { h with abort := true }) (unitIn' .tilting)).heads.get .LO).pendingLower = false
        ∧ (unitIn' .lowering).powered = true
        ∧ ((unitIn' .lowering).heads.get .LO).state = .lowering
        ∧ ((unitIn' .lowering).heads.get .LO).stage = none
        ∧ ((unitIn' .lowering).heads.get .LO).timer = some soon
        ∧ (lastOut .lowering .hold).powered = true
        ∧ ((lastOut .lowering .hold).heads.get .LO).state = .lowering
        ∧ ((lastOut .lowering .hold).heads.get .LO).stage = none
        ∧ ((lastOut .lowering .hold).heads.get .LO).timer = some soon
        ∧ ((lastOut .lowering .hold).heads.get .LO).pendingLower = false
        ∧ depthOf .LO (lastOut .lowering .hold) = some 61
        ∧ (lastOut .lowering .hold).params.p25 < 61
        ∧ (lastOut .lowering .hold).params.p26 < 61
        ∧ ¬ (lastOut .lowering .hold).params.p25 < 60)
      ∧ (unitIn' .tilting).Undisturbed .LO
      ∧ (unitIn' .tilting).NoRelease
      ∧ (∀ d p, depthOf .LO (unitIn' .tilting) = some d → ((unitIn' .tilting).heads.get .LO).plan = some p → d < p.depth)
      ∧ (unitIn' .lowering).Undisturbed .LO
      ∧ (unitIn' .lowering).NoRelease
      ∧ (∀ d, depthOf .LO (unitIn' .lowering) = some d → (unitIn' .lowering).params.p26 < d)
      ∧ (lastOut .lowering .hold).LastInTrain .LO
      ∧ (lastOut .lowering .hold).NoRelease :=
  ⟨by decide +kernel,
    (fun _ => Or.inl rfl),
    (fun a => by cases a <;> rfl),
    (by intro d p h k; have e := Option.some.inj h; subst e; have e := Option.some.inj k; subst e; decide +kernel),
    (fun _ => Or.inl rfl),
    (fun a => by cases a <;> rfl),
    (by intro d h; have e := Option.some.inj h; subst e; decide +kernel),
    lastOut_last _ _,
    (fun a => by cases a <;> rfl)⟩

/-- R114, R152: the last unit out of its train releases the axes with their final versine. -/
theorem test_openExpiry_last :
    let t := after (.openExpiry .LO) (lastOut .opening .hold)
    (t.cyc.phase, t.axes.line.state, t.axes.line.final, t.heads.LO.state) = (.clearing, .idle, some 0, .raising) := by
  decide +kernel

/-- A phase without pressure and one with it. The three insertions done, and one left with the gate shut and open; and the last active unit 1 mm deeper than P25. -/
theorem witness_SqueezeAndOpeningEnd :
    ((unitIn' .squeezing).powered = true
        ∧ ((unitIn' .squeezing).heads.get .LO).state = .squeezing
        ∧ ((unitIn' .squeezing).heads.get .LO).stage = none
        ∧ ((unitIn' .squeezing).heads.get .LO).timer = some soon
        ∧ ((unitIn' .squeezing).heads.get .LO).pressureSeen = false
        ∧ ((withLO (fun h => { h with pressureSeen := true }) (unitIn' .squeezing)).heads.get .LO).pressureSeen = true
        ∧ (unitIn' .opening).powered = true
        ∧ ((unitIn' .opening).heads.get .LO).state = .opening
        ∧ ((unitIn' .opening).heads.get .LO).stage = none
        ∧ ((unitIn' .opening).heads.get .LO).timer = some soon
        ∧ ((unitIn' .opening).heads.get .LO).plan = some ⟨true, 480, 3⟩
        ∧ ((unitIn' .opening).count.pressure.get .LO).accepted = false
        ∧ 3 ≤ ((withLO (fun h => { h with report := { h.report with insertions := 3 } }) (unitIn' .opening)).heads.get .LO).report.insertions
        ∧ ((withLO (fun h => { h with report := { h.report with insertions := 2 } }) (unitIn' .opening)).heads.get .LO).report.insertions < 3
        ∧ ((unitIn' .opening).heads.get .LO).abort = false
        ∧ ((lastOut .opening .hold).heads.get .LO).plan = some ⟨true, 480, 3⟩
        ∧ 3 ≤ ((lastOut .opening .hold).heads.get .LO).report.insertions
        ∧ (lastOut .opening .hold).pos.strokeTerm = strokeTermOf (lastOut .opening .hold)
        ∧ (lastOut .opening .hold).powered = true
        ∧ ((lastOut .opening .hold).heads.get .LO).state = .opening
        ∧ ((lastOut .opening .hold).heads.get .LO).stage = none
        ∧ ((lastOut .opening .hold).heads.get .LO).timer = some soon
        ∧ ((lastOut .opening .hold).heads.get .LO).pendingLower = false
        ∧ depthOf .LO (lastOut .opening .hold) = some 61
        ∧ (lastOut .opening .hold).params.p25 < 61
        ∧ (lastOut .opening .hold).params.p26 < 61
        ∧ ¬ (lastOut .opening .hold).params.p25 < 60)
      ∧ (unitIn' .squeezing).Undisturbed .LO
      ∧ (unitIn' .squeezing).NoRelease
      ∧ (unitIn' .opening).Undisturbed .LO
      ∧ (unitIn' .opening).NoRelease
      ∧ (∀ d, depthOf .LO (unitIn' .opening) = some d → (unitIn' .opening).params.p26 < d)
      ∧ (∃ a, ((unitIn' .opening).axes.get a).state ≠ .hold)
      ∧ (∀ a, ((axesIn .hold (unitIn' .opening)).axes.get a).state = .hold)
      ∧ (∀ a, ((lastOut .opening .hold).axes.get a).state ≠ .moving)
      ∧ (lastOut .opening .hold).LastInTrain .LO
      ∧ (lastOut .opening .hold).NoRelease :=
  ⟨by decide +kernel,
    (fun _ => Or.inl rfl),
    (fun a => by cases a <;> rfl),
    (fun _ => Or.inl rfl),
    (fun a => by cases a <;> rfl),
    (by intro d h; have e := Option.some.inj h; subst e; decide +kernel),
    ⟨.line, by decide +kernel⟩,
    everyAxis (by decide +kernel),
    everyAxis (by decide +kernel),
    lastOut_last _ _,
    (fun a => by cases a <;> rfl)⟩

/-- LO rises at a depth with its timer due. -/
def rising (d : Int) (m : Mode) : State :=
  depthLO d { withLO (fun h => { h with stage := some .normal, latched := some ⟨60, 10⟩ }) (unitIn' .raising) with
    cyc := { calm.cyc with mode := m, phase := if m = .work then .arrived else .none } }

/-- A head at the clear depth, and a head 1 mm deeper in each kind of mode. A blind raise, and PARKING with and without a fault on the depth channel. -/
theorem witness_RaisesEnd :
    ((rising 60 .work).powered = true
        ∧ ((rising 60 .work).heads.get .LO).state = .raising
        ∧ ((rising 60 .work).heads.get .LO).stage = some .normal
        ∧ ((rising 60 .work).heads.get .LO).timer = some soon
        ∧ ((rising 60 .work).heads.get .LO).latched = some ⟨60, 10⟩
        ∧ ((rising 60 .work).heads.get .LO).pendingLower = false
        ∧ (rising 61 .paused).cyc.mode = .paused
        ∧ (rising 61 .ready).cyc.mode = .ready
        ∧ State.reset.powered = true
        ∧ (State.reset.heads.get .LO).timer = some ⟨3000, 0⟩
        ∧ (State.reset.heads.get .LO).state = .parking
        ∧ (State.reset.heads.get .LO).stage = none
        ∧ State.reset.cyc.mode ≠ .work
        ∧ (State.reset.heads.get .LO).pendingLower = false
        ∧ (State.reset.count.get (.dep .LO)).fault = false
        ∧ ((State.reset.modCount fun c => c.set (.dep .LO) { Channel.low with fault := true }).count.get (.dep .LO)).fault = true
        ∧ ((withLO (fun h => { h with stage := some .blind }) (unitIn' .raising)).heads.get .LO).stage = some .blind
        ∧ ((withLO (fun h => { h with stage := some .blind }) (unitIn' .raising)).heads.get .LO).state = .raising)
      ∧ (∃ d, depthOf .LO (rising 60 .work) = some d ∧ d ≤ 60)
      ∧ (rising 60 .work).Undisturbed .LO
      ∧ (rising 60 .work).NoRelease
      ∧ (∀ d, depthOf .LO (rising 61 .work) = some d → 60 < d)
      ∧ (∀ d, depthOf .LO (rising 61 .ready) = some d → 60 < d)
      ∧ (rising 61 .ready).NoRelease
      ∧ State.reset.NoRelease
      ∧ (withLO (fun h => { h with stage := some .blind }) (unitIn' .raising)).Undisturbed .LO :=
  ⟨by decide +kernel,
    ⟨60, by decide +kernel⟩,
    (fun _ => Or.inl rfl),
    (fun a => by cases a <;> rfl),
    (by intro d h; have e := Option.some.inj h; subst e; decide +kernel),
    (by intro d h; have e := Option.some.inj h; subst e; decide +kernel),
    (fun a => by cases a <;> rfl),
    (fun a => by cases a <;> rfl),
    (fun _ => Or.inl rfl)⟩

/-- The last instant without a gap, a LENGTH of 240, and a body before its end and at it. After a RESTART, in the hold, and the four discards, the gap by 1 µs. -/
theorem witness_BytesTaken :
    calm.powered = true
        ∧ calm.link.restart = false
        ∧ calm.link.hold = false
        ∧ calm.link.assembler = .hunt
        ∧ calm.clock + 5043 ≤ (portWith fun l => { l with lastByte := 1000000 }).link.lastByte + 5043
        ∧ (240 : Byte).toNat ≤ 240
        ∧ (portWith fun l => { l with assembler := .length }).link.assembler = .length
        ∧ (portWith fun l => { l with assembler := .tag 0 7 }).link.assembler = .tag 0 7
        ∧ (portWith fun l => { l with assembler := .tag (0 + 1) 7 }).link.assembler = .tag (0 + 1) 7
        ∧ (portWith fun l => { l with assembler := .kind 1 }).link.assembler = .kind 1
        ∧ (portWith fun l => { l with assembler := .body 3 7 1 [5] }).link.assembler = .body 3 7 1 [5]
        ∧ [(5 : Byte)].length + 1 < 3
        ∧ (portWith fun l => { l with assembler := .body 2 7 1 [5] }).link.assembler = .body 2 7 1 [5]
        ∧ [(5 : Byte)].length + 1 = 2
        ∧ (portWith fun l => { l with assembler := .checkHigh 7 1 [5] }).link.assembler = .checkHigh 7 1 [5]
        ∧ (portWith fun l => { l with restart := true }).powered = true
        ∧ (portWith fun l => { l with restart := true }).link.restart = true
        ∧ (portWith fun l => { l with hold := true }).link.restart = false
        ∧ (portWith fun l => { l with hold := true }).link.hold = true
        ∧ (portWith fun l => { l with assembler := .length }).link.assembler ≠ .hunt
        ∧ 240 < (241 : Byte).toNat
        ∧ beNat [0, 0] ≠ crc16 (BitVec.ofNat 8 ([5] : List Byte).length :: 7 :: 1 :: [5])
        ∧ (portWith fun l => { l with lastByte := 1000000 }).link.lastByte + 5043 < calm.clock + 5044 := by
  decide +kernel

/-- The last byte of an intact frame of a kind and body with tag 9 is due. -/
def lastByteOf (kind : Byte) (body : List Byte) (requests : List QueuedRequest) : State :=
  portWith fun l => { l with
    assembler := .checkLow kind 9 body
      (BitVec.ofNat 8 (crc16 (BitVec.ofNat 8 body.length :: kind :: 9 :: body) / 256))
    lastByte := 1000000
    requests := requests }

/-- Four unanswered requests, an unknown kind, a wrong length, and READ_PARAM of P01 and P39. -/
theorem witness_FrameArrivalAnswered :
    ((lastByteOf 0x10 [1] []).powered = true
        ∧ (lastByteOf 0x10 [1] []).link.restart = false
        ∧ (lastByteOf 0x10 [1] []).link.hold = false
        ∧ (lastByteOf 0x10 [1] []).clock + 5 ≤ (lastByteOf 0x10 [1] []).link.lastByte + 5043
        ∧ beNat [BitVec.ofNat 8 (crc16 [1, 0x10, 9, 1] / 256), BitVec.ofNat 8 (crc16 [1, 0x10, 9, 1])] = crc16 (BitVec.ofNat 8 ([1] : List Byte).length :: 0x10 :: 9 :: [1])
        ∧ (lastByteOf 0x10 [1] (List.replicate 4 ⟨1, 2, .status, .replied⟩)).link.requests.length = 4
        ∧ Request.parse 0x13 [] = .unknownKind
        ∧ Request.parse 0x10 [] = .badLength
        ∧ 1 ≤ (1 : Byte).toNat
        ∧ (39 : Byte).toNat ≤ 39
        ∧ requestOf (.status 5 1) = some (5, 1, .status)
        ∧ calm.powered = true
        ∧ (portWith fun l => { l with restart := true }).link.restart = true
        ∧ (portWith fun l => { l with hold := true }).link.hold = true
        ∧ calm.link.assembler = .hunt
        ∧ (portWith fun l => { l with assembler := .length }).link.assembler ≠ .hunt
        ∧ (portWith fun l => { l with requests := List.replicate 4 ⟨1, 2, .status, .replied⟩ }).link.requests.length = 4
        ∧ saving.link.requests = [] ++ [⟨0x11, 10, .saveSettings, .taking⟩]
        ∧ saving.link.assembler = .hunt)
      ∧ (lastByteOf 0x10 [1] (List.replicate 3 ⟨1, 2, .status, .replied⟩)).Answers :=
  ⟨by decide +kernel,
    ⟨rfl, rfl, rfl, by decide +kernel, by decide +kernel⟩⟩

/-- Each of the four sources. -/
theorem witness_TransmissionEnds :
    (portWith fun l => { l with tx := some ⟨.queueFull, [], 0⟩ }).powered = true
        ∧ (portWith fun l => { l with tx := some ⟨.queueFull, [], 0⟩ }).link.restart = false
        ∧ (portWith fun l => { l with tx := some ⟨.queueFull, [], 0⟩ }).link.tx = some ⟨.queueFull, [], 0⟩
        ∧ (portWith fun l => { l with tx := some ⟨.reply, [], 0⟩ }).link.tx = some ⟨.reply, [], 0⟩
        ∧ (portWith fun l => { l with tx := some ⟨.workRecord, [], 0⟩ }).link.tx = some ⟨.workRecord, [], 0⟩
        ∧ State.reset.link.tx = some ⟨.notice, startUpModeFrame, 0⟩ := by
  decide +kernel

/-- A running timer in READY and in WORK. -/
theorem witness_SupervisionHalts :
    ((portWith fun l => { l with supervision := some ⟨1000, 0⟩ }).powered = true
        ∧ (portWith fun l => { l with supervision := some ⟨1000, 0⟩ }).link.supervision = some ⟨1000, 0⟩
        ∧ calm.cyc.mode = .ready
        ∧ (calmIn .work .seek).cyc.mode = .work)
      ∧ (calmIn .work .seek).LowersPendRaising :=
  ⟨by decide +kernel,
    (fun u h => by cases u <;> cases h)⟩

/-- A port that listens, with the absent values and with present ones. -/
theorem witness_StatusAndSnapshotReply :
    (calm.seg.segments = []
        ∧ calm.slp.highWater = none
        ∧ satOffset State.reset = none
        ∧ reading .lat State.reset = none
        ∧ queueEnd indexStart.seg.segments = some 180000
        ∧ indexStart.slp.highWater = some 101550
        ∧ headChainage indexStart = some 100800
        ∧ satOffset indexStart = some 800
        ∧ reading .lat indexStart = some 0)
      ∧ calm.Listens
      ∧ indexStart.Listens :=
  ⟨by decide +kernel,
    listening (by decide +kernel),
    listening (by decide +kernel)⟩

/-- A list in another mode, one out of range by 1 and one in range at its end. -/
theorem witness_ChannelsNulled :
    ((calmIn .work .seek).cyc.mode ≠ .ready
        ∧ calm.cyc.mode = .ready)
      ∧ calm.Listens
      ∧ (¬ (([(1, 10001)] : List (Nat × Int)) ≠ [] ∧ (∀ e ∈ ([(1, 10001)] : List (Nat × Int)), e.2 ≤ 10000)))
      ∧ (([(1, 10000)] : List (Nat × Int)) ≠ [] ∧ (([(1, 10000)] : List (Nat × Int)).map Prod.fst).Nodup ∧ ∀ e ∈ ([(1, 10000)] : List (Nat × Int)), ∃ c, channelOfNumber e.1 = some c ∧ c ≠ .odo ∧ ((c = .sat ∨ ∃ u, c = .dep u) → 0 ≤ e.2 ∧ e.2 ≤ 10000) ∧ ((c = .lat ∨ c = .lvlL ∨ c = .lvlR ∨ c = .xl) → -50000 ≤ e.2 ∧ e.2 ≤ 50000)) :=
  ⟨by decide +kernel,
    listening (by decide +kernel),
    by decide +kernel,
    ⟨by decide, by decide, fun e h => ⟨.sat, by have k := List.mem_singleton.mp h; subst k; exact ⟨rfl, by decide, fun _ => by decide, fun _ => by decide⟩⟩⟩⟩

/-- Another mode, one beyond the range, a queue in use, and the end of the range. -/
theorem witness_ChainageSet :
    ((calmIn .halted .none).cyc.mode ≠ .ready
        ∧ (2000000000 : Int) < 2000000001
        ∧ window.seg.segments ≠ []
        ∧ window.cyc.mode = .ready
        ∧ calm.cyc.mode = .ready
        ∧ (-2000000000 : Int) ≤ 2000000000
        ∧ calm.slp.records = []
        ∧ calm.seg.segments = [])
      ∧ calm.Listens :=
  ⟨by decide +kernel,
    listening (by decide +kernel)⟩

/-- A full window of 32 segments, and one of 31 with 169 bearers. -/
def manySegments (n : Nat) (bearers : List Bearer) : State :=
  busyEngine { calm with seg := ⟨(List.range n).map fun i => ⟨i, 1000 * i, 1000, 0, 0, 0, 0, 0, 0, .left, none, true,
    if i = 0 then bearers else []⟩, false, false⟩ }

/-- The window with an idle engine and one record in a state at a chainage. -/
def idleWindow (c : Int) (st : RecordState) : State :=
  holding [record 12 c st] { window with eng := ⟨.idle, none⟩ }

/-- Each refusal, with the pool short by one, and an acceptance that fills the pool; and an idle engine with a record whose span ends at the new end of the queue, one whose span ends 1 mm beyond it, and none. -/
theorem witness_SegmentAppended :
    (segmentInRange { goodBody with length := 999 } window.seg.segments = false
        ∧ segmentInRange { goodBody with length := 1000 } window.seg.segments = true
        ∧ segmentInRange { goodBody with start := some 132000 } window.seg.segments = true
        ∧ queueEnd window.seg.segments ≠ some 132000
        ∧ segmentInRange { goodBody with start := some 64200 } [] = true
        ∧ 64200 + { goodBody with start := some 64200 }.length ≤ rearBound (frameAt 90000 calm)
        ∧ 32 ≤ (manySegments 32 []).seg.segments.length
        ∧ segmentInRange goodBody (manySegments 32 []).seg.segments = true
        ∧ 192 < (poolOf (manySegments 31 (List.replicate 192 ⟨0, 0, 15, 0, 1, 0, false⟩)).seg.segments).length + (([⟨0, 15, 0, 1, 0⟩] : List BearerBody)).length
        ∧ segmentInRange { goodBody with bearers := some [⟨0, 15, 0, 1, 0⟩] } (manySegments 31 []).seg.segments = true
        ∧ (poolOf (manySegments 31 (List.replicate 191 ⟨0, 0, 15, 0, 1, 0, false⟩)).seg.segments).length + (([⟨0, 15, 0, 1, 0⟩] : List BearerBody)).length ≤ 192
        ∧ (busyEngine window).cyc.mode = .ready
        ∧ segmentInRange goodBody (busyEngine window).seg.segments = true
        ∧ (idleWindow 121000 .queued).eng = ⟨.idle, none⟩
        ∧ (idleWindow 121000 .queued).cyc.mode = .ready
        ∧ (idleWindow 121000 .queued).seg.segments = [s1]
        ∧ queueEnd [s1] = some 103000
        ∧ (idleWindow 121000 .queued).slp.records = [] ++ record 12 121000 .queued :: []
        ∧ (record 12 121000 .queued).state = .queued
        ∧ s1.start ≤ 121000 - max window.params.p02 window.params.p04
        ∧ 121000 + max window.params.p01 window.params.p03 ≤ 103000 + goodBody.length
        ∧ 103000 + goodBody.length < 121001 + max window.params.p01 window.params.p03
        ∧ (∀ q ∈ (idleWindow 121000 .designed).slp.records, q.state ≠ .queued))
      ∧ (busyEngine window).Listens
      ∧ (∃ p, (busyEngine window).eng.activity = .designing p)
      ∧ (idleWindow 121000 .queued).Listens :=
  ⟨by decide +kernel,
    listening (by decide +kernel),
    ⟨_, rfl⟩,
    listening (by decide +kernel)⟩

/-- The window with one record in a state whose span ends 1 mm above 133,000, in a mode and phase. -/
def cutting (l : List Segment) (st : RecordState) (m : Mode) (p : Phase) (current : Option Nat) : State :=
  holding [record 1 120400 .done, record 2 121001 st]
    { sound with
      eng := ⟨.designing { farPass with seq := 2, chainage := 121001 }, none⟩
      seg := ⟨l, false, false⟩
      cyc := { calm.cyc with mode := m, phase := p, current := current } }

/-- R48, R149: the current record reverts and is waited for again; R55: the emptied queue is starved (log 45). -/
theorem test_segmentTruncate_current :
    let t := after (.segmentTruncate 5 1 133000) (cutting [s3] .designed .work .indexing (some 2))
    (t.cyc.phase, t.seg.segments, flagIn .segStarved t.cond.flags) = (.waitDesign, [], true) := by decide +kernel

/-- No such start, a start 120 mm before the detector's bound, and an acceptance; a design pass abandoned, and the current record reverted in WORK with a window left and with none. -/
theorem witness_WindowTruncated :
    ((∀ g ∈ sound.seg.segments, g.start ≠ 132000)
        ∧ sound.seg.segments = [s2] ++ s3 :: []
        ∧ (∀ h ∈ [s2], h.start ≠ 133000)
        ∧ s3.start = 133000
        ∧ 133000 ≤ detectorChainage (frameAt 123880 sound) + 120
        ∧ detectorChainage sound + sound.params.p35 < 133000
        ∧ (∀ b ∈ poolOf (s3 :: []), b.consumed = false)
        ∧ sound.cyc.mode ≠ .work
        ∧ sound.eng.activity = .designing farPass
        ∧ farPass.chainage + max sound.params.p01 sound.params.p03 ≤ 133000
        ∧ sound.cyc.current = none
        ∧ (record 2 121020 .designed).state = .designed
        ∧ 133000 < (record 2 121020 .designed).chainage + max sound.params.p01 sound.params.p03
        ∧ (133000 : Int) < 121001 + max sound.params.p01 sound.params.p03
        ∧ ¬ (133000 : Int) < 121000 + max sound.params.p01 sound.params.p03
        ∧ (s2.start : Int) ≤ 121001 - max sound.params.p02 sound.params.p04
        ∧ queueEnd [s2] = some 133000
        ∧ queueEnd [] = none
        ∧ (cutting [s2, s3] .queued .ready .none none).eng = ⟨.designing { farPass with seq := 2, chainage := 121001 }, none⟩
        ∧ (cutting [s2, s3] .queued .ready .none none).slp.records = [record 1 120400 .done] ++ record 2 121001 .queued :: []
        ∧ (record 2 121001 .queued).seq = 2
        ∧ (record 2 121001 .queued).chainage = 121001
        ∧ (record 1 120400 .done).state.finished = true
        ∧ (cutting [s2, s3] .queued .ready .none none).cyc.mode ≠ .work
        ∧ (cutting [s2, s3] .queued .ready .none none).cyc.current = none
        ∧ (cutting [s2, s3] .designed .work .seek (some 2)).cyc.current = some (record 2 121001 .designed).seq
        ∧ (cutting [s2, s3] .designed .work .seek (some 2)).cyc.pausePending = false
        ∧ (cutting [s2, s3] .designed .work .seek (some 2)).cond.armed = none
        ∧ (cutting [s2, s3] .designed .work .seek (some 2)).cond.stop = 0
        ∧ (cutting [s3] .designed .work .indexing (some 2)).cyc.phase = .indexing
        ∧ (cutting [s3] .designed .work .indexing (some 2)).seg.segments = [] ++ s3 :: []
        ∧ (cutting [s3] .designed .work .indexing (some 2)).seg.starved = false)
      ∧ sound.Listens
      ∧ (∀ h, [s2].head? = some h → detectorChainage sound - max sound.params.p02 sound.params.p04 < h.start + h.length)
      ∧ (cutting [s2, s3] .queued .ready .none none).Listens
      ∧ (cutting [s2, s3] .designed .work .seek (some 2)).Listens
      ∧ (cutting [s3] .designed .work .indexing (some 2)).Listens
      ∧ (∀ u, unitIn u 15 = true ↔ ((record 2 121001 .designed).plan = none ∨ ∃ p, (record 2 121001 .designed).plan = some p ∧ unitIn u p.tamp = true) ∧ unitIn u sound.headSet = true ∧ (sound.heads.get u).state ≠ .faulted) :=
  ⟨by decide +kernel,
    listening (by decide +kernel),
    (by intro d h; have e := Option.some.inj h; subst e; decide +kernel),
    listening (by decide +kernel),
    listening (by decide +kernel),
    listening (by decide +kernel),
    (fun u => ⟨fun _ => ⟨Or.inl rfl, by cases u <;> decide, by cases u <;> decide⟩, fun _ => by cases u <;> decide⟩)⟩

/-- A controller ready to start with a first record in a state at a chainage; the frame is at 100,000 and the
satellite 800 mm ahead. -/
def startWith (l : List Sleeper) : State := { indexStart with slp := { indexStart.slp with records := l } }

/-- Each refusal, a starved queue, no record, a QUEUED record, one beyond the stroke by 1 mm, and one at its end. -/
theorem witness_StartEntersWork :
    ((calmIn .halted .none).cyc.mode = .halted
        ∧ indexStart.cyc.mode = .ready
        ∧ calm.seg.starved = false
        ∧ indexStart.cond.armed = none
        ∧ indexStart.pos.drive = .riding
        ∧ (∀ r ∈ (startWith [record 4 99000 .done]).slp.records, r.state.finished = true)
        ∧ (startWith [record 4 99000 .done, record 5 101550 .queued]).slp.records = [record 4 99000 .done] ++ record 5 101550 .queued :: []
        ∧ 0 ≤ (record 5 105501 .designed).chainage - frameChainage indexStart
        ∧ indexStart.params.p09 < (record 5 105501 .designed).chainage - frameChainage indexStart
        ∧ (record 5 105500 .designed).chainage - frameChainage indexStart ≤ indexStart.params.p09
        ∧ 0 ≤ (record 5 105500 .designed).chainage - frameChainage indexStart
        ∧ headChainage indexStart = some 100800
        ∧ indexStart.params.p12 < ((100800 - 101550 : Int).natAbs : Int))
      ∧ indexStart.Listens
      ∧ (¬ ∀ c, c = ChannelId.xl → (State.reset.count.get c).nulled = true)
      ∧ (∀ c, c = .sat ∨ c = .lat ∨ c = .lvlL ∨ c = .lvlR ∨ c = .xl → (indexStart.count.get c).nulled = true)
      ∧ (∀ u, (indexStart.heads.get u).state = .faulted ∨ (indexStart.count.get (.dep u)).nulled = true)
      ∧ (∃ u, (State.reset.heads.get u).state = .parking)
      ∧ (∀ u, (indexStart.heads.get u).state ≠ .parking)
      ∧ (∀ e, queueEnd calm.seg.segments = some e → e < detectorChainage calm)
      ∧ (∃ e, queueEnd indexStart.seg.segments = some e ∧ detectorChainage indexStart ≤ e)
      ∧ (∀ u, unitIn u 15 = true ↔ ((record 5 101550 .queued).plan = none ∨ ∃ p, (record 5 101550 .queued).plan = some p ∧ unitIn u p.tamp = true) ∧ unitIn u indexStart.headSet = true ∧ (indexStart.heads.get u).state ≠ .faulted) :=
  ⟨by decide +kernel,
    listening (by decide +kernel),
    (fun h => by cases h .xl rfl),
    (by intro c h; rcases h with h | h | h | h | h <;> subst h <;> rfl),
    everyUnit (by decide +kernel),
    ⟨.LO, rfl⟩,
    everyUnit (by decide +kernel),
    (fun _ h => by cases h),
    ⟨180000, by decide +kernel⟩,
    (fun u => ⟨fun _ => ⟨Or.inl rfl, by cases u <;> decide, by cases u <;> decide⟩, fun _ => by cases u <;> decide⟩)⟩

/-- A controller whose only unfinished record cannot be worked at START, or is behind the frame. -/
def skipping (heads : UnitSet) (r : Sleeper) : State :=
  { startWith [record 4 99000 .done, r] with headSet := heads, eng := ⟨.designing farPass, none⟩ }

/-- An index to 101,550 that a count of ODO takes behind the frame. -/
def overtaken : State :=
  { startWith [record 5 101550 .designed] with
    cyc := { calm.cyc with mode := .work, phase := .indexing, current := some 5, active := some 15 }
    pos := { calm.pos with drive := .indexing, target := some 101550, datum := 101550500 }
    count := { indexStart.count with odo := { Channel.low with a := ⟨false, true, some 999998⟩ } }
    eng := ⟨.designing farPass, none⟩ }

/-- A record without cover, in a mode and phase, that a segment from 64,201 would come too late for. -/
def uncovered (m : Mode) (p : Phase) (before : List Sleeper) : State :=
  frameAt 60000 { calmIn m p with
    cyc := { (calmIn m p).cyc with current := some 6, active := some 3 }
    slp := { calm.slp with records := before ++ [record 6 69000 .queued] } }

/-- No head to use, and a record 1 mm behind the frame; an index overtaken by 1 mm; and a segment that begins 1 mm after the span of the first QUEUED record, alone, behind another, and waited for. -/
theorem witness_SkipsTaken :
    ((skipping 0 (record 5 101550 .queued)).cyc.mode = .ready
        ∧ (skipping 0 (record 5 101550 .queued)).cond.armed = none
        ∧ (skipping 0 (record 5 101550 .queued)).cond.stop = 0
        ∧ (skipping 0 (record 5 101550 .queued)).eng = ⟨.designing farPass, none⟩
        ∧ (skipping 0 (record 5 101550 .queued)).slp.records = [record 4 99000 .done] ++ record 5 101550 .queued :: []
        ∧ farPass.seq ≠ (record 5 101550 .queued).seq
        ∧ ({ farPass with seq := 5 }).seq = (record 5 101550 .queued).seq
        ∧ (record 5 99999 .designed).chainage < frameChainage (skipping 15 (record 5 99999 .designed))
        ∧ (15 : UnitSet) ≠ 0
        ∧ overtaken.powered = true
        ∧ overtaken.count.odo.a.since = some 999998
        ∧ overtaken.count.odo.paired = false
        ∧ overtaken.cyc.mode = .work
        ∧ overtaken.cyc.phase = .indexing
        ∧ overtaken.pos.drive = .indexing
        ∧ overtaken.pos.target = some 101550
        ∧ satOffset overtaken = some 800
        ∧ overtaken.cond.armed = none
        ∧ overtaken.cond.stop = 0
        ∧ overtaken.slp.detection = none
        ∧ (∀ b ∈ poolOf overtaken.seg.segments, b.consumed = true)
        ∧ overtaken.slp.records = [] ++ record 5 101550 .designed :: []
        ∧ overtaken.cyc.pausePending = false
        ∧ overtaken.cyc.current = some (record 5 101550 .designed).seq
        ∧ 101550 < frameChainage { overtaken with count := { overtaken.count with odo := { overtaken.count.odo with a := ⟨true, true, none⟩, count := 1 } } }
        ∧ appendRefusal { goodBody with start := some 64201 } (uncovered .ready .none []) = none
        ∧ (record 6 69000 .queued).chainage - max calm.params.p02 calm.params.p04 < 64201
        ∧ (uncovered .ready .none []).seg.segments = []
        ∧ (uncovered .ready .none []).eng = ⟨.idle, none⟩
        ∧ goodBody.bearers = none
        ∧ (record 3 66000 .designed).state ≠ .queued
        ∧ (record 3 66000 .designed).state.finished = false
        ∧ (record 3 66000 .done).state.finished = true
        ∧ (uncovered .work .waitDesign []).cyc.mode = .work
        ∧ (uncovered .work .waitDesign []).cyc.phase = .waitDesign
        ∧ (uncovered .work .waitDesign []).cyc.current = some (record 6 69000 .queued).seq
        ∧ (uncovered .work .waitDesign []).cyc.active = some 3
        ∧ appendRefusal { goodBody with start := some 64201 } (uncovered .work .waitDesign []) = none)
      ∧ (skipping 0 (record 5 101550 .queued)).Listens
      ∧ (∀ c, c = .sat ∨ c = .lat ∨ c = .lvlL ∨ c = .lvlR ∨ c = .xl → ((skipping 0 (record 5 101550 .queued)).count.get c).nulled = true)
      ∧ (∀ u, (calm.heads.get u).state ≠ .parking ∧ (calm.count.get (.dep u)).nulled = true)
      ∧ (∀ u, unitIn u 0 = true ↔ ((record 5 101550 .queued).plan = none ∨ ∃ p, (record 5 101550 .queued).plan = some p ∧ unitIn u p.tamp = true) ∧ unitIn u 0 = true ∧ (calm.heads.get u).state ≠ .faulted)
      ∧ (uncovered .ready .none []).Listens :=
  ⟨by decide +kernel,
    listening (by decide +kernel),
    (by intro c h; rcases h with h | h | h | h | h <;> subst h <;> rfl),
    everyUnit (by decide +kernel),
    (fun u => ⟨fun h => absurd h (by cases u <;> decide), fun h => h.2.1⟩),
    listening (by decide +kernel)⟩

/-- A controller in WAIT_DESIGN for record 12 with the frame at a chainage. -/
def waitingAt (frame : Int) : State :=
  holding [record 12 104800 .queued]
    (frameAt frame { calmIn .work .waitDesign with
      cyc := { (calmIn .work .waitDesign).cyc with current := some 12, active := some 15 }
      count := { calm.count with sat := nulledAt 800 }
      eng := ⟨.designing pass12, none⟩ })

/-- Record 12 one mm beyond the stroke, at its end, at the edge of the window, without the SAT null, and 1 mm behind the frame. -/
theorem witness_WaitDesignLeft :
    (waitingAt 99299).powered = true
        ∧ (waitingAt 99299).eng.activity = .designing pass12
        ∧ (waitingAt 99299).cyc.mode = .work
        ∧ (waitingAt 99299).cyc.phase = .waitDesign
        ∧ (waitingAt 99299).cyc.current = some pass12.seq
        ∧ unfinishedRecord pass12.seq (waitingAt 99299) = some (record 12 104800 .queued)
        ∧ (waitingAt 99299).cond.armed = none
        ∧ (waitingAt 99299).cond.stop = 0
        ∧ (waitingAt 99299).pos.drive = .riding
        ∧ (waitingAt 99299).params.p09 < (record 12 104800 .queued).chainage - frameChainage (waitingAt 99299)
        ∧ (record 12 104800 .queued).chainage - frameChainage (waitingAt 99300) ≤ (waitingAt 99300).params.p09
        ∧ headChainage (waitingAt 99300) = some 100100
        ∧ (waitingAt 99300).params.p12 < ((100100 - (record 12 104800 .queued).chainage).natAbs : Int)
        ∧ headChainage (waitingAt 103990) = some 104790
        ∧ satOffset (waitingAt 103990) = some 800
        ∧ ((104790 - (record 12 104800 .queued).chainage).natAbs : Int) ≤ (waitingAt 103990).params.p12
        ∧ reading .lat (waitingAt 103990) = some 0
        ∧ reading .lvlL (waitingAt 103990) = some 0
        ∧ reading .lvlR (waitingAt 103990) = some 0
        ∧ reading .xl (waitingAt 103990) = some 0
        ∧ satOffset ((waitingAt 99300).modCount fun q => { q with sat := .low }) = none
        ∧ (record 12 104800 .queued).chainage - frameChainage (waitingAt 104801) < 0 := by
  decide +kernel

/-- The satellite at the edge of the window about a sleeper at the frame's chainage plus 790. -/
theorem witness_ArrivalTaken :
    ((startWith [record 5 100790 .designed]).cyc.mode = .ready
        ∧ reading .lat indexStart = some 0
        ∧ reading .lvlL indexStart = some 0
        ∧ reading .lvlR indexStart = some 0
        ∧ reading .xl indexStart = some 0
        ∧ satOffset indexStart = some 800
        ∧ headChainage indexStart = some 100800
        ∧ indexStart.cond.armed = none
        ∧ indexStart.pos.drive = .riding
        ∧ indexStart.eng.activity = .idle
        ∧ (startWith [record 5 100790 .designed]).slp.records = [] ++ record 5 100790 .designed :: []
        ∧ (record 5 100790 .designed).design = some ⟨1242, 0, -540, .left, 400, -250⟩
        ∧ (record 5 100790 .designed).design.isSome = true
        ∧ (record 5 100790 .designed).state = .designed
        ∧ 0 ≤ (record 5 100790 .designed).chainage - frameChainage indexStart
        ∧ (record 5 100790 .designed).chainage - frameChainage indexStart ≤ indexStart.params.p09
        ∧ ((100800 - (record 5 100790 .designed).chainage).natAbs : Int) ≤ indexStart.params.p12
        ∧ (indexStart.heads.get .LO).state = .up
        ∧ depthOf .LO indexStart = some 0
        ∧ (indexStart.heads.get .LO).tilted = false
        ∧ depthOf .LO (depthLO 450 indexStart) = some 450
        ∧ indexStart.params.p24 ≤ 450)
      ∧ (startWith [record 5 100790 .designed]).Listens
      ∧ (∀ u, (indexStart.heads.get u).state = .faulted ∨ (indexStart.count.get (.dep u)).nulled = true)
      ∧ (∀ u, (indexStart.heads.get u).state ≠ .parking)
      ∧ (∀ x, (indexStart.axes.get x).state = .idle)
      ∧ (∃ e, queueEnd indexStart.seg.segments = some e ∧ detectorChainage indexStart ≤ e)
      ∧ (∃ u, ((record 5 100790 .designed).plan = none ∨ ∃ p, (record 5 100790 .designed).plan = some p ∧ unitIn u p.tamp = true) ∧ unitIn u indexStart.headSet = true ∧ (indexStart.heads.get u).state ≠ .faulted) :=
  ⟨by decide +kernel,
    listening (by decide +kernel),
    everyUnit (by decide +kernel),
    everyUnit (by decide +kernel),
    everyAxis (by decide +kernel),
    ⟨180000, by decide +kernel⟩,
    ⟨.LO, Or.inl rfl, by decide, by decide⟩⟩

/-- The last active unit ends its blind raise in CLEARING. -/
def finishing (pausePending : Bool) (armed : Option Flag) : State :=
  busyEngine (holding [record 12 104800 .inWork]
    { withLO (fun h => { h with state := .raising, stage := some .blind, timer := some soon }) calm with
      cyc := { calm.cyc with
        mode := .work, phase := .clearing, pausePending := pausePending, current := some 12, active := some 3
        stopwatch := some 900000 }
      cond := { calm.cond with armed := armed } })

/-- The last active unit raised with a count due that takes its depth from 61 mm to P25, and a top depth. -/
def clearingAt (top : Int) : State :=
  (withLO (fun h => { h with stage := some .normal, latched := some ⟨60, top⟩ }) (finishing false none)).modCount fun q =>
    q.set (.dep .LO) { nulledAt 61 with a := ⟨true, false, some 999998⟩ }

/-- The state with that count taken. -/
def clearingCounted (s : State) : State :=
  { s.beginBy 1000000 with
    count := s.count.set (.dep .LO) { s.count.get (.dep .LO) with a := ⟨false, false, none⟩, count := -1 } }

/-- With a pause pending, with a stop armed, and with neither; by the blind raise, and by the depth at P25 with the top depth above it and at it. -/
theorem witness_WorkFinished :
    ((finishing true none).powered = true
        ∧ ((finishing true none).heads.get .LO).state = .raising
        ∧ ((finishing true none).heads.get .LO).stage = some .blind
        ∧ ((finishing true none).heads.get .LO).timer = some soon
        ∧ (finishing true none).cyc.mode = .work
        ∧ (finishing true none).cyc.phase = .clearing
        ∧ (finishing true none).cyc.current = some (record 12 104800 .inWork).seq
        ∧ unfinishedRecord (record 12 104800 .inWork).seq (finishing true none) = some (record 12 104800 .inWork)
        ∧ (record 12 104800 .inWork).state = .inWork
        ∧ (finishing true none).cyc.active = some 3
        ∧ (finishing true none).cyc.stopwatch = some 900000
        ∧ unitIn .LO 3 = true
        ∧ (finishing true none).eng.activity = .designing farPass
        ∧ (finishing true none).cyc.pausePending = true
        ∧ (finishing false (some .lowPressure)).cyc.pausePending = false
        ∧ (finishing false (some .lowPressure)).cond.armed = some .lowPressure
        ∧ (finishing false none).cond.armed = none
        ∧ (∀ q ∈ (finishing false none).slp.records, q.state.finished = false → q = record 12 104800 .inWork)
        ∧ (clearingAt 10).powered = true
        ∧ ((clearingAt 10).count.get (.dep .LO)).a.since = some 999998
        ∧ ((clearingAt 10).count.get (.dep .LO)).paired = false
        ∧ (-1 : Int) = (if ((false != false) != channelIn (.dep .LO) (clearingAt 10).params.p39polarity) then (0 : Int) + 1 else 0 - 1)
        ∧ depthOf .LO (clearingAt 10) = some 61
        ∧ (clearingAt 10).params.p25 < 61
        ∧ depthOf .LO (clearingCounted (clearingAt 10)) = some 60
        ∧ 60 ≤ (clearingAt 10).params.p25
        ∧ ¬ (60 : Int) ≤ 10
        ∧ (60 : Int) ≤ 60
        ∧ ((clearingAt 10).heads.get .LO).state = .raising
        ∧ ((clearingAt 10).heads.get .LO).stage = some .normal
        ∧ ((clearingAt 10).heads.get .LO).latched = some ⟨60, 10⟩
        ∧ ((clearingAt 60).heads.get .LO).latched = some ⟨60, 60⟩
        ∧ ((clearingAt 10).heads.get .LO).pendingLower = false
        ∧ (clearingAt 10).cyc = (finishing false none).cyc
        ∧ (clearingAt 10).eng.activity = .designing farPass
        ∧ unfinishedRecord 12 (clearingAt 10) = some (record 12 104800 .inWork))
      ∧ (finishing true none).NoRelease
      ∧ (∀ v, v ≠ .LO → unitIn v 3 = true → ((finishing true none).heads.get v).state = .up ∨ ((finishing true none).heads.get v).state = .faulted)
      ∧ (∀ a, ((finishing true none).axes.get a).state = .idle)
      ∧ (clearingAt 10).NoRelease
      ∧ (∀ a, ((clearingAt 10).axes.get a).state = .idle) :=
  ⟨by decide +kernel,
    (fun a => by cases a <;> rfl),
    (fun v h _ => by cases v <;> first | exact absurd rfl h | exact Or.inl rfl),
    everyAxis (by decide +kernel),
    (fun a => by cases a <;> rfl),
    everyAxis (by decide +kernel)⟩

/-- Each case of both requests. -/
theorem witness_PauseAndClearHaltTaken :
    (calm.cyc.mode ≠ .work
        ∧ calm.cyc.mode ≠ .halted
        ∧ (calmIn .work .waitDesign).cyc.mode = .work
        ∧ (calmIn .work .waitDesign).cyc.phase = .waitDesign
        ∧ (calmIn .work .indexing).cyc.phase ≠ .seek
        ∧ (calmIn .work .indexing).cyc.phase ≠ .waitDesign
        ∧ (calmIn .halted .none).cyc.mode = .halted)
      ∧ calm.Listens
      ∧ (¬ ∀ u, ((withLO (fun h => { h with state := .opening }) (calmIn .halted .none)).heads.get u).state = .up)
      ∧ (∀ u, ((calmIn .halted .none).heads.get u).state = .up ∨ ((calmIn .halted .none).heads.get u).state = .faulted)
      ∧ (∀ a, ((calmIn .halted .none).axes.get a).state = .idle) :=
  ⟨by decide +kernel,
    listening (by decide +kernel),
    (fun h => by cases h .LO),
    everyUnit (by decide +kernel),
    everyAxis (by decide +kernel)⟩

/-- READY, and WORK with a record IN_WORK. -/
theorem witness_StopHalts :
    (calm.cyc.mode = .ready
        ∧ (finishing false none).cyc.mode = .work
        ∧ (finishing false none).cyc.current = some (record 12 104800 .inWork).seq
        ∧ unfinishedRecord 12 (finishing false none) = some (record 12 104800 .inWork)
        ∧ (record 12 104800 .inWork).state = .inWork
        ∧ (after (.stop 5 1) (busyEngine (finishing false none))).cond.flags = (finishing false none).cond.flags
        ∧ (busyEngine (finishing false none)).eng.activity = .designing farPass
        ∧ record 11 104200 .done ∈ [record 11 104200 .done]
        ∧ (record 11 104200 .done).state.finished = true)
      ∧ (finishing false none).Listens
      ∧ (finishing false none).LowersPendRaising :=
  ⟨by decide +kernel,
    listening (by decide +kernel),
    (fun u h => by cases u <;> cases h)⟩

/-- WORK, READY with an idle transmitter, and HALTED with a work record being sent. -/
theorem witness_JobCleared :
    ((calmIn .work .seek).cyc.mode = .work
        ∧ calm.cyc.mode = .ready
        ∧ calm.seg.lookAhead = true
        ∧ (portWith fun l => { l with tx := some ⟨.workRecord, [], 0⟩ }).link.tx = some ⟨.workRecord, [], 0⟩
        ∧ (holding [record 1 5 .done] (portWith fun l => { l with tx := some ⟨.workRecord, [], 0⟩ })).slp.records = record 1 5 .done :: []
        ∧ (calmIn .halted .none).cyc.mode = .halted)
      ∧ calm.Listens
      ∧ (∀ x, calm.link.tx = some x → x.source ≠ .workRecord) :=
  ⟨by decide +kernel,
    listening (by decide +kernel),
    (fun _ h => by cases h)⟩

/-- The greatest set of units, and the least byte that names something else. All twenty flags, and the first bit beyond them. All twenty flags, and the first bit beyond them. -/
theorem witness_SetsReplaced :
    ((15 : Byte).toNat < 16
        ∧ 16 ≤ (16 : Byte).toNat
        ∧ (0x0FFFFF : BitVec 24).toNat < 1048576
        ∧ 1048576 ≤ (0x100000 : BitVec 24).toNat)
      ∧ calm.Listens
      ∧ (∃ t, exec (.jobClear 5 1) calm = .next t) :=
  ⟨by decide +kernel,
    listening (by decide +kernel),
    ⟨_, rfl⟩⟩

/-- Each refusal and each kind of acceptance, at the ends of the ids and ranges. -/
theorem witness_ParameterConfigured :
    (¬ (1 ≤ (40 : Byte).toNat ∧ (40 : Byte).toNat ≤ 39)
        ∧ (9 : Byte).toNat ≤ 9
        ∧ (calmIn .work .seek).cyc.mode ≠ .ready
        ∧ calm.cyc.mode = .ready
        ∧ inRange 5 99 = false
        ∧ inRange 16 2000 = true
        ∧ ¬ ({ calm with params := { Params.defaults with p17 := 1999 } }.params.put 16 2000).p16 ≤ ({ calm with params := { Params.defaults with p17 := 1999 } }.params.put 16 2000).p17
        ∧ 1 ≤ (39 : Byte).toNat
        ∧ (39 : Byte).toNat ≤ 39)
      ∧ calm.Listens
      ∧ calm.params.Legal
      ∧ (inRange 33 300 = true ∧ (calm.params.put 33 300).Crossed ∧ sound.slp.records ≠ [])
      ∧ (inRange 5 500 = true ∧ calm.params.value 5 = 500 ∧ (calm.params.put 5 500).Crossed)
      ∧ (inRange 35 300 = true ∧ (calm.params.put 35 300).Crossed)
      ∧ (inRange 5 5000 = true ∧ calm.params.value 5 ≠ 5000 ∧ (calm.params.put 5 5000).Crossed)
      ∧ (inRange 37 0 = true ∧ calm.params.value 37 ≠ 0 ∧ (calm.params.put 37 0).Crossed) :=
  ⟨by decide +kernel,
    listening (by decide +kernel),
    defaults_legal,
    ⟨by decide, by constructor <;> decide, by decide⟩,
    ⟨by decide, by decide, by constructor <;> decide⟩,
    ⟨by decide, by constructor <;> decide⟩,
    ⟨by decide, by decide, by constructor <;> decide⟩,
    ⟨by decide, by decide, by constructor <;> decide⟩⟩

/-- The drive HOLDING at 700 with the satellite at an offset, at work, for changes of its parameters. -/
def holdingAt (offset : Int) : State :=
  { calmIn .work .working with
    pos := { calm.pos with drive := .holding, target := some 700 }
    count := { calm.count with sat := nulledAt offset } }

/-- The detector line timed since 3 µs before the clock. -/
def detecting : State := calm.modCount fun q => { q with detector := ⟨false, true, some 999997⟩ }

/-- Each parameter that acts at once, with its condition at the edge. -/
theorem witness_ParameterChangesActed :
    (inRange 1 9000 = true
        ∧ inRange 8 20000 = true
        ∧ inRange 36 200000 = true
        ∧ inRange 10 700 = true
        ∧ inRange 11 700 = true
        ∧ inRange 12 30 = true
        ∧ inRange 13 50 = true
        ∧ inRange 14 20 = true
        ∧ inRange 38 3 = true
        ∧ inRange 39 2047 = true
        ∧ calm.params.value 1 ≠ 9000
        ∧ calm.params.value 8 ≠ 20000
        ∧ calm.params.value 36 ≠ 200000
        ∧ calm.params.value 10 ≠ 700
        ∧ calm.params.value 11 ≠ 700
        ∧ calm.params.value 12 ≠ 30
        ∧ calm.params.value 13 ≠ 50
        ∧ calm.params.value 14 ≠ 20
        ∧ calm.params.value 38 ≠ 3
        ∧ calm.params.value 39 ≠ 2047
        ∧ sound.cyc.mode = .ready
        ∧ sound.slp.records[0]? = some (record 1 120400 .designed)
        ∧ (record 1 120400 .designed).state = .designed
        ∧ calm.seg.segments = []
        ∧ calm.eng.request = none
        ∧ sound.cyc.mode ≠ .work
        ∧ sound.eng.activity = .designing farPass
        ∧ (holdingAt 700).cyc.mode = .work
        ∧ (holdingAt 700).pos.drive = .holding
        ∧ satOffset (holdingAt 700) = some 700
        ∧ (700 : Int) ≤ (calm.params.put 11 700).p11
        ∧ (holdingAt 700).pos.strokeTerm = .go
        ∧ (holdingAt 720).pos.target = some 700
        ∧ headChainage (holdingAt 720) = some 720
        ∧ satOffset (holdingAt 720) = some 720
        ∧ ({ satStep .indexing .indexing 969 with count := { calm.count with sat := nulledAt 969 } }).cyc.phase = .indexing
        ∧ (calm.params.put 12 30).p12 < ((969 - 1000 : Int).natAbs : Int)
        ∧ detecting.count.detector.since = some 999997
        ∧ (999997 : Nat) + 3 ≤ detecting.clock + 0)
      ∧ calm.Listens
      ∧ calm.params.Legal
      ∧ sound.Listens
      ∧ (holdingAt 700).Listens
      ∧ detecting.Listens
      ∧ ((calm.params.put 1 9000).Crossed ∧ (calm.params.put 8 20000).Crossed ∧ (calm.params.put 36 200000).Crossed)
      ∧ ((calm.params.put 10 700).Crossed ∧ (calm.params.put 11 700).Crossed ∧ (calm.params.put 12 30).Crossed)
      ∧ ((calm.params.put 13 50).Crossed ∧ (calm.params.put 14 20).Crossed ∧ (calm.params.put 38 3).Crossed ∧ (calm.params.put 39 2047).Crossed)
      ∧ (∀ p, calm.eng.activity ≠ .targeting p)
      ∧ (holdingAt 700).InWorkOrOut
      ∧ (∀ l t0, (calm.count.filter l).since = some t0 → calm.clock + 0 < t0 + 3)
      ∧ calm.NoRelease :=
  ⟨by decide +kernel,
    listening (by decide +kernel),
    defaults_legal,
    listening (by decide +kernel),
    listening (by decide +kernel),
    listening (by decide +kernel),
    (by refine ⟨?_, ?_, ?_⟩ <;> constructor <;> decide),
    (by refine ⟨?_, ?_, ?_⟩ <;> constructor <;> decide),
    (by refine ⟨?_, ?_, ?_, ?_⟩ <;> constructor <;> decide),
    (fun p h => by cases h),
    (fun _ => Or.inr (Or.inl rfl)),
    (by intro l t0 h; rcases l with c | c | _ | u <;> first | cases h | (rcases c with _ | _ | _ | _ | _ | _ | u <;> first | cases h | (cases u <;> cases h)) | (cases u <;> cases h)),
    (fun a => by cases a <;> rfl)⟩

/-- Each mode, and the last reply behind a RESTART on the line. -/
theorem witness_SaveAndRestartTaken :
    ((calmIn .work .seek).cyc.mode ≠ .ready
        ∧ calm.cyc.mode = .ready
        ∧ (calmIn .work .seek).cyc.mode = .work
        ∧ (after (.restart 5 1) calm).powered = true
        ∧ (after (.restart 5 1) calm).link.restart = true
        ∧ (after (.restart 5 1) calm).link.full = []
        ∧ (after (.restart 5 1) calm).link.replies.length = 1
        ∧ (after (.restart 5 1) calm).link.tx.map (·.source) = some .reply)
      ∧ calm.Listens :=
  ⟨by decide +kernel,
    listening (by decide +kernel)⟩

end Sys2Proof.Tests
end

section
/-! What the travel governor reads (R34, R35), and which operations of the blocks leave all of it alone. -/

namespace Sys2Proof.Machine

/-- The travel demand with all that R34 and R35 determine it from: the mode and phase, the state of the
satellite drive, the number of sleeper records, the satellite offset, and P10 and P11. -/
structure Governed where
  demand : Demand
  mode : Mode
  phase : Phase
  drive : Drive
  records : Nat
  offset : Option Int
  creepBelow : Int
  stopBelow : Int

/-- The part of a state that the travel governor reads and sets. -/
def State.governed (s : State) : Governed where
  demand := s.pos.demand
  mode := s.cyc.mode
  phase := s.cyc.phase
  drive := s.pos.drive
  records := s.slp.records.length
  offset := satOffset s
  creepBelow := s.params.p10
  stopBelow := s.params.p11

/-! ### The demand by mode, and its dependence on the governed part alone -/

section demand
variable {s t : State}

theorem demandOf_of_ready (h : s.cyc.mode = .ready) : demandOf s = .go := by
  rw [demandOf, h]

theorem demandOf_of_resting (h : s.cyc.mode = .paused ∨ s.cyc.mode = .halted) : demandOf s = .stop := by
  rcases h with h | h <;> rw [demandOf, h]

theorem demandOf_of_work (h : s.cyc.mode = .work) :
    demandOf s = if 15 ≤ s.slp.records.length ∨ s.cyc.phase = .waitDesign then .stop else strokeTermOf s := by
  rw [demandOf, h]

/-- The stroke term by the offset, at work with the drive HOLDING (R35). -/
theorem strokeTermOf_of_offset {o : Int} (hm : s.cyc.mode = .work) (hd : s.pos.drive = .holding)
    (ho : satOffset s = some o) :
    strokeTermOf s = if o ≤ s.params.p11 then .stop else if o ≤ s.params.p10 then .creep else .go := by
  simp [strokeTermOf, hm, hd, ho]

theorem strokeTermOf_of_no_offset (ho : satOffset s = none) : strokeTermOf s = .go := by
  simp [strokeTermOf, ho]

theorem strokeTermOf_of_not_holding (hd : s.pos.drive ≠ .holding) : strokeTermOf s = .go :=
  if_neg fun h => hd h.2

theorem strokeTermOf_eq_stop_iff (hm : s.cyc.mode = .work) :
    strokeTermOf s = .stop ↔ s.pos.drive = .holding ∧ ∃ o, satOffset s = some o ∧ o ≤ s.params.p11 := by
  by_cases hd : s.pos.drive = .holding
  · cases ho : satOffset s with
    | none => simp [strokeTermOf_of_no_offset ho]
    | some o =>
      rw [strokeTermOf_of_offset hm hd ho]
      grind
  · simp [strokeTermOf_of_not_holding hd, hd]

theorem strokeTermOf_eq_creep_iff (hm : s.cyc.mode = .work) :
    strokeTermOf s = .creep ↔ s.creepTerm := by
  unfold State.creepTerm
  by_cases hd : s.pos.drive = .holding
  · cases ho : satOffset s with
    | none => simp [strokeTermOf_of_no_offset ho]
    | some o =>
      rw [strokeTermOf_of_offset hm hd ho]
      grind
  · simp [strokeTermOf_of_not_holding hd, hd]

theorem demandOf_eq_stop_iff (hm : s.cyc.mode = .work) : demandOf s = .stop ↔ s.stopTerm := by
  rw [demandOf_of_work hm, State.stopTerm, ← strokeTermOf_eq_stop_iff hm]
  split <;> grind

theorem demandOf_eq_creep_iff (hm : s.cyc.mode = .work) : demandOf s = .creep ↔ ¬ s.stopTerm ∧ s.creepTerm := by
  rw [demandOf_of_work hm, State.stopTerm, ← strokeTermOf_eq_stop_iff hm, ← strokeTermOf_eq_creep_iff hm]
  split <;> grind

/-- The demand is current exactly where it is the one that a re-determination would give. -/
theorem demandCurrent_iff : s.DemandCurrent ↔ s.pos.demand = demandOf s := by
  constructor
  · intro h
    cases hm : s.cyc.mode with
    | ready => rw [demandOf_of_ready hm, h.ready hm]
    | paused => rw [demandOf_of_resting (.inl hm), h.resting (.inl hm)]
    | halted => rw [demandOf_of_resting (.inr hm), h.resting (.inr hm)]
    | work =>
      have hstop := (h.stops hm).trans (demandOf_eq_stop_iff hm).symm
      have hcreep := (h.creeps hm).trans (demandOf_eq_creep_iff hm).symm
      cases hd : s.pos.demand <;> cases ho : demandOf s <;> simp_all
  · intro h
    constructor
    · exact fun hm => h.trans (demandOf_of_ready hm)
    · exact fun hm => h.trans (demandOf_of_resting hm)
    · exact fun hm => h ▸ demandOf_eq_stop_iff hm
    · exact fun hm => h ▸ demandOf_eq_creep_iff hm

theorem demandOf_congr (h : t.governed = s.governed) : demandOf t = demandOf s := by
  simp only [State.governed, Governed.mk.injEq] at h
  obtain ⟨-, hmode, hphase, hdrive, hrecords, hoffset, hp10, hp11⟩ := h
  simp only [demandOf, strokeTermOf, hmode, hphase, hdrive, hrecords, hoffset, hp10, hp11]

theorem State.DemandCurrent.of_governed (h : s.DemandCurrent) (hg : t.governed = s.governed) :
    t.DemandCurrent := by
  have hdemand : t.pos.demand = s.pos.demand := congrArg Governed.demand hg
  rw [demandCurrent_iff] at h ⊢
  rw [hdemand, demandOf_congr hg, h]

end demand
end Sys2Proof.Machine
end

section
/-! ### What the operations of the blocks leave to the travel governor -/

namespace Sys2Proof.Machine

/-! #### Updates of one block -/

@[simp] theorem modSeg_governed (s : State) (f : SegmentQueue → SegmentQueue) :
    (s.modSeg f).governed = s.governed := rfl

@[simp] theorem modEng_governed (s : State) (f : Engine → Engine) : (s.modEng f).governed = s.governed := rfl

@[simp] theorem modAxis_governed (s : State) (a : AxisId) (f : Axis → Axis) :
    (s.modAxis a f).governed = s.governed := rfl

@[simp] theorem modHead_governed (s : State) (u : UnitId) (f : Head → Head) :
    (s.modHead u f).governed = s.governed := rfl

@[simp] theorem modCond_governed (s : State) (f : Conditions → Conditions) :
    (s.modCond f).governed = s.governed := rfl

@[simp] theorem modLink_governed (s : State) (f : Link → Link) : (s.modLink f).governed = s.governed := rfl

@[simp] theorem modStore_governed (s : State) (f : Store → Store) : (s.modStore f).governed = s.governed := rfl

@[simp] theorem freeOrder_governed (s : State) : s.freeOrder.2.governed = s.governed := rfl

@[simp] theorem beginAt_governed (s : State) (dt : Nat) : (s.beginAt dt).governed = s.governed := rfl

@[simp] theorem beginBy_governed (s : State) (t : Nat) : (s.beginBy t).governed = s.governed := rfl

@[simp] theorem modSlp_governed (s : State) (f : SleeperQueue → SleeperQueue)
    (h : (f s.slp).records.length = s.slp.records.length) : (s.modSlp f).governed = s.governed := by
  simp only [State.governed, State.modSlp_slp, h]
  rfl

@[simp] theorem modCyc_governed (s : State) (f : Cycle → Cycle) (hm : (f s.cyc).mode = s.cyc.mode)
    (hp : (f s.cyc).phase = s.cyc.phase) : (s.modCyc f).governed = s.governed := by
  simp only [State.governed, State.modCyc_cyc, hm, hp]
  rfl

/-- A fold of operations that leave the governed part alone leaves it alone. -/
@[simp] theorem foldl_governed {α : Type} {f : State → α → State} (h : ∀ s x, (f s x).governed = s.governed)
    (l : List α) (s : State) : (l.foldl f s).governed = s.governed := by
  induction l generalizing s with
  | nil => rfl
  | cons x xs ih => rw [List.foldl_cons, ih, h]

/-! #### Machine/Flags.lean -/

@[simp] theorem fillCondition_governed (f : Flag) (s : State) : (fillCondition f s).governed = s.governed := rfl

@[simp] theorem armStop_governed (f : Flag) (s : State) : (armStop f s).governed = s.governed := by
  unfold armStop
  split <;> simp

@[simp] theorem setFlag_governed (f : Flag) (s : State) : (setFlag f s).governed = s.governed := by
  unfold setFlag
  split
  · rfl
  · dsimp only
    split <;> simp

@[simp] theorem addRecordFlag_governed (f : Flag) (s : State) : (addRecordFlag f s).governed = s.governed := by
  simp [addRecordFlag]

@[simp] theorem recordFlag_governed (f : Flag) (s : State) : (recordFlag f s).governed = s.governed := by
  simp [recordFlag]

/-! #### Machine/Position.lean -/

@[simp] theorem refreshOutput_governed (s : State) : (refreshOutput s).governed = s.governed := rfl

/-! #### Machine/Axes.lean -/

@[simp] theorem measureOvershoot_governed (a : AxisId) (s : State) :
    (measureOvershoot a s).governed = s.governed := by
  unfold measureOvershoot
  split
  · rfl
  · dsimp only
    split
    · simp
    · split <;> simp

@[simp] theorem enterHold_governed (a : AxisId) (outcome : AxisOutcome) (s : State) :
    (enterHold a outcome s).governed = s.governed := by
  simp [enterHold]

@[simp] theorem prepareAxis_governed (a : AxisId) (s : State) : (prepareAxis a s).governed = s.governed := rfl

@[simp] theorem enterDriving_governed (a : AxisId) (dir : Option LineDir) (s : State) :
    (enterDriving a dir s).governed = s.governed := rfl

@[simp] theorem startAxis_governed (a : AxisId) (vt : Int) (s : State) :
    (startAxis a vt s).governed = s.governed := by
  unfold startAxis
  split
  · dsimp only
    split
    · simp
    · split
      · simp
      · split <;> simp
  · rfl

@[simp] theorem judgeReversal_governed (a : AxisId) (dir : LineDir) (s : State) :
    (judgeReversal a dir s).governed = s.governed := by
  unfold judgeReversal
  extract_lets x limit
  split <;> simp

@[simp] theorem judgeAxis_governed (a : AxisId) (s : State) : (judgeAxis a s).governed = s.governed := by
  unfold judgeAxis
  dsimp only
  split
  · split
    · split <;> simp
    · split
      · rfl
      · split
        · split <;> simp
        · simp
    · rfl
  · rfl

@[simp] theorem timeOutAxis_governed (a : AxisId) (s : State) : (timeOutAxis a s).governed = s.governed := by
  unfold timeOutAxis
  split <;> simp

@[simp] theorem cutAxis_governed (a : AxisId) (s : State) : (cutAxis a s).governed = s.governed := by
  unfold cutAxis
  split <;> simp

@[simp] theorem finishRelease_governed (a : AxisId) (s : State) :
    (finishRelease a s).governed = s.governed := rfl

@[simp] theorem takeRelease_governed (a : AxisId) (s : State) : (takeRelease a s).governed = s.governed := by
  unfold takeRelease
  split <;> simp

@[simp] theorem releaseAxis_governed (a : AxisId) (s : State) : (releaseAxis a s).governed = s.governed := by
  unfold releaseAxis
  split <;> simp

@[simp] theorem releaseAxes_governed (s : State) : (releaseAxes s).governed = s.governed := by
  simp [releaseAxes]

@[simp] theorem settleReleases_governed (s : State) : (settleReleases s).governed = s.governed := by
  unfold settleReleases
  split
  · rfl
  · exact foldl_governed (fun t a => by split <;> simp) _ _

/-! #### Machine/Workheads.lean -/

@[simp] theorem enterOpening_governed (u : UnitId) (s : State) : (enterOpening u s).governed = s.governed := rfl

@[simp] theorem endPhase_governed (u : UnitId) (s : State) : (endPhase u s).governed = s.governed := by
  unfold endPhase
  dsimp only
  split <;> simp

@[simp] theorem seePressure_governed (u : UnitId) (s : State) : (seePressure u s).governed = s.governed := by
  unfold seePressure
  dsimp only
  split
  · split <;> simp
  · rfl

@[simp] theorem enterSqueezing_governed (u : UnitId) (s : State) :
    (enterSqueezing u s).governed = s.governed := by
  unfold enterSqueezing
  dsimp only
  split <;> simp

@[simp] theorem judgeGate_governed (u : UnitId) (s : State) : (judgeGate u s).governed = s.governed := by
  unfold judgeGate
  split <;> simp

@[simp] theorem openGate_governed (s : State) : (openGate s).governed = s.governed := by
  simp [openGate]

@[simp] theorem enterInserted_governed (u : UnitId) (s : State) :
    (enterInserted u s).governed = s.governed := by
  simp [enterInserted]

@[simp] theorem judgeLowering_governed (u : UnitId) (s : State) :
    (judgeLowering u s).governed = s.governed := by
  unfold judgeLowering
  split
  · split <;> simp
  · rfl

@[simp] theorem enterLowering_governed (u : UnitId) (s : State) :
    (enterLowering u s).governed = s.governed := by
  simp [enterLowering]

@[simp] theorem enterTilting_governed (u : UnitId) (tilted : Bool) (s : State) :
    (enterTilting u tilted s).governed = s.governed := rfl

@[simp] theorem takeLower_governed (u : UnitId) (p : HeadPlan) (s : State) :
    (takeLower u p s).governed = s.governed := by
  unfold takeLower
  dsimp only
  split <;> simp

@[simp] theorem enterUp_governed (u : UnitId) (s : State) : (enterUp u s).governed = s.governed := by
  unfold enterUp
  dsimp only
  split
  · split <;> simp
  · simp

@[simp] theorem judgeRaising_governed (u : UnitId) (s : State) : (judgeRaising u s).governed = s.governed := by
  unfold judgeRaising
  split
  · split <;> simp
  · rfl

@[simp] theorem enterRaising_governed (u : UnitId) (s : State) : (enterRaising u s).governed = s.governed := by
  simp [enterRaising]

@[simp] theorem enterBlind_governed (u : UnitId) (s : State) : (enterBlind u s).governed = s.governed := rfl

@[simp] theorem enterFaulted_governed (u : UnitId) (s : State) : (enterFaulted u s).governed = s.governed := rfl

@[simp] theorem enterStuck_governed (u : UnitId) (s : State) : (enterStuck u s).governed = s.governed := rfl

@[simp] theorem markFaulted_governed (u : UnitId) (s : State) : (markFaulted u s).governed = s.governed := by
  simp [markFaulted]

@[simp] theorem loseDepth_governed (u : UnitId) (s : State) : (loseDepth u s).governed = s.governed := by
  unfold loseDepth
  dsimp only
  split
  case h_3 => split <;> simp
  all_goals simp

@[simp] theorem deepen_governed (u : UnitId) (s : State) : (deepen u s).governed = s.governed := by
  unfold deepen
  split <;> simp

@[simp] theorem changeDepth_governed (u : UnitId) (s : State) : (changeDepth u s).governed = s.governed := by
  unfold changeDepth
  dsimp only
  split <;> simp

@[simp] theorem arrivalOrder_governed (u : UnitId) (plan : Option HeadPlan) (s : State) :
    (arrivalOrder u plan s).governed = s.governed := by
  unfold arrivalOrder
  dsimp only
  split
  · rfl
  · split
    · split <;> simp
    · rfl
    · rfl

@[simp] theorem abortHead_governed (u : UnitId) (s : State) : (abortHead u s).governed = s.governed := by
  unfold abortHead
  split <;> simp

@[simp] theorem abortHeads_governed (s : State) : (abortHeads s).governed = s.governed := by
  simp [abortHeads]

@[simp] theorem endTilt_governed (u : UnitId) (s : State) : (endTilt u s).governed = s.governed := by
  unfold endTilt
  split <;> simp

@[simp] theorem blockHead_governed (u : UnitId) (s : State) : (blockHead u s).governed = s.governed := by
  simp [blockHead]

@[simp] theorem endOpening_governed (u : UnitId) (s : State) : (endOpening u s).governed = s.governed := by
  unfold endOpening
  extract_lets h planned
  split
  · simp
  · split <;> simp

@[simp] theorem endParking_governed (u : UnitId) (s : State) : (endParking u s).governed = s.governed := by
  unfold endParking
  split <;> simp

/-! #### Machine/Records.lean -/

@[simp] theorem modRecord_governed (seq : Nat) (f : Sleeper → Sleeper) (s : State) :
    (modRecord seq f s).governed = s.governed := by
  simp [modRecord]

/-! #### Machine/Segments.lean -/

@[simp] theorem retireSegments_governed (s : State) : (retireSegments s).governed = s.governed := rfl

@[simp] theorem judgeLookAhead_governed (appended : Bool) (s : State) :
    (judgeLookAhead appended s).governed = s.governed := by
  unfold judgeLookAhead
  dsimp only
  split <;> rfl

@[simp] theorem judgeStarved_governed (s : State) : (judgeStarved s).governed = s.governed := by
  unfold judgeStarved
  split
  · dsimp only
    split <;> simp
  · rfl

@[simp] theorem consumeBearer_governed (c : Int) (s : State) : (consumeBearer c s).governed = s.governed := rfl

/-! #### Machine/Engine.lean -/

@[simp] theorem beginDesign_governed (r : Sleeper) (s : State) : (beginDesign r s).governed = s.governed := rfl

@[simp] theorem beginTarget_governed (req : TargetRequest) (s : State) :
    (beginTarget req s).governed = s.governed := by
  unfold beginTarget
  split <;> simp

@[simp] theorem abandonDesign_governed (test : DesignPass → Bool) (s : State) :
    (abandonDesign test s).governed = s.governed := rfl

@[simp] theorem requestTarget_governed (req : TargetRequest) (s : State) :
    (requestTarget req s).governed = s.governed := by
  unfold requestTarget
  dsimp only
  split <;> simp

/-! #### Machine/Cycle.lean -/

@[simp] theorem prepareAxes_governed (s : State) : (prepareAxes s).governed = s.governed :=
  foldl_governed (fun t a => prepareAxis_governed a t) allAxes s

@[simp] theorem arrivalOrders_governed (r : Sleeper) (withPlans : Bool) (s : State) :
    (arrivalOrders r withPlans s).governed = s.governed := by
  simp [arrivalOrders]

end Sys2Proof.Machine
end

section
/-! ### Operations that re-determine the demand, and operations that keep it current -/

namespace Sys2Proof.Machine

variable {s : State}

/-! #### Machine/Position.lean and Machine/Halts.lean -/

theorem setFlag_cyc (f : Flag) (s : State) : (setFlag f s).cyc = s.cyc := by
  unfold setFlag armStop
  split
  · rfl
  · dsimp only
    split <;> split <;> rfl

theorem setFlag_slp (f : Flag) (s : State) : (setFlag f s).slp = s.slp := by
  unfold setFlag armStop
  split
  · rfl
  · dsimp only
    split <;> split <;> rfl

@[simp] theorem refreshDemand_cyc (s : State) : (refreshDemand s).cyc = s.cyc := by
  unfold refreshDemand
  dsimp only
  split
  · exact setFlag_cyc _ _
  · rfl

@[simp] theorem refreshDemand_slp (s : State) : (refreshDemand s).slp = s.slp := by
  unfold refreshDemand
  dsimp only
  split
  · exact setFlag_slp _ _
  · rfl

@[simp] theorem setPhase_cyc (p : Phase) (s : State) : (setPhase p s).cyc = { s.cyc with phase := p } :=
  refreshDemand_cyc _

@[simp] theorem setPhase_slp (p : Phase) (s : State) : (setPhase p s).slp = s.slp := refreshDemand_slp _

/-- A re-determination (R34) makes the demand current, whatever it was before. -/
theorem refreshDemand_demandCurrent (s : State) : (refreshDemand s).DemandCurrent := by
  have hjudged : (s.modPos fun p =>
      { p with demand := demandOf s, strokeTerm := strokeTermOf s }).DemandCurrent :=
    demandCurrent_iff.mpr rfl
  unfold refreshDemand
  dsimp only
  split
  · exact hjudged.of_governed (setFlag_governed _ _)
  · exact hjudged

theorem rideDrive_demandCurrent (s : State) : (rideDrive s).DemandCurrent := refreshDemand_demandCurrent _

theorem setPhase_demandCurrent (p : Phase) (s : State) : (setPhase p s).DemandCurrent :=
  refreshDemand_demandCurrent _

theorem enterMode_demandCurrent (m : Mode) (s : State) : (enterMode m s).DemandCurrent :=
  refreshDemand_demandCurrent _

theorem haltOrders_demandCurrent (s : State) : (haltOrders s).DemandCurrent :=
  (rideDrive_demandCurrent s).of_governed (by simp [haltOrders])

theorem orderlyHalt_demandCurrent (f : Flag) (s : State) : (orderlyHalt f s).DemandCurrent :=
  haltOrders_demandCurrent _

namespace State.DemandCurrent

theorem after_setFlag (h : s.DemandCurrent) (f : Flag) : (setFlag f s).DemandCurrent :=
  h.of_governed (setFlag_governed f s)

theorem after_actOnStop (h : s.DemandCurrent) : (actOnStop s).DemandCurrent := by
  unfold actOnStop
  split
  · split
    · exact orderlyHalt_demandCurrent _ _
    · exact h
  · exact h

theorem after_raiseFlag (h : s.DemandCurrent) (f : Flag) : (raiseFlag f s).DemandCurrent :=
  (h.after_setFlag f).after_actOnStop

/-! #### Machine/Segments.lean and Machine/Engine.lean -/

theorem after_judgeSegments (h : s.DemandCurrent) : (judgeSegments s).DemandCurrent :=
  (h.of_governed (t := judgeStarved _) (by simp)).after_actOnStop

theorem after_noCoverSkip (h : s.DemandCurrent) (r : Sleeper) : (noCoverSkip r s).DemandCurrent := by
  unfold noCoverSkip
  dsimp only
  refine (after_raiseFlag ?_ _).after_judgeSegments
  split
  · exact setPhase_demandCurrent _ _
  · exact h.of_governed (modRecord_governed _ _ _)

theorem after_engineLoop (n : Nat) (h : s.DemandCurrent) : (engineLoop n s).DemandCurrent := by
  induction n generalizing s with
  | zero => exact h
  | succ n ih =>
    unfold engineLoop
    split
    · exact h.of_governed (beginTarget_governed _ _)
    · split
      · exact h
      · exact h.of_governed (beginDesign_governed _ _)
      · exact ih (h.after_noCoverSkip _)
    · exact h

theorem after_judgeEngine (h : s.DemandCurrent) : (judgeEngine s).DemandCurrent := h.after_engineLoop _

/-! #### Halts and skips (Machine/Cycle.lean) -/

theorem after_hardHalt (h : s.DemandCurrent) (cause : HaltCause) (detail : Option Detail) :
    (hardHalt cause detail s).DemandCurrent := by
  unfold hardHalt
  split
  · exact (haltOrders_demandCurrent _).after_judgeEngine
  · exact h

theorem after_skipCurrent (h : s.DemandCurrent) (reason : SkipReason) : (skipCurrent reason s).DemandCurrent := by
  unfold skipCurrent
  split
  · exact ((setPhase_demandCurrent _ _).after_raiseFlag _).after_judgeSegments.after_judgeEngine
  · exact h

end State.DemandCurrent

/-! #### Arrival and the reach judgement (Machine/Cycle.lean)

The index order can put the drive into HOLDING without a re-determination of the demand (R25, R26); what makes
the demand current is the arrival that the report ARRIVED then brings, which needs a current record. -/

theorem currentRecord_congr {t : State} (hc : t.cyc.current = s.cyc.current) (hs : t.slp = s.slp) :
    currentRecord t = currentRecord s := by
  simp only [currentRecord, unfinishedRecord, hc, hs]

/-- The arrival on a current record re-determines the demand as it enters ARRIVED (R34, R151). -/
theorem arrival_demandCurrent (hcur : (currentRecord s).isSome) : (arrival s).DemandCurrent := by
  unfold arrival
  split
  · next r hr =>
    extract_lets taken arrived
    have harrived : arrived.DemandCurrent := (setPhase_demandCurrent _ _).of_governed (prepareAxes_governed _)
    split
    · exact harrived.of_governed (by simp)
    · exact (harrived.of_governed (arrivalOrders_governed _ _ _)).after_hardHalt _ _
  · next hr => simp [hr] at hcur

namespace State.DemandCurrent

theorem after_arrival (h : s.DemandCurrent) : (arrival s).DemandCurrent := by
  cases hr : currentRecord s with
  | none => rw [arrival, hr]; exact h
  | some r => exact arrival_demandCurrent (by simp [hr])

theorem after_onDriveReport (h : s.DemandCurrent) (report : DriveReport) :
    (onDriveReport s report).DemandCurrent := by
  unfold onDriveReport
  split
  · cases report with
    | arrived => dsimp only; split; exacts [h.after_arrival, h]
    | outOfReach => dsimp only; split; exacts [h.after_skipCurrent _, h]
    | channelLost => dsimp only; split; exacts [h.after_hardHalt _ _, h]
    | holdLost => dsimp only; split; exacts [(refreshDemand_demandCurrent s).after_hardHalt _ _, h]
    | strokeEnd => dsimp only; split; exacts [(refreshDemand_demandCurrent s).after_hardHalt _ _, h]
  · exact h

theorem after_driveReports (h : s.DemandCurrent) (reports : List DriveReport) :
    (reports.foldl onDriveReport s).DemandCurrent := by
  induction reports generalizing s with
  | nil => exact h
  | cons report rest ih => exact ih (h.after_onDriveReport report)

end State.DemandCurrent

theorem onDriveReport_arrived (hm : s.cyc.mode = .work) (hp : indexPhase s.cyc.phase = true) :
    onDriveReport s .arrived = arrival s := by
  simp [onDriveReport, hm, hp]

/-- What an index order can do (R25): the drive rides, holds, or goes on INDEXING. -/
theorem indexOrder_cases (t : Int) (s : State) :
    (indexOrder t s).1 = rideDrive s ∨ (∃ o, indexOrder t s = enterHolding t o s)
      ∨ (indexOrder t s).1.pos.drive = .indexing := by
  unfold indexOrder
  split
  · split
    · exact .inl rfl
    · split
      · exact .inr (.inl ⟨_, rfl⟩)
      · exact .inr (.inr rfl)
  · exact .inl rfl

/-- The reports of an entry into HOLDING begin with ARRIVED, so that taken in a phase that waits for them they
end in an arrival, and what follows it. -/
theorem enterHolding_reports_demandCurrent (t o : Int) (hm : s.cyc.mode = .work)
    (hp : indexPhase s.cyc.phase = true) (hcur : (currentRecord s).isSome) :
    ((enterHolding t o s).2.foldl onDriveReport (enterHolding t o s).1).DemandCurrent := by
  have hcur' : (currentRecord (enterHolding t o s).1).isSome :=
    currentRecord_congr (s := s) (t := (enterHolding t o s).1) rfl rfl ▸ hcur
  have harrived : (onDriveReport (enterHolding t o s).1 .arrived).DemandCurrent := by
    rw [onDriveReport_arrived (s := (enterHolding t o s).1) hm hp]
    exact arrival_demandCurrent hcur'
  have hreports : ∃ rest, (enterHolding t o s).2 = .arrived :: rest := by
    unfold enterHolding
    dsimp only
    split <;> exact ⟨_, rfl⟩
  obtain ⟨rest, hrest⟩ := hreports
  rw [hrest]
  exact harrived.after_driveReports rest

/-- The reach judgement of the current record leaves the demand current, whatever it was before (R147). -/
theorem judgeReach_demandCurrent (r : Sleeper) (hm : s.cyc.mode = .work) (hcur : (currentRecord s).isSome) :
    (judgeReach r s).DemandCurrent := by
  have hseek := setPhase_demandCurrent .seek s
  unfold judgeReach
  extract_lets seeking ahead
  split
  · exact hseek.after_skipCurrent _
  · split
    · split
      next ordered reports hordered =>
      have hcases := indexOrder_cases r.chainage seeking
      rw [hordered] at hcases
      split
      · exact setPhase_demandCurrent _ _
      · next hnot =>
        rcases hcases with hride | ⟨o, hhold⟩ | hindex
        · have hridden : ordered = rideDrive seeking := hride
          exact (hridden ▸ rideDrive_demandCurrent seeking).after_driveReports reports
        · have hcur' : (currentRecord seeking).isSome :=
            currentRecord_congr (s := s) (t := seeking) (by simp [seeking]) (by simp [seeking]) ▸ hcur
          have harrived := enterHolding_reports_demandCurrent r.chainage o (s := seeking)
            (by simpa [seeking] using hm) (by simp [seeking, indexPhase]) hcur'
          rwa [← hhold] at harrived
        · exact absurd hindex hnot
    · exact hseek

/-! #### SEEK (Machine/Cycle.lean) -/

/-- The first unfinished record is found again by its number, once it is chosen. -/
theorem currentRecord_isSome_of_firstUnfinished {r : Sleeper} (hr : firstUnfinished s = some r)
    (hc : s.cyc.current = some r.seq) : (currentRecord s).isSome := by
  rw [firstUnfinished] at hr
  have hmem : r ∈ s.slp.records := List.mem_of_find?_eq_some hr
  have hopen := List.find?_some hr
  rw [currentRecord, hc]
  exact List.find?_isSome.mpr ⟨r, hmem, by simp [hopen]⟩

theorem work_of_seekDue (h : seekDue s = true) : s.cyc.mode = .work := by
  simp only [seekDue, Bool.and_eq_true, decide_eq_true_eq] at h
  exact h.1.1

namespace State.DemandCurrent

theorem after_selectRecord (h : s.DemandCurrent) {r : Sleeper} (hm : s.cyc.mode = .work)
    (hr : firstUnfinished s = some r) : (selectRecord r s).DemandCurrent := by
  unfold selectRecord
  extract_lets active chosen
  have hchosen : chosen.DemandCurrent := h.of_governed (modCyc_governed _ _ rfl rfl)
  split
  · exact hchosen.after_skipCurrent _
  · split
    · exact setPhase_demandCurrent _ _
    · exact judgeReach_demandCurrent r hm (currentRecord_isSome_of_firstUnfinished hr rfl)
    · exact hchosen

theorem after_seekOnce (h : s.DemandCurrent) (hm : s.cyc.mode = .work) : (seekOnce s).DemandCurrent := by
  unfold seekOnce
  split
  · exact enterMode_demandCurrent _ _
  · split
    · next hr => exact h.after_selectRecord hm hr
    · exact h

theorem after_seek (h : s.DemandCurrent) : (seek s).DemandCurrent := by
  unfold seek
  generalize s.slp.records.length + 1 = n
  induction n generalizing s with
  | zero => exact h
  | succ n ih =>
    unfold seekLoop
    split
    · next hdue => exact ih (h.after_seekOnce (work_of_seekDue hdue))
    · exact h

theorem after_reachAgain (h : s.DemandCurrent) : (reachAgain s).DemandCurrent := by
  unfold reachAgain
  split
  · next hwork =>
    split
    · next hr =>
      split
      · exact judgeReach_demandCurrent _ hwork.1 (by simp [hr])
      · exact h
    · exact h
  · exact h

end State.DemandCurrent

/-- The end of a re-determination of the drive leaves the demand current, whatever it was before. -/
theorem afterDrive_demandCurrent (p : State × List DriveReport) : (afterDrive p).DemandCurrent :=
  (refreshDemand_demandCurrent _).after_actOnStop.after_seek

namespace State.DemandCurrent

/-! #### WORKING and CLEARING (Machine/Cycle.lean) -/

theorem after_finishWork (h : s.DemandCurrent) : (finishWork s).DemandCurrent := by
  unfold finishWork
  split
  · refine (after_judgeEngine ?_).after_seek
    split
    · exact enterMode_demandCurrent _ _
    · split
      · exact orderlyHalt_demandCurrent _ _
      · exact setPhase_demandCurrent _ _
  · exact h

theorem after_judgeClearing (h : s.DemandCurrent) : (judgeClearing s).DemandCurrent := by
  unfold judgeClearing
  split
  exacts [h.after_finishWork, h]

theorem after_judgeRelease (h : s.DemandCurrent) : (judgeRelease s).DemandCurrent := by
  unfold judgeRelease
  split
  exacts [(setPhase_demandCurrent _ _).after_judgeClearing, h]

theorem after_afterUnit (h : s.DemandCurrent) (u : UnitId) : (afterUnit u s).DemandCurrent := by
  unfold afterUnit
  extract_lets stopped settled judged
  have hjudged : judged.DemandCurrent :=
    (h.after_actOnStop.of_governed (t := refreshOutput settled) (by simp [settled, stopped])).after_judgeRelease
  split
  exacts [hjudged.after_judgeClearing, hjudged]

theorem after_followUnit (h : s.DemandCurrent) (u : UnitId) (before : State) :
    (followUnit u before s).DemandCurrent := by
  unfold followUnit
  split
  · exact h.after_afterUnit u
  · split
    exacts [h.after_judgeClearing, h]

theorem after_afterAxis (h : s.DemandCurrent) : (afterAxis s).DemandCurrent :=
  (h.of_governed (openGate_governed s)).after_actOnStop.of_governed (refreshOutput_governed _)

theorem after_axisChannelLost (h : s.DemandCurrent) (c : ChannelId) : (axisChannelLost c s).DemandCurrent := by
  unfold axisChannelLost
  extract_lets contested
  have hchoice : (if contested then s.freeOrder else (false, s)).2.governed = s.governed := by
    split <;> rfl
  split
  next gateFirst t hpair =>
  rw [hpair] at hchoice
  refine after_afterAxis (after_hardHalt (h.of_governed ?_) _ _)
  split
  exacts [(openGate_governed t).trans hchoice, hchoice]

end State.DemandCurrent

/-! #### Machine/Sleepers.lean -/

/-- An entry re-determines the demand, since the number of records is one of its terms (R35, R70). -/
theorem enterRecord_demandCurrent (c : Int) (width : Option Int) (source : Source) (plan : Option Plan)
    (unplanned : Bool) (raised : Option Flag) (s : State) :
    (enterRecord c width source plan unplanned raised s).DemandCurrent :=
  (refreshDemand_demandCurrent _).after_actOnStop.after_judgeSegments.after_judgeEngine.after_seek

namespace State.DemandCurrent

theorem after_judgePlanned (h : s.DemandCurrent) (g : Segment) (b : Bearer) :
    (judgePlanned g b s).DemandCurrent := by
  have hused : (consumeBearer b.chainage s).DemandCurrent := h.of_governed (consumeBearer_governed _ _)
  unfold judgePlanned
  dsimp only
  split
  · exact hused
  · split
    · exact hused.after_raiseFlag _
    · exact enterRecord_demandCurrent ..

theorem after_judgeInTurn (h : s.DemandCurrent) (found : List (Segment × Bearer)) :
    (judgeInTurn found s).DemandCurrent := by
  refine List.foldlRecOn found _ h fun t ht x _ => ?_
  split
  exacts [ht.after_judgePlanned _ _, ht]

theorem after_judgePassing (h : s.DemandCurrent) : (judgePassing s).DemandCurrent := by
  unfold judgePassing
  split
  · split
    · exact h.of_governed (modSlp_governed _ _ rfl)
    · exact h.after_judgeInTurn _
  · exact h

theorem after_judgeHeld (h : s.DemandCurrent) : (judgeHeld s).DemandCurrent :=
  (h.of_governed (modSlp_governed _ _ rfl)).after_judgeInTurn _

theorem after_judgeDetection (h : s.DemandCurrent) (a d : Int) : (judgeDetection a d s).DemandCurrent := by
  unfold judgeDetection enterDetection
  dsimp only
  split
  · split
    · exact h
    · split
      · exact h.after_raiseFlag _
      · split
        · exact enterRecord_demandCurrent ..
        · split <;> exact enterRecord_demandCurrent ..
  · exact h.after_raiseFlag _

theorem after_closeDetection (h : s.DemandCurrent) (a : Int) : (closeDetection a s).DemandCurrent :=
  ((h.of_governed (modSlp_governed _ _ rfl)).after_judgeDetection _ _).after_judgeHeld

theorem after_detectorEdge (h : s.DemandCurrent) : (detectorEdge s).DemandCurrent := by
  unfold detectorEdge
  split
  · split
    · exact h.of_governed (modSlp_governed _ _ rfl)
    · exact h.after_closeDetection _
    · exact h
  · exact h

end State.DemandCurrent
end Sys2Proof.Machine
end

section
/-! ### The count unit, the settings and the requests keep the demand current -/

namespace Sys2Proof.Machine

variable {s t : State}

/-! #### The satellite offset under a change of one channel -/

theorem modCount_governed {f : CountUnit → CountUnit} (h : satOffset (s.modCount f) = satOffset s) :
    (s.modCount f).governed = s.governed := by
  simp only [State.governed, h]
  rfl

theorem reading_congr {c : ChannelId} (hc : t.count.get c = s.count.get c) (hp : t.params = s.params) :
    reading c t = reading c s := by
  simp only [reading, hc, hp]

theorem satOffset_modCount_of_sat {f : CountUnit → CountUnit} (h : (f s.count).sat = s.count.sat) :
    satOffset (s.modCount f) = satOffset s :=
  reading_congr h rfl

theorem set_governed_of_ne {c : ChannelId} (hc : c ≠ .sat) (v : CountUnit → Channel) :
    (s.modCount fun q => q.set c (v q)).governed = s.governed :=
  modCount_governed (satOffset_modCount_of_sat (CountUnit.get_set_ne s.count (v s.count) hc.symm))

/-- A change of a channel's filters and markers alone leaves its reading (R7). -/
theorem set_governed_of_reading (c : ChannelId) (v : CountUnit → Channel)
    (hn : (v s.count).nulled = (s.count.get c).nulled) (hc : (v s.count).count = (s.count.get c).count)
    (ha : (v s.count).countAtNull = (s.count.get c).countAtNull)
    (hr : (v s.count).reference = (s.count.get c).reference) :
    (s.modCount fun q => q.set c (v q)).governed = s.governed := by
  by_cases hsat : c = .sat
  · subst hsat
    exact modCount_governed (by simp [satOffset, reading, hn, hc, ha, hr])
  · exact set_governed_of_ne hsat v

theorem setFilter_governed (l : Line) (f : CountUnit → LineFilter) :
    (s.modCount fun q => q.setFilter l (f q)).governed = s.governed := by
  cases l with
  | channelA c => exact set_governed_of_reading c (fun q => { q.get c with a := f q }) rfl rfl rfl rfl
  | channelB c => exact set_governed_of_reading c (fun q => { q.get c with b := f q }) rfl rfl rfl rfl
  | detector => rfl
  | pressure u => rfl

theorem setPaired_governed (l : Line) (v : CountUnit → Bool) :
    (s.modCount fun q => q.setPaired l (v q)).governed = s.governed := by
  cases l with
  | channelA c => exact set_governed_of_reading c (fun q => { q.get c with paired := v q }) rfl rfl rfl rfl
  | channelB c => exact set_governed_of_reading c (fun q => { q.get c with paired := v q }) rfl rfl rfl rfl
  | detector => rfl
  | pressure u => rfl

@[simp] theorem toggleLines_governed (l : Line) (together : Bool) (s : State) :
    (toggleLines l together s).governed = s.governed := by
  have hone := setFilter_governed (s := s) l fun q => (q.filter l).toggle s.clock
  unfold toggleLines
  refine (setPaired_governed l _).trans ?_
  split
  · split
    · exact (setFilter_governed _ _).trans hone
    · exact hone
  · exact hone

/-- Every count of ODO re-determines the drive, and with it the demand (R23, R34). -/
theorem odoMoved_demandCurrent (up : Bool) (before s : State) : (odoMoved up before s).DemandCurrent := by
  unfold odoMoved
  dsimp only
  split
  · exact (afterDrive_demandCurrent _).after_reachAgain.after_actOnStop.after_seek
  · exact afterDrive_demandCurrent _

namespace State.DemandCurrent

/-- Outside HOLDING no count is a term of the demand (R35). -/
theorem after_modCount_of_not_holding (h : s.DemandCurrent) (hd : s.pos.drive ≠ .holding)
    (f : CountUnit → CountUnit) : (s.modCount f).DemandCurrent := by
  rw [demandCurrent_iff] at h ⊢
  have hstroke : strokeTermOf (s.modCount f) = strokeTermOf s :=
    (strokeTermOf_of_not_holding (s := s.modCount f) hd).trans (strokeTermOf_of_not_holding hd).symm
  simpa [demandOf, hstroke] using h

/-! #### Loss of a null (R10) -/

theorem after_loseAxisChannel (h : s.DemandCurrent) (a : AxisId) : (loseAxisChannel a s).DemandCurrent := by
  unfold loseAxisChannel
  split
  exacts [(h.of_governed (cutAxis_governed a s)).after_axisChannelLost _, h]

theorem after_nullLost (c : ChannelId) (h : c = .sat → s.pos.drive = .holding ∨ s.DemandCurrent)
    (hc : c ≠ .sat → s.DemandCurrent) : (nullLost c s).DemandCurrent := by
  cases c with
  | odo => exact hc nofun
  | sat =>
    show (loseSatellite s).DemandCurrent
    unfold loseSatellite
    split
    · next hd =>
      have hs := (h rfl).resolve_left (by simp [hd])
      exact hs.of_governed (refreshOutput_governed s)
    · exact afterDrive_demandCurrent _
    · exact afterDrive_demandCurrent _
  | lat => exact (hc nofun).after_loseAxisChannel _
  | lvlL => exact (hc nofun).after_loseAxisChannel _
  | lvlR => exact (hc nofun).after_loseAxisChannel _
  | xl => exact hc nofun
  | dep u => exact ((hc nofun).of_governed (loseDepth_governed u s)).after_afterUnit u

theorem after_clearNull (h : s.DemandCurrent) (c : ChannelId) : (clearNull c s).DemandCurrent := by
  unfold clearNull
  split
  · refine after_nullLost c (fun _ => ?_) fun hc => h.of_governed (set_governed_of_ne hc _)
    by_cases hd : s.pos.drive = .holding
    · exact .inl hd
    · exact .inr (h.after_modCount_of_not_holding hd _)
  · exact h

theorem after_channelFault (h : s.DemandCurrent) (c : ChannelId) : (channelFault c s).DemandCurrent :=
  ((h.of_governed (set_governed_of_reading c (fun q => { q.get c with fault := true }) rfl rfl rfl
    rfl)).after_clearNull c).after_raiseFlag _

/-! #### Count changes and accepted levels (Machine/Count.lean) -/

theorem after_axisMoved (h : s.DemandCurrent) (a : AxisId) : (axisMoved a s).DemandCurrent := by
  have hjudged := h.of_governed (judgeAxis_governed a s)
  unfold axisMoved
  dsimp only
  split
  exacts [hjudged.after_afterAxis, hjudged]

/-- A count of SAT or of ODO ends in a re-determination; a count of any other channel is no term of the
demand. -/
theorem after_countMoved (c : ChannelId) (hc : c ≠ .sat → s.DemandCurrent) (up : Bool) (before : State) :
    (countMoved c up before s).DemandCurrent := by
  cases c with
  | odo => exact odoMoved_demandCurrent up before s
  | sat => exact afterDrive_demandCurrent _
  | lat => exact (hc nofun).after_axisMoved _
  | lvlL => exact (hc nofun).after_axisMoved _
  | lvlR => exact (hc nofun).after_axisMoved _
  | xl => exact hc nofun
  | dep u => exact ((hc nofun).of_governed (changeDepth_governed u s)).after_followUnit u before

theorem after_countStep (h : s.DemandCurrent) (c : ChannelId) (up : Bool) : (countStep c up s).DemandCurrent := by
  unfold countStep
  split
  · exact after_countMoved c (fun hc => h.of_governed (set_governed_of_ne hc _)) up s
  · exact h.after_channelFault c

theorem after_acceptChannel (h : s.DemandCurrent) (c : ChannelId) (onA onB : Bool) :
    (acceptChannel c onA onB s).DemandCurrent := by
  unfold acceptChannel
  extract_lets ch a b inverted taken
  have htaken : taken.DemandCurrent := h.of_governed
    (set_governed_of_reading c (fun q => { q.get c with a := a, b := b, paired := false }) rfl rfl rfl rfl)
  split
  · exact htaken.after_channelFault c
  · exact htaken.after_countStep c _
  · exact htaken.after_countStep c _
  · exact h

theorem after_acceptLine (h : s.DemandCurrent) (l : Line) (both : Bool) : (acceptLine l both s).DemandCurrent := by
  cases l with
  | channelA c => exact h.after_acceptChannel c true both
  | channelB c => exact h.after_acceptChannel c both true
  | detector => exact (h.of_governed (modCount_governed rfl)).after_detectorEdge
  | pressure u =>
    have htaken : (s.modCount fun q =>
        { q with pressure := q.pressure.set u (q.pressure.get u).accept }).DemandCurrent :=
      h.of_governed (modCount_governed rfl)
    rw [acceptLine]
    split
    exacts [(htaken.of_governed (seePressure_governed u _)).after_followUnit u _, htaken]

theorem after_changeLevel (h : s.DemandCurrent) (l : Line) (together : Bool) :
    (changeLevel l together s).DemandCurrent := by
  have ht := h.of_governed (toggleLines_governed l together s)
  unfold changeLevel
  dsimp only
  split
  exacts [ht.after_acceptLine l _, ht]

theorem after_acceptSteady (h : s.DemandCurrent) : (acceptSteady s).DemandCurrent := by
  unfold acceptSteady
  extract_lets channels detected
  have hchannels : channels.DemandCurrent :=
    List.foldlRecOn allChannels _ h fun _ ht c _ => ht.after_acceptChannel c _ _
  have hdetected : detected.DemandCurrent := by
    dsimp only [detected]
    split
    exacts [hchannels.after_acceptLine _ _, hchannels]
  refine List.foldlRecOn allUnits _ hdetected fun t ht u _ => ?_
  split
  exacts [ht.after_acceptLine _ _, ht]

/-! #### Machine/Settings.lean -/

theorem after_changeArms (h : s.DemandCurrent) : (changeArms s).DemandCurrent :=
  (h.of_governed (by simp)).after_judgeSegments.after_judgeEngine

theorem after_changePolarity (h : s.DemandCurrent) (before : State) : (changePolarity before s).DemandCurrent := by
  refine List.foldlRecOn allChannels _ h fun t ht c _ => ?_
  split
  exacts [ht.after_clearNull c, ht]

theorem after_parameterChanged (h : s.DemandCurrent) (id : Nat) (before : State) :
    (parameterChanged id before s).DemandCurrent := by
  unfold parameterChanged
  split
  case h_1 | h_2 | h_3 | h_4 => exact h.after_changeArms
  case h_5 => exact h.of_governed rfl
  case h_6 | h_12 => exact h.after_judgeSegments.after_judgeEngine
  case h_7 | h_8 => exact (refreshDemand_demandCurrent s).after_actOnStop
  case h_9 | h_10 | h_11 => exact afterDrive_demandCurrent _
  case h_13 => exact h.of_governed (modLink_governed _ _)
  case h_14 => exact h.after_acceptSteady
  case h_15 => exact h.after_changePolarity before
  case h_16 => exact h

/-! #### Machine/Owners.lean -/

/-- In READY the demand is GO whatever its other terms (R34). -/
theorem of_ready (h : s.DemandCurrent) (hm : s.cyc.mode = .ready) (hp : t.pos = s.pos) (hc : t.cyc = s.cyc) :
    t.DemandCurrent := by
  rw [demandCurrent_iff, demandOf_of_ready (by rw [hc, hm]), hp]
  exact h.ready hm

end State.DemandCurrent

theorem nullEntry_pos_cyc (s : State) (e : Nat × Int) :
    (nullEntry s e).pos = s.pos ∧ (nullEntry s e).cyc = s.cyc := by
  unfold nullEntry
  split
  · unfold restoreHead
    split <;> exact ⟨rfl, rfl⟩
  · exact ⟨rfl, rfl⟩
  · exact ⟨rfl, rfl⟩

/-- Of the parameters, P06, P10 and P11 alone are terms of the demand (R7, R35). -/
theorem put_governed {id : Nat} (h06 : id ≠ 6) (h10 : id ≠ 10) (h11 : id ≠ 11) (v : Nat) :
    (s.modParams fun p => p.put id v).governed = s.governed := by
  have hput : (s.params.put id v).p06 = s.params.p06 ∧ (s.params.put id v).p10 = s.params.p10
      ∧ (s.params.put id v).p11 = s.params.p11 := by
    unfold Params.put
    split
    case h_6 => exact absurd rfl h06
    case h_10 => exact absurd rfl h10
    case h_11 => exact absurd rfl h11
    all_goals exact ⟨rfl, rfl, rfl⟩
  obtain ⟨hp06, hp10, hp11⟩ := hput
  simp only [State.governed, satOffset, reading, channelPitch, State.modParams_params, hp06, hp10, hp11]
  rfl

namespace State.DemandCurrent

theorem after_takeNull (h : s.DemandCurrent) (entries : List (Nat × Int)) :
    (takeNull entries s).state.DemandCurrent := by
  unfold takeNull
  split
  · exact h
  · next hready =>
    split
    · have hnulled : (entries.foldl nullEntry s).pos = s.pos ∧ (entries.foldl nullEntry s).cyc = s.cyc :=
        List.foldlRecOn (motive := fun t => t.pos = s.pos ∧ t.cyc = s.cyc) entries _ ⟨rfl, rfl⟩
          fun t ht e _ => ⟨(nullEntry_pos_cyc t e).1.trans ht.1, (nullEntry_pos_cyc t e).2.trans ht.2⟩
      exact (h.of_ready (not_not.mp hready) hnulled.1 hnulled.2).of_governed (refreshOutput_governed _)
    · exact h

theorem after_takeSetChainage (h : s.DemandCurrent) (x : Int) : (takeSetChainage x s).state.DemandCurrent := by
  unfold takeSetChainage
  split
  · exact h
  · split
    · exact h
    · split
      · exact h
      · exact after_judgeSegments (h.of_governed rfl)

theorem after_takeAppend (h : s.DemandCurrent) (b : SegmentBody) : (takeAppend b s).state.DemandCurrent := by
  unfold takeAppend
  split
  · exact h
  · have hadded : (judgeStarved (judgeLookAhead true (appendSegment b s))).DemandCurrent :=
      h.of_governed (by simp [appendSegment])
    exact hadded.after_actOnStop.after_judgePassing.after_judgeEngine.after_seek

theorem after_truncate (h : s.DemandCurrent) (x : Int) : (truncate x s).DemandCurrent := by
  unfold truncate
  extract_lets free told
  have htold : told.DemandCurrent := by
    dsimp only [told]
    split
    · exact (setPhase_demandCurrent _ _).after_seek
    · have hcut : (cutWindow x s).governed = s.governed := modSlp_governed _ _ (List.length_map _)
      exact h.of_governed ((abandonDesign_governed _ _).trans hcut)
  exact htold.after_judgeSegments.after_judgeEngine.after_seek

theorem after_takeTruncate (h : s.DemandCurrent) (x : Int) : (takeTruncate x s).state.DemandCurrent := by
  unfold takeTruncate
  dsimp only
  split
  · exact h
  · split
    exacts [h, h.after_truncate x]

theorem after_takeHeadSet (h : s.DemandCurrent) (set : Byte) : (takeHeadSet set s).state.DemandCurrent := by
  unfold takeHeadSet
  split
  exacts [h.of_governed rfl, h]

theorem after_takeStart (h : s.DemandCurrent) : (takeStart s).state.DemandCurrent := by
  have hstarted := (enterMode_demandCurrent .work s).of_governed (judgeStarved_governed _)
  unfold takeStart
  split
  · exact h
  · split
    · exact h
    · split
      exacts [h, hstarted.after_actOnStop.after_seek]

theorem after_takePause (h : s.DemandCurrent) : (takePause s).state.DemandCurrent := by
  unfold takePause
  split
  · split
    exacts [enterMode_demandCurrent _ _, h.of_governed (modCyc_governed _ _ rfl rfl)]
  · exact h

theorem after_takeClearHalt (h : s.DemandCurrent) : (takeClearHalt s).state.DemandCurrent := by
  unfold takeClearHalt
  split
  · split
    exacts [enterMode_demandCurrent _ _, h]
  · exact h

theorem after_takeJobClear (h : s.DemandCurrent) : (takeJobClear s).state.DemandCurrent := by
  unfold takeJobClear
  split
  exacts [refreshDemand_demandCurrent _, h]

theorem after_takeSetEnables (h : s.DemandCurrent) (notice stop : BitVec 24) :
    (takeSetEnables notice stop s).state.DemandCurrent := by
  unfold takeSetEnables
  split
  exacts [h.of_governed (modCond_governed _ _), h]

theorem after_takeClearFlags (h : s.DemandCurrent) (flags : BitVec 24) :
    (takeClearFlags flags s).state.DemandCurrent := by
  unfold takeClearFlags
  split
  exacts [h.of_governed (modCond_governed _ _), h]

/-- P06 changes in READY alone, where it is no term of the demand; P10 and P11 are judged at once (R34, R180). -/
theorem after_putParameter (h : s.DemandCurrent) {id : Nat} (v : Nat)
    (hrest : isRest id = true → s.cyc.mode = .ready) :
    (parameterChanged id s (s.modParams fun p => p.put id v)).DemandCurrent := by
  by_cases h10 : id = 10
  · subst h10
    exact (refreshDemand_demandCurrent _).after_actOnStop
  by_cases h11 : id = 11
  · subst h11
    exact (refreshDemand_demandCurrent _).after_actOnStop
  by_cases h06 : id = 6
  · subst h06
    exact h.of_ready (hrest rfl) rfl rfl
  · exact (h.of_governed (put_governed h06 h10 h11 v)).after_parameterChanged id s

theorem after_takeConfigure (h : s.DemandCurrent) (id : Byte) (value : BitVec 32) :
    (takeConfigure id value s).state.DemandCurrent := by
  unfold takeConfigure
  split
  · exact h
  · next hchecked =>
    split
    · exact h
    · refine h.after_putParameter value.toNat fun hrest => ?_
      by_contra hmode
      simp [configureRefusal, hrest, hmode] at hchecked
      split at hchecked <;> cases hchecked

theorem after_takeReadParam (h : s.DemandCurrent) (id : Byte) : (takeReadParam id s).state.DemandCurrent := by
  unfold takeReadParam
  split
  exacts [h, h]

theorem after_takeSave (h : s.DemandCurrent) : (takeSave s).state.DemandCurrent := by
  unfold takeSave
  split
  exacts [h.of_governed (modStore_governed _ _), h]

theorem after_takeRestart (h : s.DemandCurrent) : (takeRestart s).state.DemandCurrent := by
  unfold takeRestart
  split
  exacts [h.of_governed (modLink_governed _ _), h]

theorem after_takeRequest (h : s.DemandCurrent) (r : Request) : (takeRequest r s).state.DemandCurrent := by
  cases r with
  | unknownKind | badLength | status | snapshot => exact h
  | nullChannels entries => exact h.after_takeNull entries
  | setChainage x => exact h.after_takeSetChainage x
  | segmentAppend body => exact h.after_takeAppend body
  | segmentTruncate x => exact h.after_takeTruncate x
  | headSet set => exact h.after_takeHeadSet set
  | start => exact h.after_takeStart
  | pause => exact h.after_takePause
  | stop => exact h.after_hardHalt _ _
  | clearHalt => exact h.after_takeClearHalt
  | jobClear => exact h.after_takeJobClear
  | setEnables notice stop => exact h.after_takeSetEnables notice stop
  | clearFlags set => exact h.after_takeClearFlags set
  | configure id value => exact h.after_takeConfigure id value
  | readParam id => exact h.after_takeReadParam id
  | saveSettings => exact h.after_takeSave
  | restart => exact h.after_takeRestart

end State.DemandCurrent
end Sys2Proof.Machine
end

section
/-! ### The cab link, the commands and the step -/

namespace Sys2Proof.Machine

variable {s : State}

/-! #### Machine/Link.lean -/

@[simp] theorem sendNotice_governed (k : NoticeKind) (s : State) : (sendNotice k s).governed = s.governed := by
  unfold sendNotice
  split <;> split <;> rfl

@[simp] theorem sendOwn_governed (s : State) : (sendOwn s).governed = s.governed := by
  unfold sendOwn
  split
  · rfl
  · split
    · exact sendNotice_governed _ _
    · rfl

theorem arbitrate_governed (s : State) : (arbitrate s).governed = s.governed := by
  unfold arbitrate
  split
  · split
    · rfl
    · rfl
    · split
      · rfl
      · exact sendOwn_governed s
  · rfl

theorem makeReply_governed (r : QueuedRequest) (status : Status) (content : List Byte) (s : State) :
    (makeReply r status content s).governed = s.governed := rfl

theorem losePower_governed (s : State) : (losePower s).governed = s.governed := by
  unfold losePower
  dsimp only
  split <;> rfl

theorem endSave_governed (matched : Bool) (image : List Byte) (s : State) :
    (endSave matched image s).governed = s.governed := by
  unfold endSave
  split <;> rfl

/-- A reset leaves READY with the demand GO (R37, R140). -/
theorem resetWith_demandCurrent (cause : ResetCause) (s : State) : (resetWith cause s).DemandCurrent :=
  demandCurrent_iff.mpr rfl

namespace State.DemandCurrent

theorem after_arbitrate (h : s.DemandCurrent) : (arbitrate s).DemandCurrent := h.of_governed (arbitrate_governed s)

theorem after_takeOne (h : s.DemandCurrent) (r : QueuedRequest) : (takeOne r s).DemandCurrent := by
  have htaken := h.after_takeRequest r.request
  unfold takeOne
  split
  · exact h.of_governed (makeReply_governed ..)
  · dsimp only
    split
    · exact htaken.of_governed (makeReply_governed ..)
    · exact htaken.of_governed (modLink_governed _ _)

theorem after_takeRequests (h : s.DemandCurrent) : (takeRequests s).DemandCurrent := by
  unfold takeRequests
  generalize s.link.requests.length + 1 = n
  induction n generalizing s with
  | zero => exact h
  | succ n ih =>
    unfold takeLoop
    split
    · split
      exacts [ih (h.after_takeOne _), h]
    · exact h

theorem after_arriveFrame (h : s.DemandCurrent) (kind tag : Byte) (r : Request) :
    (arriveFrame kind tag r s).DemandCurrent := by
  unfold arriveFrame
  dsimp only
  split
  · exact after_takeRequests (h.of_governed rfl)
  · exact h.of_governed rfl

theorem after_discardFrame (h : s.DemandCurrent) : (discardFrame s).DemandCurrent :=
  (h.of_governed (modLink_governed _ _)).after_raiseFlag _

theorem after_receiveRequest (h : s.DemandCurrent) (r : Request) (tag : Byte) :
    (receiveRequest r tag s).DemandCurrent := by
  unfold receiveRequest
  extract_lets stamped
  have hstamped : stamped.DemandCurrent := h.of_governed (modLink_governed _ _)
  split
  · exact h
  · split
    · exact h.after_raiseFlag _
    · refine after_arriveFrame ?_ _ _ _
      split
      exacts [hstamped, hstamped.after_discardFrame]

theorem after_assemble (h : s.DemandCurrent) (a : Assembler) : (assemble a s).DemandCurrent :=
  h.of_governed (modLink_governed _ _)

theorem after_huntByte (h : s.DemandCurrent) (b : Byte) (stopLow : Bool) : (huntByte b stopLow s).DemandCurrent := by
  unfold huntByte
  split
  exacts [h.after_assemble _, h]

theorem after_judgeCheck (h : s.DemandCurrent) (kind tag : Byte) (body : List Byte) (high low : Byte) :
    (judgeCheck kind tag body high low s).DemandCurrent := by
  unfold judgeCheck
  split
  exacts [(h.after_assemble _).after_arriveFrame _ _ _, h.after_discardFrame]

theorem after_assembleByte (h : s.DemandCurrent) (b : Byte) : (assembleByte b s).DemandCurrent := by
  unfold assembleByte
  split
  · exact h.after_huntByte b false
  · split
    exacts [h.after_assemble _, h.after_discardFrame]
  · exact h.after_assemble _
  · exact h.after_assemble _
  · split
    exacts [h.after_assemble _, h.after_assemble _]
  · exact h.after_assemble _
  · exact h.after_judgeCheck _ _ _ _ _

theorem after_receiveByte (h : s.DemandCurrent) (b : Byte) (stopLow : Bool) :
    (receiveByte b stopLow s).DemandCurrent := by
  have hstamped : (s.modLink fun l => { l with lastByte := s.clock }).DemandCurrent :=
    h.of_governed (modLink_governed _ _)
  unfold receiveByte
  split
  · exact h
  · split
    · exact h.after_raiseFlag _
    · unfold assemblerByte
      dsimp only
      split
      · exact hstamped.after_huntByte b stopLow
      · split
        · exact hstamped.after_discardFrame.after_huntByte b stopLow
        · split
          exacts [hstamped.after_discardFrame, hstamped.after_assembleByte b]

theorem after_frameSent (h : s.DemandCurrent) (source : TxSource) : (frameSent source s).DemandCurrent := by
  cases source with
  | queueFull | reply | notice => exact h.of_governed rfl
  | workRecord => exact refreshDemand_demandCurrent _

theorem after_restartIfDue (h : s.DemandCurrent) : (restartIfDue s).DemandCurrent := by
  unfold restartIfDue
  split
  exacts [resetWith_demandCurrent _ _, h]

/-! #### The effects of the commands -/

theorem at_beginAt (h : s.DemandCurrent) (dt : Nat) : (s.beginAt dt).DemandCurrent :=
  h.of_governed (beginAt_governed s dt)

theorem at_beginBy (h : s.DemandCurrent) (t : Nat) : (s.beginBy t).DemandCurrent :=
  h.of_governed (beginBy_governed s t)

theorem after_takeByte (h : s.DemandCurrent) (dt : Nat) (b : Byte) (stopLow : Bool) :
    (takeByte dt b stopLow s).DemandCurrent := by
  unfold takeByte
  dsimp only
  split
  exacts [((h.at_beginAt dt).after_receiveByte b stopLow).after_arbitrate, h.at_beginAt dt]

theorem after_request (h : s.DemandCurrent) (dt : Nat) (tag : Byte) (r : Request) :
    (request dt tag r s).DemandCurrent := by
  unfold request
  dsimp only
  split
  exacts [((h.at_beginAt dt).after_receiveRequest r tag).after_arbitrate, h.at_beginAt dt]

theorem after_driftLines (h : s.DemandCurrent) (l : Line) (together : Bool) :
    (driftLines l together s).DemandCurrent := by
  have hdrift : ∀ (m : Line) (t : State), (driftLine m t).governed = t.governed := fun m t =>
    setFilter_governed m fun q => { q.filter m with present := !(q.filter m).present }
  unfold driftLines
  split
  · split
    · exact h.of_governed ((hdrift _ _).trans (hdrift _ _))
    · exact h.of_governed (hdrift _ _)
  · exact h.of_governed (hdrift _ _)

theorem after_cabSilence (h : s.DemandCurrent) : (cabSilence s).DemandCurrent :=
  (h.of_governed (modLink_governed _ _)).after_hardHalt _ _

theorem after_leaveWaitDesign (h : s.DemandCurrent) (seq : Nat) : (leaveWaitDesign seq s).DemandCurrent := by
  unfold leaveWaitDesign
  split
  · next hwaits =>
    have hwork : s.cyc.mode = .work := (of_decide_eq_true hwaits).1
    split
    · next r hr => exact judgeReach_demandCurrent r hwork (by simp [hr])
    · exact h
  · exact h

theorem after_completeDesign (h : s.DemandCurrent) (p : DesignPass) : (completeDesign p s).DemandCurrent := by
  have hwritten : (writeDesign p (dropPass s)).DemandCurrent := h.of_governed (by simp [writeDesign, dropPass])
  exact (hwritten.after_judgeSegments.after_leaveWaitDesign p.seq).after_judgeEngine.after_seek

theorem after_answerSave (h : s.DemandCurrent) (status : Status) : (answerSave status s).DemandCurrent := by
  unfold answerSave
  refine after_takeRequests ?_
  split
  exacts [h.of_governed (makeReply_governed ..), h]

theorem after_endRaise (h : s.DemandCurrent) (u : UnitId) : (endRaise u s).DemandCurrent := by
  unfold endRaise
  split
  · exact h.of_governed (enterUp_governed u s)
  · exact (h.of_governed (enterStuck_governed u s)).after_hardHalt _ _

end State.DemandCurrent

/-- The entry into WORKING re-determines the demand (R34, R152). -/
theorem completeTarget_demandCurrent (p : TargetPass) (s : State) : (completeTarget p s).DemandCurrent := by
  have hcuts : ∀ t : State, t.DemandCurrent → (reportStartCuts t).DemandCurrent := fun t ht =>
    List.foldlRecOn _ _ ht fun _ hu a _ => hu.after_axisChannelLost (axisChannel a)
  unfold completeTarget
  extract_lets written started
  have hstarted : started.DemandCurrent :=
    (setPhase_demandCurrent .working written).of_governed (by simp [started, startAxes])
  exact (hcuts started hstarted).after_afterAxis.after_judgeRelease.after_judgeEngine.after_seek

/-! #### The commands -/

/-- Every next state of an outcome has the demand current. -/
def EndsCurrent (o : Host.Outcome State Fault Refusal) : Prop := ∀ t, o = .next t → t.DemandCurrent

theorem endsCurrent_next : EndsCurrent (.next s) ↔ s.DemandCurrent :=
  ⟨fun h => h s rfl, fun h _ ht => Host.Outcome.next.inj ht ▸ h⟩

theorem onExpiry_endsCurrent (h : s.DemandCurrent) (u : UnitId) (timer : Option Timer) {effect : State → State}
    (heffect : ∀ t : State, t.DemandCurrent → (effect t).DemandCurrent) :
    EndsCurrent (onExpiry u timer effect s) := by
  unfold onExpiry
  split
  · exact endsCurrent_next.mpr ((heffect _ (h.at_beginBy _)).after_afterUnit u).after_arbitrate
  · exact endsCurrent_next.mpr h

/-- An expiry whose effect touches nothing that the travel governor reads. -/
theorem onExpiry_endsCurrent_of_governed (h : s.DemandCurrent) (u : UnitId) (timer : Option Timer)
    {effect : State → State} (heffect : ∀ t : State, (effect t).governed = t.governed) :
    EndsCurrent (onExpiry u timer effect s) :=
  onExpiry_endsCurrent h u timer fun t ht => ht.of_governed (heffect t)

theorem exec_lineLevelChange_endsCurrent (h : s.DemandCurrent) (dt : Nat) (l : Line) (together : Bool) :
    EndsCurrent (execLineLevelChange dt l together s) := by
  refine endsCurrent_next.mpr ?_
  split
  · exact ((h.at_beginAt dt).after_changeLevel l together).after_arbitrate
  · exact (h.at_beginAt dt).after_driftLines l together

theorem exec_filterWindowExpiry_endsCurrent (h : s.DemandCurrent) (l : Line) :
    EndsCurrent (execFilterWindowExpiry l s) := by
  unfold execFilterWindowExpiry
  split
  · exact endsCurrent_next.mpr ((h.at_beginBy _).after_acceptLine l _).after_arbitrate
  · exact endsCurrent_next.mpr h

theorem exec_designPassComplete_endsCurrent (h : s.DemandCurrent) (dt : Nat) :
    EndsCurrent (execDesignPassComplete dt s) := by
  unfold execDesignPassComplete
  split
  · exact endsCurrent_next.mpr ((h.at_beginAt dt).after_completeDesign _).after_arbitrate
  · exact endsCurrent_next.mpr h

theorem exec_targetPassComplete_endsCurrent (h : s.DemandCurrent) (dt : Nat) :
    EndsCurrent (execTargetPassComplete dt s) := by
  unfold execTargetPassComplete
  split
  · exact endsCurrent_next.mpr (completeTarget_demandCurrent _ _).after_arbitrate
  · exact endsCurrent_next.mpr h

theorem exec_axisSettleExpiry_endsCurrent (h : s.DemandCurrent) (a : AxisId) :
    EndsCurrent (execAxisSettleExpiry a s) := by
  unfold execAxisSettleExpiry
  split
  · next t _ _ =>
    have hheld := (h.at_beginBy t.ends).of_governed (enterHold_governed a .reached _)
    exact endsCurrent_next.mpr hheld.after_afterAxis.after_arbitrate
  · exact endsCurrent_next.mpr h

theorem exec_axisMotionTimeout_endsCurrent (h : s.DemandCurrent) (a : AxisId) :
    EndsCurrent (execAxisMotionTimeout a s) := by
  unfold execAxisMotionTimeout
  split
  · next t _ _ =>
    have htimed := (h.at_beginBy t.ends).of_governed (timeOutAxis_governed a _)
    exact endsCurrent_next.mpr htimed.after_afterAxis.after_arbitrate
  · exact endsCurrent_next.mpr h

theorem exec_transmitEnd_endsCurrent (h : s.DemandCurrent) : EndsCurrent (execTransmitEnd s) := by
  unfold execTransmitEnd
  split
  · exact endsCurrent_next.mpr ((h.at_beginBy _).after_frameSent _).after_restartIfDue.after_arbitrate
  · exact endsCurrent_next.mpr h

theorem exec_supervisionTimeout_endsCurrent (h : s.DemandCurrent) : EndsCurrent (execSupervisionTimeout s) := by
  unfold execSupervisionTimeout
  split
  · exact endsCurrent_next.mpr (h.at_beginBy _).after_cabSilence.after_arbitrate
  · exact endsCurrent_next.mpr h

theorem exec_saveComplete_endsCurrent (h : s.DemandCurrent) (dt : Nat) (matched : Bool) :
    EndsCurrent (execSaveComplete dt matched s) := by
  unfold execSaveComplete
  split
  · next image _ _ =>
    have hended := (h.at_beginAt dt).of_governed (endSave_governed matched image _)
    exact endsCurrent_next.mpr (hended.after_answerSave _).after_arbitrate
  · exact endsCurrent_next.mpr h

theorem exec_powerFailure_endsCurrent (h : s.DemandCurrent) (dt : Nat) : EndsCurrent (execPowerFailure dt s) := by
  refine endsCurrent_next.mpr ?_
  split
  · exact (h.at_beginAt dt).of_governed (losePower_governed _)
  · exact h.at_beginAt dt

theorem exec_endsCurrent (c : Instr) (h : s.DemandCurrent) : EndsCurrent (exec c s) := by
  cases c with
  | powerOn => exact endsCurrent_next.mpr (resetWith_demandCurrent _ _).after_arbitrate
  | lineLevelChange dt l together => exact exec_lineLevelChange_endsCurrent h dt l together
  | filterWindowExpiry l => exact exec_filterWindowExpiry_endsCurrent h l
  | designPassComplete dt => exact exec_designPassComplete_endsCurrent h dt
  | targetPassComplete dt => exact exec_targetPassComplete_endsCurrent h dt
  | axisSettleExpiry a => exact exec_axisSettleExpiry_endsCurrent h a
  | axisMotionTimeout a => exact exec_axisMotionTimeout_endsCurrent h a
  | tiltExpiry u => exact onExpiry_endsCurrent_of_governed h u _ (endTilt_governed u)
  | lowerTimeout u => exact onExpiry_endsCurrent_of_governed h u _ (blockHead_governed u)
  | squeezeTimerExpiry u => exact onExpiry_endsCurrent_of_governed h u _ (endPhase_governed u)
  | openExpiry u => exact onExpiry_endsCurrent_of_governed h u _ (endOpening_governed u)
  | raiseTimeout u => exact onExpiry_endsCurrent h u _ fun _ ht => ht.after_endRaise u
  | blindRaiseExpiry u => exact onExpiry_endsCurrent_of_governed h u _ (enterFaulted_governed u)
  | parkingExpiry u => exact onExpiry_endsCurrent_of_governed h u _ (endParking_governed u)
  | receiveHoldDrop dt b stopLow | frameDiscard dt b stopLow | frameArrival dt b stopLow
  | byteReceived dt b stopLow => exact endsCurrent_next.mpr (h.after_takeByte dt b stopLow)
  | transmitEnd => exact exec_transmitEnd_endsCurrent h
  | supervisionTimeout => exact exec_supervisionTimeout_endsCurrent h
  | saveComplete dt matched => exact exec_saveComplete_endsCurrent h dt matched
  | powerFailure dt => exact exec_powerFailure_endsCurrent h dt
  | status dt tag | snapshot dt tag | nullChannels dt tag | setChainage dt tag | segmentAppend dt tag
  | segmentTruncate dt tag | headSet dt tag | start dt tag | pause dt tag | stop dt tag | clearHalt dt tag
  | jobClear dt tag | setEnables dt tag | clearFlags dt tag | configure dt tag | readParam dt tag
  | saveSettings dt tag | restart dt tag => exact endsCurrent_next.mpr (h.after_request dt tag _)

theorem step_endsCurrent (h : s.DemandCurrent) : EndsCurrent (step s) := by
  unfold step
  split
  · exact endsCurrent_next.mpr h
  · exact exec_endsCurrent _ (h.of_governed rfl)

end Sys2Proof.Machine
end

section
namespace Sys2Proof.Machine

/-- Settles O8: where a step changes what the demand depends on, the same step re-determines it, or stands in
READY, where the mode alone gives it; the entry into HOLDING, which re-determines nothing itself, is followed by
the arrival or by the end of the drive's re-determination, both of which do. -/
theorem demandStaysCurrent : Obligations.DemandStaysCurrent := by
  unfold Obligations.DemandStaysCurrent
  intro s t hs
  exact step_endsCurrent hs t

end Sys2Proof.Machine
end

section
/-! What R40 says of the window of segments, as a property of the window's outline: where each segment and each
bearer lies. The consumption of a bearer and all that a segment says of the track are no part of it. -/

namespace Sys2Proof.Machine

/-- Where a segment lies, with the offset and the chainage of each of its bearers. -/
structure SegmentOutline where
  start : Int
  length : Int
  bearers : List (Nat × Int)

/-- The outline of a segment. -/
def Segment.outline (g : Segment) : SegmentOutline :=
  ⟨g.start, g.length, g.bearers.map fun b => (b.offset, b.chainage)⟩

/-- The outline of the window of segments. -/
def State.outline (s : State) : List SegmentOutline := s.seg.segments.map Segment.outline

/-- The chainage at which a segment ends (R38). -/
def SegmentOutline.endAt (g : SegmentOutline) : Int := g.start + g.length

/-- The bearers of the pool, segment by segment (R40). -/
def outlinePool (w : List SegmentOutline) : List (Nat × Int) := w.flatMap (·.bearers)

/-- A segment by itself as R40 and R42 have it: of positive length, and each bearer within it at its offset, the
offsets strictly ascending. -/
structure SegmentOutline.Sound (g : SegmentOutline) : Prop where
  length : 0 < g.length
  inside : ∀ b ∈ g.bearers, (b.1 : Int) < g.length ∧ b.2 = g.start + b.1
  offsets : (g.bearers.map (·.1)).Pairwise (· < ·)

/-- A window of sound segments that keeps to the capacities and leaves no gap (R40). That the bearers ascend across
the whole window is a consequence. -/
structure OutlineSound (w : List SegmentOutline) : Prop where
  segments : w.length ≤ 32
  joined : w.IsChain fun g h => h.start = g.endAt
  each : ∀ g ∈ w, g.Sound
  pool : (outlinePool w).length ≤ 192

/-! ### The bearers ascend across the window -/

/-- The bearers of one segment ascend, as their offsets do. -/
theorem SegmentOutline.Sound.ascending {g : SegmentOutline} (hg : g.Sound) :
    (g.bearers.map (·.2)).Pairwise (· < ·) := by
  have hoffsets := List.pairwise_map.mp hg.offsets
  refine List.pairwise_map.mpr (hoffsets.imp_of_mem fun {b c} hb hc hlt => ?_)
  have hbAt := (hg.inside b hb).2
  have hcAt := (hg.inside c hc).2
  omega

/-- In a window without gaps every segment starts at or above the end of each segment before it. -/
theorem starts_ge_end {g : SegmentOutline} {w : List SegmentOutline}
    (hjoined : (g :: w).IsChain fun g h => h.start = g.endAt) (heach : ∀ h ∈ w, h.Sound) :
    ∀ h ∈ w, g.endAt ≤ h.start := by
  induction w generalizing g with
  | nil => simp
  | cons k rest ih =>
    obtain ⟨hk, hrest⟩ := List.isChain_cons_cons.mp hjoined
    have hlength := (heach k List.mem_cons_self).length
    have hlater := ih hrest fun h hh => heach h (List.mem_cons_of_mem k hh)
    refine List.forall_mem_cons.mpr ⟨hk.ge, fun h hh => ?_⟩
    have hge := hlater h hh
    simp only [SegmentOutline.endAt] at hk hge ⊢
    omega

theorem OutlineSound.ascending {w : List SegmentOutline} (hw : OutlineSound w) :
    ((outlinePool w).map (·.2)).Pairwise (· < ·) := by
  obtain ⟨-, hjoined, heach, -⟩ := hw
  rw [outlinePool, List.map_flatMap, List.pairwise_flatMap]
  refine ⟨fun g hg => (heach g hg).ascending, ?_⟩
  induction w with
  | nil => exact .nil
  | cons g rest ih =>
    have hrest : ∀ h ∈ rest, h.Sound := fun h hh => heach h (List.mem_cons_of_mem g hh)
    refine .cons (fun h hh x hx y hy => ?_) (ih hjoined.tail hrest)
    obtain ⟨b, hb, rfl⟩ := List.mem_map.mp hx
    obtain ⟨c, hc, rfl⟩ := List.mem_map.mp hy
    obtain ⟨hbBelow, hbAt⟩ := (heach g List.mem_cons_self).inside b hb
    have hcAt := ((hrest h hh).inside c hc).2
    have hend := starts_ge_end hjoined hrest h hh
    rw [SegmentOutline.endAt] at hend
    omega

/-! ### The window of a state -/

theorem outlinePool_map (segs : List Segment) :
    outlinePool (segs.map Segment.outline) = (poolOf segs).map fun b => (b.offset, b.chainage) := by
  rw [outlinePool, poolOf, List.flatMap_map, List.map_flatMap]
  rfl

theorem Segment.outline_sound_iff (g : Segment) :
    g.outline.Sound ↔ 0 < g.length
      ∧ (∀ b ∈ g.bearers, (b.offset : Int) < g.length ∧ b.chainage = g.start + b.offset)
      ∧ (g.bearers.map (·.offset)).Pairwise (· < ·) := by
  constructor
  · rintro ⟨hlength, hinside, hoffsets⟩
    refine ⟨hlength, fun b hb => hinside _ (List.mem_map_of_mem hb), ?_⟩
    simpa [outline, List.map_map, Function.comp_def] using hoffsets
  · rintro ⟨hlength, hinside, hoffsets⟩
    refine ⟨hlength, List.forall_mem_map.mpr hinside, ?_⟩
    simpa [outline, List.map_map, Function.comp_def] using hoffsets

/-- Of a window, R40 speaks of the outline alone. -/
theorem windowSound_iff {s : State} : s.WindowSound ↔ OutlineSound s.outline := by
  have hpool : (outlinePool s.outline).length = (poolOf s.seg.segments).length := by
    rw [State.outline, outlinePool_map, List.length_map]
  constructor
  · intro h
    refine ⟨?_, ?_, List.forall_mem_map.mpr fun g hg => g.outline_sound_iff.mpr
      ⟨h.lengths g hg, h.inside g hg, h.offsets g hg⟩, hpool ▸ h.pool⟩
    · rw [State.outline, List.length_map]
      exact h.segments
    · rw [State.outline, List.isChain_map, List.isChain_iff_getElem]
      exact fun i hi => h.joined i _ _ (List.getElem?_eq_getElem _) (List.getElem?_eq_getElem hi)
  · intro h
    have heach : ∀ g ∈ s.seg.segments, g.outline.Sound := List.forall_mem_map.mp h.each
    refine ⟨by simpa [State.outline] using h.segments, fun i g k hg hk => ?_,
      fun g hg => (heach g hg).length, hpool ▸ h.pool, fun g hg => (g.outline_sound_iff.mp (heach g hg)).2.1,
      fun g hg => (g.outline_sound_iff.mp (heach g hg)).2.2, ?_⟩
    · have hjoined := List.isChain_iff_getElem.mp (List.isChain_map _ |>.mp h.joined)
      obtain ⟨hi, rfl⟩ := List.getElem?_eq_some_iff.mp hk
      obtain ⟨hi', rfl⟩ := List.getElem?_eq_some_iff.mp hg
      exact hjoined i hi
    · have hascending := h.ascending
      rwa [State.outline, outlinePool_map, List.map_map] at hascending

/-! ### What may become of a sound window -/

theorem OutlineSound.nil : OutlineSound [] := ⟨Nat.zero_le _, .nil, nofun, Nat.zero_le _⟩

/-- A stretch of a sound window is sound: segments may leave it at its start (R51) and at its end (R47). -/
theorem OutlineSound.of_isInfix {v w : List SegmentOutline} (hw : OutlineSound w) (h : v <:+: w) : OutlineSound v where
  segments := h.length_le.trans hw.segments
  joined := by
    obtain ⟨retired, cut, rfl⟩ := h
    exact hw.joined.left_of_append.right_of_append
  each g hg := hw.each g (h.subset hg)
  pool := (h.flatMap _).length_le.trans hw.pool

/-- A sound segment may join a sound window at its end, while there is room for it and its bearers (R43, R44). -/
theorem OutlineSound.concat {w : List SegmentOutline} {g : SegmentOutline} (hw : OutlineSound w) (hg : g.Sound)
    (hstart : ∀ z ∈ w.getLast?, g.start = z.endAt) (hroom : w.length < 32)
    (hpool : (outlinePool w).length + g.bearers.length ≤ 192) : OutlineSound (w ++ [g]) where
  segments := by simpa using hroom
  joined := List.isChain_append.mpr ⟨hw.joined, .singleton g, fun z hz => by simpa using hstart z hz⟩
  each := by simpa [or_imp, forall_and, hg] using hw.each
  pool := by simpa [outlinePool] using hpool

end Sys2Proof.Machine
end

section
/-! ### What the operations of the blocks leave of the window

Almost every operation leaves the outline of the window as it is; the ones that do not are the retirement, the
append, the truncation, JOB_CLEAR and the reset. -/

namespace Sys2Proof.Machine

/-! #### Updates of one block -/

@[simp] theorem modCount_outline (s : State) (f : CountUnit → CountUnit) :
    (s.modCount f).outline = s.outline := rfl

@[simp] theorem modPos_outline (s : State) (f : Position → Position) : (s.modPos f).outline = s.outline := rfl

@[simp] theorem modSlp_outline (s : State) (f : SleeperQueue → SleeperQueue) :
    (s.modSlp f).outline = s.outline := rfl

@[simp] theorem modEng_outline (s : State) (f : Engine → Engine) : (s.modEng f).outline = s.outline := rfl

@[simp] theorem modAxis_outline (s : State) (a : AxisId) (f : Axis → Axis) :
    (s.modAxis a f).outline = s.outline := rfl

@[simp] theorem modHead_outline (s : State) (u : UnitId) (f : Head → Head) :
    (s.modHead u f).outline = s.outline := rfl

@[simp] theorem modCyc_outline (s : State) (f : Cycle → Cycle) : (s.modCyc f).outline = s.outline := rfl

@[simp] theorem modCond_outline (s : State) (f : Conditions → Conditions) :
    (s.modCond f).outline = s.outline := rfl

@[simp] theorem modLink_outline (s : State) (f : Link → Link) : (s.modLink f).outline = s.outline := rfl

@[simp] theorem modStore_outline (s : State) (f : Store → Store) : (s.modStore f).outline = s.outline := rfl

@[simp] theorem modParams_outline (s : State) (f : Params → Params) : (s.modParams f).outline = s.outline := rfl

@[simp] theorem modSeg_outline (s : State) (f : SegmentQueue → SegmentQueue)
    (h : (f s.seg).segments = s.seg.segments) : (s.modSeg f).outline = s.outline :=
  congrArg (List.map Segment.outline) h

@[simp] theorem beginAt_outline (s : State) (dt : Nat) : (s.beginAt dt).outline = s.outline := rfl

@[simp] theorem beginBy_outline (s : State) (t : Nat) : (s.beginBy t).outline = s.outline := rfl

/-- A fold of operations that leave the outline leaves it. -/
@[simp] theorem foldl_outline {α : Type} {f : State → α → State} (h : ∀ s x, (f s x).outline = s.outline)
    (l : List α) (s : State) : (l.foldl f s).outline = s.outline :=
  List.foldlRecOn (motive := fun t => t.outline = s.outline) l f rfl fun t ht x _ => (h t x).trans ht

/-! #### Machine/Flags.lean -/

@[simp] theorem fillCondition_outline (f : Flag) (s : State) : (fillCondition f s).outline = s.outline := rfl

@[simp] theorem armStop_outline (f : Flag) (s : State) : (armStop f s).outline = s.outline := by
  unfold armStop
  split <;> simp

@[simp] theorem setFlag_outline (f : Flag) (s : State) : (setFlag f s).outline = s.outline := by
  unfold setFlag
  dsimp only
  split
  · rfl
  · split <;> simp

@[simp] theorem recordFlag_outline (f : Flag) (s : State) : (recordFlag f s).outline = s.outline := by
  simp [recordFlag, addRecordFlag]

/-! #### Machine/Position.lean -/

@[simp] theorem refreshOutput_outline (s : State) : (refreshOutput s).outline = s.outline := rfl

@[simp] theorem refreshDemand_outline (s : State) : (refreshDemand s).outline = s.outline := by
  unfold refreshDemand
  dsimp only
  split <;> simp

@[simp] theorem rideDrive_outline (s : State) : (rideDrive s).outline = s.outline := by
  simp [rideDrive]

@[simp] theorem enterHolding_outline (t o : Int) (s : State) : (enterHolding t o s).1.outline = s.outline := rfl

@[simp] theorem indexOrder_outline (t : Int) (s : State) : (indexOrder t s).1.outline = s.outline := by
  unfold indexOrder
  split
  · split
    · simp
    · split <;> simp
  · simp

@[simp] theorem holdingReports_outline (lost atEnd : Bool) (s : State) :
    (holdingReports lost atEnd s).1.outline = s.outline := by
  unfold holdingReports
  dsimp only
  split <;> rfl

@[simp] theorem redetermine_outline (s : State) : (redetermine s).1.outline = s.outline := by
  unfold redetermine
  split
  · split
    · simp
    · split <;> simp
  · simp
  · simp

/-! #### Machine/Axes.lean -/

@[simp] theorem measureOvershoot_outline (a : AxisId) (s : State) :
    (measureOvershoot a s).outline = s.outline := by
  unfold measureOvershoot
  dsimp only
  split
  · rfl
  · split
    · simp
    · split <;> simp

@[simp] theorem enterHold_outline (a : AxisId) (outcome : AxisOutcome) (s : State) :
    (enterHold a outcome s).outline = s.outline := by
  simp [enterHold]

@[simp] theorem prepareAxes_outline (s : State) : (prepareAxes s).outline = s.outline :=
  foldl_outline (fun t a => modAxis_outline t a _) allAxes s

@[simp] theorem enterDriving_outline (a : AxisId) (dir : Option LineDir) (s : State) :
    (enterDriving a dir s).outline = s.outline := rfl

@[simp] theorem startAxis_outline (a : AxisId) (vt : Int) (s : State) :
    (startAxis a vt s).outline = s.outline := by
  unfold startAxis
  dsimp only
  split
  · split
    · simp
    · split
      · simp
      · split <;> simp
  · rfl

@[simp] theorem judgeReversal_outline (a : AxisId) (dir : LineDir) (s : State) :
    (judgeReversal a dir s).outline = s.outline := by
  unfold judgeReversal
  extract_lets x limit
  split <;> simp

@[simp] theorem judgeAxis_outline (a : AxisId) (s : State) : (judgeAxis a s).outline = s.outline := by
  unfold judgeAxis
  dsimp only
  split
  · split
    · split <;> simp
    · split
      · rfl
      · split
        · split <;> simp
        · simp
    · rfl
  · rfl

@[simp] theorem timeOutAxis_outline (a : AxisId) (s : State) : (timeOutAxis a s).outline = s.outline := by
  unfold timeOutAxis
  split <;> simp

@[simp] theorem cutAxis_outline (a : AxisId) (s : State) : (cutAxis a s).outline = s.outline := by
  unfold cutAxis
  split <;> simp

@[simp] theorem finishRelease_outline (a : AxisId) (s : State) : (finishRelease a s).outline = s.outline := rfl

@[simp] theorem takeRelease_outline (a : AxisId) (s : State) : (takeRelease a s).outline = s.outline := by
  unfold takeRelease
  split <;> simp

@[simp] theorem releaseAxis_outline (a : AxisId) (s : State) : (releaseAxis a s).outline = s.outline := by
  unfold releaseAxis
  split <;> simp

@[simp] theorem releaseAxes_outline (s : State) : (releaseAxes s).outline = s.outline := by
  simp [releaseAxes]

@[simp] theorem settleReleases_outline (s : State) : (settleReleases s).outline = s.outline := by
  unfold settleReleases
  split
  · rfl
  · exact foldl_outline (fun t a => by split <;> simp) _ _

/-! #### Machine/Workheads.lean -/

@[simp] theorem enterOpening_outline (u : UnitId) (s : State) : (enterOpening u s).outline = s.outline := rfl

@[simp] theorem endPhase_outline (u : UnitId) (s : State) : (endPhase u s).outline = s.outline := by
  unfold endPhase
  dsimp only
  split <;> simp

@[simp] theorem seePressure_outline (u : UnitId) (s : State) : (seePressure u s).outline = s.outline := by
  unfold seePressure
  dsimp only
  split
  · split <;> simp
  · rfl

@[simp] theorem enterSqueezing_outline (u : UnitId) (s : State) : (enterSqueezing u s).outline = s.outline := by
  unfold enterSqueezing
  dsimp only
  split <;> simp

@[simp] theorem judgeGate_outline (u : UnitId) (s : State) : (judgeGate u s).outline = s.outline := by
  unfold judgeGate
  split <;> simp

@[simp] theorem openGate_outline (s : State) : (openGate s).outline = s.outline := by
  simp [openGate]

@[simp] theorem enterInserted_outline (u : UnitId) (s : State) : (enterInserted u s).outline = s.outline := by
  simp [enterInserted]

@[simp] theorem judgeLowering_outline (u : UnitId) (s : State) : (judgeLowering u s).outline = s.outline := by
  unfold judgeLowering
  split
  · split <;> simp
  · rfl

@[simp] theorem enterLowering_outline (u : UnitId) (s : State) : (enterLowering u s).outline = s.outline := by
  simp [enterLowering]

@[simp] theorem enterTilting_outline (u : UnitId) (tilted : Bool) (s : State) :
    (enterTilting u tilted s).outline = s.outline := rfl

@[simp] theorem takeLower_outline (u : UnitId) (p : HeadPlan) (s : State) :
    (takeLower u p s).outline = s.outline := by
  unfold takeLower
  dsimp only
  split <;> simp

@[simp] theorem enterUp_outline (u : UnitId) (s : State) : (enterUp u s).outline = s.outline := by
  unfold enterUp
  dsimp only
  split
  · split <;> simp
  · rfl

@[simp] theorem judgeRaising_outline (u : UnitId) (s : State) : (judgeRaising u s).outline = s.outline := by
  unfold judgeRaising
  split
  · split <;> simp
  · rfl

@[simp] theorem enterRaising_outline (u : UnitId) (s : State) : (enterRaising u s).outline = s.outline := by
  simp [enterRaising]

@[simp] theorem enterBlind_outline (u : UnitId) (s : State) : (enterBlind u s).outline = s.outline := rfl

@[simp] theorem enterFaulted_outline (u : UnitId) (s : State) : (enterFaulted u s).outline = s.outline := rfl

@[simp] theorem enterStuck_outline (u : UnitId) (s : State) : (enterStuck u s).outline = s.outline := rfl

@[simp] theorem markFaulted_outline (u : UnitId) (s : State) : (markFaulted u s).outline = s.outline := by
  simp [markFaulted]

@[simp] theorem loseDepth_outline (u : UnitId) (s : State) : (loseDepth u s).outline = s.outline := by
  unfold loseDepth
  dsimp only
  split
  case h_3 => split <;> simp
  all_goals simp

@[simp] theorem deepen_outline (u : UnitId) (s : State) : (deepen u s).outline = s.outline := by
  unfold deepen
  split <;> simp

@[simp] theorem changeDepth_outline (u : UnitId) (s : State) : (changeDepth u s).outline = s.outline := by
  unfold changeDepth
  dsimp only
  split <;> simp

@[simp] theorem arrivalOrder_outline (u : UnitId) (plan : Option HeadPlan) (s : State) :
    (arrivalOrder u plan s).outline = s.outline := by
  unfold arrivalOrder
  dsimp only
  split
  · rfl
  · split
    · split <;> simp
    · rfl
    · rfl

@[simp] theorem abortHead_outline (u : UnitId) (s : State) : (abortHead u s).outline = s.outline := by
  unfold abortHead
  split <;> simp

@[simp] theorem abortHeads_outline (s : State) : (abortHeads s).outline = s.outline := by
  simp [abortHeads]

@[simp] theorem endTilt_outline (u : UnitId) (s : State) : (endTilt u s).outline = s.outline := by
  unfold endTilt
  split <;> simp

@[simp] theorem blockHead_outline (u : UnitId) (s : State) : (blockHead u s).outline = s.outline := by
  simp [blockHead]

@[simp] theorem endOpening_outline (u : UnitId) (s : State) : (endOpening u s).outline = s.outline := by
  unfold endOpening
  extract_lets h planned
  split
  · simp
  · split <;> simp

@[simp] theorem endParking_outline (u : UnitId) (s : State) : (endParking u s).outline = s.outline := by
  unfold endParking
  split <;> simp

@[simp] theorem restoreHead_outline (u : UnitId) (s : State) : (restoreHead u s).outline = s.outline := by
  unfold restoreHead
  split <;> rfl

/-! #### Machine/Records.lean and Machine/Halts.lean -/

@[simp] theorem modRecord_outline (seq : Nat) (f : Sleeper → Sleeper) (s : State) :
    (modRecord seq f s).outline = s.outline := rfl

@[simp] theorem enterMode_outline (m : Mode) (s : State) : (enterMode m s).outline = s.outline := by
  simp only [enterMode, refreshDemand_outline, fillMode, modLink_outline]
  exact modSeg_outline _ _ rfl

@[simp] theorem haltOrders_outline (s : State) : (haltOrders s).outline = s.outline := by
  simp [haltOrders]

@[simp] theorem enterHalted_outline (cause : HaltCause) (detail : Option Detail) (s : State) :
    (enterHalted cause detail s).outline = s.outline := by
  simp [enterHalted]

@[simp] theorem orderlyHalt_outline (f : Flag) (s : State) : (orderlyHalt f s).outline = s.outline := by
  simp [orderlyHalt]

@[simp] theorem actOnStop_outline (s : State) : (actOnStop s).outline = s.outline := by
  unfold actOnStop
  split
  · split <;> simp
  · rfl

@[simp] theorem setPhase_outline (p : Phase) (s : State) : (setPhase p s).outline = s.outline := by
  simp [setPhase]

@[simp] theorem raiseFlag_outline (f : Flag) (s : State) : (raiseFlag f s).outline = s.outline := by
  simp [raiseFlag]

/-! #### Machine/Segments.lean -/

@[simp] theorem judgeLookAhead_outline (appended : Bool) (s : State) :
    (judgeLookAhead appended s).outline = s.outline := by
  unfold judgeLookAhead
  dsimp only
  split <;> rfl

@[simp] theorem judgeStarved_outline (s : State) : (judgeStarved s).outline = s.outline := by
  unfold judgeStarved
  dsimp only
  split
  · split <;> simp
  · rfl

/-- The consumption of a bearer leaves it where it lies (R39). -/
@[simp] theorem consumeBearer_outline (c : Int) (s : State) : (consumeBearer c s).outline = s.outline := by
  simp only [consumeBearer, State.outline, State.modSeg_seg, List.map_map]
  refine List.map_congr_left fun g _ => ?_
  simp only [Function.comp_apply, Segment.outline, List.map_map, SegmentOutline.mk.injEq, true_and]
  refine List.map_congr_left fun b _ => ?_
  dsimp only [Function.comp_apply]
  split <;> rfl

/-! #### Machine/Engine.lean and Machine/Cycle.lean -/

@[simp] theorem beginDesign_outline (r : Sleeper) (s : State) : (beginDesign r s).outline = s.outline := rfl

@[simp] theorem beginTarget_outline (req : TargetRequest) (s : State) :
    (beginTarget req s).outline = s.outline := by
  unfold beginTarget
  split <;> rfl

@[simp] theorem abandonDesign_outline (test : DesignPass → Bool) (s : State) :
    (abandonDesign test s).outline = s.outline := rfl

@[simp] theorem withdrawTarget_outline (s : State) : (withdrawTarget s).outline = s.outline := rfl

@[simp] theorem requestTarget_outline (req : TargetRequest) (s : State) :
    (requestTarget req s).outline = s.outline := by
  unfold requestTarget
  dsimp only
  split <;> simp

@[simp] theorem returnToSeek_outline (s : State) : (returnToSeek s).outline = s.outline := by
  simp [returnToSeek]

@[simp] theorem abortCurrent_outline (s : State) : (abortCurrent s).outline = s.outline := by
  unfold abortCurrent
  split
  · split <;> rfl
  · rfl

@[simp] theorem arrivalOrders_outline (r : Sleeper) (withPlans : Bool) (s : State) :
    (arrivalOrders r withPlans s).outline = s.outline := by
  simp [arrivalOrders]

@[simp] theorem afterAxis_outline (s : State) : (afterAxis s).outline = s.outline := by
  simp [afterAxis]

/-! #### Machine/Count.lean -/

@[simp] theorem axisMoved_outline (a : AxisId) (s : State) : (axisMoved a s).outline = s.outline := by
  unfold axisMoved
  dsimp only
  split <;> simp

@[simp] theorem toggleLines_outline (l : Line) (together : Bool) (s : State) :
    (toggleLines l together s).outline = s.outline := by
  unfold toggleLines
  rw [modCount_outline]
  split
  · split <;> rfl
  · rfl

/-! #### Machine/Owners.lean and Machine/PassEvents.lean -/

@[simp] theorem nullEntry_outline (s : State) (e : Nat × Int) : (nullEntry s e).outline = s.outline := by
  unfold nullEntry
  split
  · exact restoreHead_outline _ _
  · rfl
  · rfl

@[simp] theorem writeTarget_outline (p : TargetPass) (s : State) : (writeTarget p s).outline = s.outline :=
  foldl_outline (fun t f => recordFlag_outline f t) _ _

@[simp] theorem startAxes_outline (t : TargetPart) (s : State) : (startAxes t s).outline = s.outline := by
  simp [startAxes]

/-! #### Machine/Link.lean -/

@[simp] theorem sendNotice_outline (k : NoticeKind) (s : State) : (sendNotice k s).outline = s.outline := by
  cases k with
  | mode | condition | wanted => unfold sendNotice; dsimp only; split <;> rfl

@[simp] theorem sendOwn_outline (s : State) : (sendOwn s).outline = s.outline := by
  unfold sendOwn
  split
  · rfl
  · split
    · exact sendNotice_outline _ _
    · rfl

@[simp] theorem arbitrate_outline (s : State) : (arbitrate s).outline = s.outline := by
  unfold arbitrate
  split
  · split
    · rfl
    · rfl
    · split
      · rfl
      · exact sendOwn_outline s
  · rfl

@[simp] theorem makeReply_outline (r : QueuedRequest) (status : Status) (content : List Byte) (s : State) :
    (makeReply r status content s).outline = s.outline := rfl

@[simp] theorem discardFrame_outline (s : State) : (discardFrame s).outline = s.outline := by
  simp [discardFrame]

@[simp] theorem assemble_outline (a : Assembler) (s : State) : (assemble a s).outline = s.outline := rfl

@[simp] theorem huntByte_outline (b : Byte) (stopLow : Bool) (s : State) :
    (huntByte b stopLow s).outline = s.outline := by
  unfold huntByte
  split <;> rfl

@[simp] theorem frameSent_outline (source : TxSource) (s : State) : (frameSent source s).outline = s.outline := by
  cases source with
  | queueFull | reply | notice => rfl
  | workRecord => exact refreshDemand_outline _

@[simp] theorem losePower_outline (s : State) : (losePower s).outline = s.outline := by
  unfold losePower
  dsimp only
  split <;> rfl

@[simp] theorem endSave_outline (matched : Bool) (image : List Byte) (s : State) :
    (endSave matched image s).outline = s.outline := by
  unfold endSave
  split <;> rfl

end Sys2Proof.Machine
end

section
/-! ### The window stays sound -/

namespace Sys2Proof.Machine

variable {s t : State}

theorem State.WindowSound.of_isInfix (h : s.WindowSound) (ho : t.outline <:+: s.outline) : t.WindowSound :=
  windowSound_iff.mpr ((windowSound_iff.mp h).of_isInfix ho)

theorem State.WindowSound.of_outline (h : s.WindowSound) (ho : t.outline = s.outline) : t.WindowSound :=
  h.of_isInfix (ho ▸ List.infix_rfl)

/-- An empty window is sound. -/
theorem windowSound_of_segments_nil (h : s.seg.segments = []) : s.WindowSound := by
  rw [windowSound_iff, State.outline, h]
  exact .nil

namespace State.WindowSound

/-! #### Machine/Segments.lean and Machine/Engine.lean -/

/-- Retirement takes segments from the start of the window (R51). -/
theorem after_retireSegments (h : s.WindowSound) : (retireSegments s).WindowSound :=
  h.of_isInfix ((List.dropWhile_suffix _).isInfix.map Segment.outline)

theorem after_judgeSegments (h : s.WindowSound) : (judgeSegments s).WindowSound :=
  h.after_retireSegments.of_outline (by simp [judgeSegments])

theorem after_noCoverSkip (h : s.WindowSound) (r : Sleeper) : (noCoverSkip r s).WindowSound := by
  unfold noCoverSkip
  dsimp only
  refine after_judgeSegments (h.of_outline ?_)
  split <;> simp

theorem after_engineLoop (n : Nat) (h : s.WindowSound) : (engineLoop n s).WindowSound := by
  induction n generalizing s with
  | zero => exact h
  | succ n ih =>
    unfold engineLoop
    split
    · exact h.of_outline (beginTarget_outline _ _)
    · split
      · exact h
      · exact h.of_outline (beginDesign_outline _ _)
      · exact ih (h.after_noCoverSkip _)
    · exact h

theorem after_judgeEngine (h : s.WindowSound) : (judgeEngine s).WindowSound := h.after_engineLoop _

/-! #### Machine/Cycle.lean -/

theorem after_hardHalt (h : s.WindowSound) (cause : HaltCause) (detail : Option Detail) :
    (hardHalt cause detail s).WindowSound := by
  unfold hardHalt
  split
  exacts [after_judgeEngine (h.of_outline (by simp)), h]

theorem after_skipCurrent (h : s.WindowSound) (reason : SkipReason) : (skipCurrent reason s).WindowSound := by
  unfold skipCurrent
  split
  · exact (after_judgeSegments (h.of_outline (by simp))).after_judgeEngine
  · exact h

theorem after_arrival (h : s.WindowSound) : (arrival s).WindowSound := by
  unfold arrival
  split
  · extract_lets taken arrived
    have harrived : arrived.outline = s.outline := by simp [arrived, taken]
    split
    · exact h.of_outline (by simp [harrived])
    · exact after_hardHalt (h.of_outline (by simp [harrived])) _ _
  · exact h

theorem after_onDriveReport (h : s.WindowSound) (report : DriveReport) : (onDriveReport s report).WindowSound := by
  have hjudged : (refreshDemand s).WindowSound := h.of_outline (refreshDemand_outline s)
  unfold onDriveReport
  split
  · cases report with
    | arrived => dsimp only; split; exacts [h.after_arrival, h]
    | outOfReach => dsimp only; split; exacts [h.after_skipCurrent _, h]
    | channelLost => dsimp only; split; exacts [h.after_hardHalt _ _, h]
    | holdLost => dsimp only; split; exacts [hjudged.after_hardHalt _ _, h]
    | strokeEnd => dsimp only; split; exacts [hjudged.after_hardHalt _ _, h]
  · exact h

theorem after_driveReports (h : s.WindowSound) (reports : List DriveReport) :
    (reports.foldl onDriveReport s).WindowSound :=
  List.foldlRecOn reports _ h fun _ ht report _ => ht.after_onDriveReport report

theorem after_judgeReach (h : s.WindowSound) (r : Sleeper) : (judgeReach r s).WindowSound := by
  have hseek : (setPhase .seek s).WindowSound := h.of_outline (setPhase_outline _ _)
  have hordered : (indexOrder r.chainage (setPhase .seek s)).1.WindowSound :=
    hseek.of_outline (indexOrder_outline _ _)
  unfold judgeReach
  dsimp only
  split
  · exact hseek.after_skipCurrent _
  · split
    · split
      · exact hordered.of_outline (setPhase_outline _ _)
      · exact hordered.after_driveReports _
    · exact hseek

theorem after_selectRecord (h : s.WindowSound) (r : Sleeper) : (selectRecord r s).WindowSound := by
  unfold selectRecord
  extract_lets active chosen
  have hchosen : chosen.WindowSound := h.of_outline (modCyc_outline _ _)
  split
  · exact hchosen.after_skipCurrent _
  · split
    · exact hchosen.of_outline (setPhase_outline _ _)
    · exact hchosen.after_judgeReach r
    · exact hchosen

theorem after_seekOnce (h : s.WindowSound) : (seekOnce s).WindowSound := by
  unfold seekOnce
  split
  · exact h.of_outline (enterMode_outline _ _)
  · split
    exacts [h.after_selectRecord _, h]

theorem after_seek (h : s.WindowSound) : (seek s).WindowSound := by
  unfold seek
  generalize s.slp.records.length + 1 = n
  induction n generalizing s with
  | zero => exact h
  | succ n ih =>
    unfold seekLoop
    split
    exacts [ih h.after_seekOnce, h]

theorem after_reachAgain (h : s.WindowSound) : (reachAgain s).WindowSound := by
  unfold reachAgain
  split
  · split
    · split
      exacts [h.after_judgeReach _, h]
    · exact h
  · exact h

theorem after_afterDrive {p : State × List DriveReport} (h : p.1.WindowSound) : (afterDrive p).WindowSound :=
  after_seek ((h.after_driveReports p.2).of_outline (by simp))

/-- The re-determination of the drive, and what follows it (R23). -/
theorem after_drive (h : s.WindowSound) : (afterDrive (redetermine s)).WindowSound :=
  after_afterDrive (h.of_outline (redetermine_outline s))

theorem after_finishWork (h : s.WindowSound) : (finishWork s).WindowSound := by
  unfold finishWork
  split
  · refine (after_judgeEngine (h.of_outline ?_)).after_seek
    split
    · simp
    · split <;> simp
  · exact h

theorem after_judgeClearing (h : s.WindowSound) : (judgeClearing s).WindowSound := by
  unfold judgeClearing
  split
  exacts [h.after_finishWork, h]

theorem after_judgeRelease (h : s.WindowSound) : (judgeRelease s).WindowSound := by
  unfold judgeRelease
  split
  exacts [after_judgeClearing (h.of_outline (by simp)), h]

theorem after_afterUnit (h : s.WindowSound) (u : UnitId) : (afterUnit u s).WindowSound := by
  unfold afterUnit
  extract_lets stopped settled judged
  have hjudged : judged.WindowSound := after_judgeRelease (h.of_outline (by simp [settled, stopped]))
  split
  exacts [hjudged.after_judgeClearing, hjudged]

theorem after_followUnit (h : s.WindowSound) (u : UnitId) (before : State) : (followUnit u before s).WindowSound := by
  unfold followUnit
  split
  · exact h.after_afterUnit u
  · split
    exacts [h.after_judgeClearing, h]

theorem after_axisChannelLost (h : s.WindowSound) (c : ChannelId) : (axisChannelLost c s).WindowSound := by
  unfold axisChannelLost
  extract_lets contested
  have hchoice : (if contested then s.freeOrder else (false, s)).2.outline = s.outline := by
    split <;> rfl
  split
  next gateFirst t hpair =>
  rw [hpair] at hchoice
  refine (after_hardHalt (h.of_outline ?_) _ _).of_outline (afterAxis_outline _)
  split
  exacts [(openGate_outline t).trans hchoice, hchoice]

/-! #### Machine/Sleepers.lean -/

theorem after_enterRecord (h : s.WindowSound) (c : Int) (width : Option Int) (source : Source) (plan : Option Plan)
    (unplanned : Bool) (raised : Option Flag) :
    (enterRecord c width source plan unplanned raised s).WindowSound := by
  unfold enterRecord afterEntry
  refine (after_judgeSegments (h.of_outline ?_)).after_judgeEngine.after_seek
  cases raised with
  | some f => simp [appendRecord]
  | none => simp [appendRecord]

theorem after_judgePlanned (h : s.WindowSound) (g : Segment) (b : Bearer) : (judgePlanned g b s).WindowSound := by
  have hused : (consumeBearer b.chainage s).WindowSound := h.of_outline (consumeBearer_outline _ _)
  unfold judgePlanned
  dsimp only
  split
  · exact hused
  · split
    exacts [hused.of_outline (raiseFlag_outline _ _), hused.after_enterRecord ..]

theorem after_judgeInTurn (h : s.WindowSound) (found : List (Segment × Bearer)) :
    (judgeInTurn found s).WindowSound := by
  refine List.foldlRecOn found _ h fun t ht x _ => ?_
  split
  exacts [ht.after_judgePlanned _ _, ht]

theorem after_judgePassing (h : s.WindowSound) : (judgePassing s).WindowSound := by
  unfold judgePassing
  split
  · split
    exacts [h.of_outline (modSlp_outline _ _), h.after_judgeInTurn _]
  · exact h

theorem after_judgeHeld (h : s.WindowSound) : (judgeHeld s).WindowSound :=
  after_judgeInTurn (h.of_outline (modSlp_outline _ _)) _

theorem after_enterDetection (h : s.WindowSound) (c w : Int) : (enterDetection c w s).WindowSound := by
  unfold enterDetection
  split
  · exact (h.of_outline (consumeBearer_outline _ _)).after_enterRecord ..
  · split <;> exact h.after_enterRecord ..

theorem after_judgeDetection (h : s.WindowSound) (a d : Int) : (judgeDetection a d s).WindowSound := by
  have hraised (f : Flag) : (raiseFlag f s).WindowSound := h.of_outline (raiseFlag_outline f s)
  unfold judgeDetection
  dsimp only
  split
  · split
    · exact h
    · split
      exacts [hraised _, h.after_enterDetection _ _]
  · exact hraised _

theorem after_closeDetection (h : s.WindowSound) (a : Int) : (closeDetection a s).WindowSound :=
  (after_judgeDetection (h.of_outline (modSlp_outline _ _)) _ _).after_judgeHeld

theorem after_abandonDetection (h : s.WindowSound) : (abandonDetection s).WindowSound := by
  unfold abandonDetection
  split
  exacts [after_judgeHeld (h.of_outline (modSlp_outline _ _)), h]

theorem after_detectorEdge (h : s.WindowSound) : (detectorEdge s).WindowSound := by
  unfold detectorEdge
  split
  · split
    exacts [h.of_outline (modSlp_outline _ _), h.after_closeDetection _, h]
  · exact h

/-! #### Machine/Count.lean -/

theorem after_nullLost (h : s.WindowSound) (c : ChannelId) : (nullLost c s).WindowSound := by
  have haxis (a : AxisId) : (loseAxisChannel a s).WindowSound := by
    unfold loseAxisChannel
    split
    exacts [after_axisChannelLost (h.of_outline (cutAxis_outline a s)) _, h]
  have hridden : (afterDrive (rideDrive s, [.channelLost])).WindowSound :=
    after_afterDrive (h.of_outline (rideDrive_outline s))
  cases c with
  | odo | xl => exact h
  | sat =>
    show (loseSatellite s).WindowSound
    unfold loseSatellite
    split
    exacts [h.of_outline (refreshOutput_outline s), hridden, hridden]
  | lat | lvlL | lvlR => exact haxis _
  | dep u => exact after_afterUnit (h.of_outline (loseDepth_outline u s)) u

theorem after_clearNull (h : s.WindowSound) (c : ChannelId) : (clearNull c s).WindowSound := by
  unfold clearNull
  split
  exacts [after_nullLost (h.of_outline (modCount_outline _ _)) c, h]

theorem after_channelFault (h : s.WindowSound) (c : ChannelId) : (channelFault c s).WindowSound :=
  (after_clearNull (h.of_outline (modCount_outline _ _)) c).of_outline (raiseFlag_outline _ _)

theorem after_setDirection (h : s.WindowSound) (up : Bool) : (setDirection up s).WindowSound := by
  unfold setDirection
  split
  exacts [h.of_outline (modPos_outline _ _), after_abandonDetection (h.of_outline (modPos_outline _ _))]

theorem after_detectorMoved (h : s.WindowSound) : (detectorMoved s).WindowSound :=
  h.after_judgePassing.after_judgeSegments.after_judgeEngine.after_seek

theorem after_odoMoved (h : s.WindowSound) (up : Bool) (before : State) : (odoMoved up before s).WindowSound := by
  unfold odoMoved
  extract_lets turned moved driven
  have hturned : turned.WindowSound := h.after_setDirection up
  have hmoved : moved.WindowSound := by
    dsimp only [moved]
    split
    exacts [hturned.after_detectorMoved, hturned]
  split
  · exact after_seek (hmoved.after_drive.after_reachAgain.of_outline (actOnStop_outline _))
  · exact hmoved.after_drive

theorem after_countMoved (h : s.WindowSound) (c : ChannelId) (up : Bool) (before : State) :
    (countMoved c up before s).WindowSound := by
  cases c with
  | odo => exact h.after_odoMoved up before
  | sat => exact h.after_drive
  | lat | lvlL | lvlR => exact h.of_outline (axisMoved_outline _ s)
  | xl => exact h
  | dep u => exact after_followUnit (h.of_outline (changeDepth_outline u s)) u before

theorem after_countStep (h : s.WindowSound) (c : ChannelId) (up : Bool) : (countStep c up s).WindowSound := by
  unfold countStep
  split
  exacts [after_countMoved (h.of_outline (modCount_outline _ _)) c up s, h.after_channelFault c]

theorem after_acceptChannel (h : s.WindowSound) (c : ChannelId) (onA onB : Bool) :
    (acceptChannel c onA onB s).WindowSound := by
  unfold acceptChannel
  extract_lets ch a b inverted taken
  have htaken : taken.WindowSound := h.of_outline (modCount_outline _ _)
  split
  exacts [htaken.after_channelFault c, htaken.after_countStep c _, htaken.after_countStep c _, h]

theorem after_acceptLine (h : s.WindowSound) (l : Line) (both : Bool) : (acceptLine l both s).WindowSound := by
  cases l with
  | channelA c => exact h.after_acceptChannel c true both
  | channelB c => exact h.after_acceptChannel c both true
  | detector => exact after_detectorEdge (h.of_outline (modCount_outline _ _))
  | pressure u =>
    unfold acceptLine
    dsimp only
    split
    · exact after_followUnit (h.of_outline (by simp)) u _
    · exact h.of_outline (modCount_outline _ _)

theorem after_changeLevel (h : s.WindowSound) (l : Line) (together : Bool) :
    (changeLevel l together s).WindowSound := by
  have htoggled : (toggleLines l together s).WindowSound := h.of_outline (toggleLines_outline l together s)
  unfold changeLevel
  dsimp only
  split
  exacts [htoggled.after_acceptLine l _, htoggled]

theorem after_acceptSteady (h : s.WindowSound) : (acceptSteady s).WindowSound := by
  unfold acceptSteady
  extract_lets channels detected
  have hchannels : channels.WindowSound :=
    List.foldlRecOn allChannels _ h fun _ ht c _ => ht.after_acceptChannel c _ _
  have hdetected : detected.WindowSound := by
    dsimp only [detected]
    split
    exacts [hchannels.after_acceptLine _ _, hchannels]
  refine List.foldlRecOn allUnits _ hdetected fun t ht u _ => ?_
  split
  exacts [ht.after_acceptLine _ _, ht]

/-! #### Machine/Settings.lean -/

theorem after_changeArms (h : s.WindowSound) : (changeArms s).WindowSound :=
  (after_judgeSegments (h.of_outline (by simp))).after_judgeEngine

theorem after_changePolarity (h : s.WindowSound) (before : State) : (changePolarity before s).WindowSound := by
  refine List.foldlRecOn allChannels _ h fun t ht c _ => ?_
  split
  exacts [ht.after_clearNull c, ht]

theorem after_parameterChanged (h : s.WindowSound) (id : Nat) (before : State) :
    (parameterChanged id before s).WindowSound := by
  unfold parameterChanged
  split
  case h_1 | h_2 | h_3 | h_4 => exact h.after_changeArms
  case h_5 => exact h.of_outline (modPos_outline _ _)
  case h_6 | h_12 => exact h.after_judgeSegments.after_judgeEngine
  case h_7 | h_8 => exact h.of_outline (by simp)
  case h_9 | h_10 | h_11 => exact h.after_drive
  case h_13 => exact h.of_outline (modLink_outline _ _)
  case h_14 => exact h.after_acceptSteady
  case h_15 => exact h.after_changePolarity before
  case h_16 => exact h

end State.WindowSound
end Sys2Proof.Machine
end

section
/-! ### The append, the truncation and the other requests -/

namespace Sys2Proof.Machine

variable {s : State}

/-! #### What the validation of an append gives (R42, R43) -/

theorem pairwise_of_ascending {l : List Nat} (h : ascending l = true) : l.Pairwise (· < ·) := by
  rw [← List.isChain_iff_pairwise]
  induction l using ascending.induct with
  | case1 => exact .nil
  | case2 x => exact .singleton x
  | case3 x y rest ih =>
    simp only [ascending, Bool.and_eq_true, decide_eq_true_eq] at h
    exact List.isChain_cons_cons.mpr ⟨h.1, ih h.2⟩

/-- An append that no check refuses has its segment in range, at the queue's end, and with room for it and for its
bearers. -/
theorem checks_of_appendRefusal_none {b : SegmentBody} (h : appendRefusal b s = none) :
    segmentInRange b s.seg.segments = true ∧ segmentGap b s.seg.segments = false
      ∧ s.seg.segments.length < maxSegments ∧ (listOf b).length ≤ freeEntries s.seg.segments := by
  unfold appendRefusal at h
  split_ifs at h with hrange hgap _ hfull hpool
  exact ⟨by simpa using hrange, by simpa using hgap, not_le.mp hfull, not_lt.mp hpool⟩

/-- A segment in range is sound by itself wherever it is held (R42). -/
theorem heldSegment_outline_sound {b : SegmentBody} {segs : List Segment} (h : segmentInRange b segs = true)
    (start : Int) : (heldSegment start b).outline.Sound := by
  simp only [segmentInRange, Bool.and_eq_true, decide_eq_true_eq, List.all_eq_true] at h
  obtain ⟨⟨⟨h, -⟩, hbearers⟩, hascending⟩ := h
  have hlength : 1000 ≤ b.length := by tauto
  refine (heldSegment start b).outline_sound_iff.mpr ⟨?_, ?_, ?_⟩
  · show 0 < b.length
    omega
  · refine List.forall_mem_map.mpr fun x hx => ⟨?_, rfl⟩
    have hx := hbearers x hx
    simp only [bearerOk, Bool.and_eq_true, decide_eq_true_eq] at hx
    exact hx.1.1.1.1
  · have hoffsets := pairwise_of_ascending hascending
    rwa [heldSegment, List.map_map]

/-- Without a gap the new segment starts where the last one ends (R43, R44). -/
theorem appendStart_eq_end {b : SegmentBody} {segs : List Segment} (h : segmentGap b segs = false) {g : Segment}
    (hg : segs.getLast? = some g) : appendStart b segs = g.endAt := by
  have hend : queueEnd segs = some g.endAt := by rw [queueEnd, hg]; rfl
  simp only [segmentGap, hend] at h
  rw [appendStart, hend]
  cases hstart : b.start with
  | none => rfl
  | some x => simpa [hstart] using h

theorem bearersHeld_eq_pool (s : State) : bearersHeld s.seg.segments = (outlinePool s.outline).length := by
  simp [bearersHeld, State.outline, outlinePool_map, poolOf, List.length_flatMap]

theorem appendSegment_outline (b : SegmentBody) (s : State) :
    (appendSegment b s).outline = s.outline ++ [(heldSegment (appendStart b s.seg.segments) b).outline] := by
  simp [State.outline, appendSegment]

namespace State.WindowSound

theorem after_appendSegment (h : s.WindowSound) {b : SegmentBody} (hb : appendRefusal b s = none) :
    (appendSegment b s).WindowSound := by
  obtain ⟨hrange, hgap, hroom, hfree⟩ := checks_of_appendRefusal_none hb
  have hw := windowSound_iff.mp h
  rw [windowSound_iff, appendSegment_outline]
  refine hw.concat (heldSegment_outline_sound hrange _) (fun z hz => ?_) ?_ ?_
  · rw [State.outline, List.getLast?_map] at hz
    obtain ⟨g, hg, rfl⟩ := Option.map_eq_some_iff.mp hz
    exact appendStart_eq_end hgap hg
  · rwa [State.outline, List.length_map]
  · have hpool := hw.pool
    rw [freeEntries, poolSize, bearersHeld_eq_pool] at hfree
    have hlength : (heldSegment (appendStart b s.seg.segments) b).outline.bearers.length = (listOf b).length := by
      simp [Segment.outline, heldSegment]
    omega

/-! #### Machine/Owners.lean -/

theorem after_takeNull (h : s.WindowSound) (entries : List (Nat × Int)) :
    (takeNull entries s).state.WindowSound := by
  unfold takeNull
  split
  · exact h
  · split
    exacts [h.of_outline (foldl_outline nullEntry_outline entries s), h]

theorem after_takeSetChainage (h : s.WindowSound) (x : Int) : (takeSetChainage x s).state.WindowSound := by
  unfold takeSetChainage
  split
  · exact h
  · split
    · exact h
    · split
      exacts [h, after_judgeSegments (h.of_outline rfl)]

theorem after_takeAppend (h : s.WindowSound) (b : SegmentBody) : (takeAppend b s).state.WindowSound := by
  unfold takeAppend
  split
  · exact h
  · next haccepted =>
    have hadded := h.after_appendSegment haccepted
    exact (after_judgePassing (hadded.of_outline (by simp))).after_judgeEngine.after_seek

/-- A truncation takes segments from the end of the window (R47). -/
theorem after_cutWindow (h : s.WindowSound) (x : Int) : (cutWindow x s).WindowSound :=
  h.of_isInfix ((List.takeWhile_prefix _).isInfix.map Segment.outline)

theorem after_truncate (h : s.WindowSound) (x : Int) : (truncate x s).WindowSound := by
  unfold truncate
  extract_lets free told
  have hfree : free.WindowSound := (h.after_cutWindow x).of_outline (abandonDesign_outline _ _)
  have htold : told.WindowSound := by
    dsimp only [told]
    split
    exacts [after_seek (hfree.of_outline (by simp)), hfree]
  exact htold.after_judgeSegments.after_judgeEngine.after_seek

theorem after_takeTruncate (h : s.WindowSound) (x : Int) : (takeTruncate x s).state.WindowSound := by
  unfold takeTruncate
  dsimp only
  split
  · exact h
  · split
    exacts [h, h.after_truncate x]

theorem after_takeHeadSet (h : s.WindowSound) (set : Byte) : (takeHeadSet set s).state.WindowSound := by
  unfold takeHeadSet
  split
  exacts [h.of_outline rfl, h]

theorem after_takeStart (h : s.WindowSound) : (takeStart s).state.WindowSound := by
  unfold takeStart
  split
  · exact h
  · split
    · exact h
    · split
      exacts [h, after_seek (h.of_outline (by simp))]

theorem after_takePause (h : s.WindowSound) : (takePause s).state.WindowSound := by
  unfold takePause
  split
  · split
    exacts [h.of_outline (enterMode_outline _ _), h.of_outline (modCyc_outline _ _)]
  · exact h

theorem after_takeClearHalt (h : s.WindowSound) : (takeClearHalt s).state.WindowSound := by
  unfold takeClearHalt
  split
  · split
    exacts [h.of_outline (enterMode_outline _ _), h]
  · exact h

/-- JOB_CLEAR empties the window (R57). -/
theorem after_takeJobClear (h : s.WindowSound) : (takeJobClear s).state.WindowSound := by
  unfold takeJobClear
  split
  · exact (after_judgeSegments (windowSound_of_segments_nil rfl)).of_outline (refreshDemand_outline _)
  · exact h

theorem after_takeSetEnables (h : s.WindowSound) (notice stop : BitVec 24) :
    (takeSetEnables notice stop s).state.WindowSound := by
  unfold takeSetEnables
  split
  exacts [h.of_outline (modCond_outline _ _), h]

theorem after_takeClearFlags (h : s.WindowSound) (flags : BitVec 24) :
    (takeClearFlags flags s).state.WindowSound := by
  unfold takeClearFlags
  split
  exacts [h.of_outline (modCond_outline _ _), h]

theorem after_takeConfigure (h : s.WindowSound) (id : Byte) (value : BitVec 32) :
    (takeConfigure id value s).state.WindowSound := by
  unfold takeConfigure
  split
  · exact h
  · split
    exacts [h, after_parameterChanged (h.of_outline (modParams_outline _ _)) _ _]

theorem after_takeReadParam (h : s.WindowSound) (id : Byte) : (takeReadParam id s).state.WindowSound := by
  unfold takeReadParam
  split
  exacts [h, h]

theorem after_takeSave (h : s.WindowSound) : (takeSave s).state.WindowSound := by
  unfold takeSave
  split
  exacts [h.of_outline (modStore_outline _ _), h]

theorem after_takeRestart (h : s.WindowSound) : (takeRestart s).state.WindowSound := by
  unfold takeRestart
  split
  exacts [h.of_outline (modLink_outline _ _), h]

theorem after_takeRequest (h : s.WindowSound) (r : Request) : (takeRequest r s).state.WindowSound := by
  cases r with
  | unknownKind | badLength | status | snapshot => exact h
  | nullChannels entries => exact h.after_takeNull entries
  | setChainage x => exact h.after_takeSetChainage x
  | segmentAppend body => exact h.after_takeAppend body
  | segmentTruncate x => exact h.after_takeTruncate x
  | headSet set => exact h.after_takeHeadSet set
  | start => exact h.after_takeStart
  | pause => exact h.after_takePause
  | stop => exact h.after_hardHalt _ _
  | clearHalt => exact h.after_takeClearHalt
  | jobClear => exact h.after_takeJobClear
  | setEnables notice stop => exact h.after_takeSetEnables notice stop
  | clearFlags set => exact h.after_takeClearFlags set
  | configure id value => exact h.after_takeConfigure id value
  | readParam id => exact h.after_takeReadParam id
  | saveSettings => exact h.after_takeSave
  | restart => exact h.after_takeRestart

end State.WindowSound
end Sys2Proof.Machine
end

section
/-! ### The cab link, the passes, the commands and the step -/

namespace Sys2Proof.Machine

variable {s : State}

/-- A reset leaves the window empty (R183). -/
theorem resetWith_windowSound (cause : ResetCause) (s : State) : (resetWith cause s).WindowSound :=
  windowSound_of_segments_nil rfl

namespace State.WindowSound

/-! #### Machine/Link.lean -/

theorem after_arbitrate (h : s.WindowSound) : (arbitrate s).WindowSound := h.of_outline (arbitrate_outline s)

theorem after_takeOne (h : s.WindowSound) (r : QueuedRequest) : (takeOne r s).WindowSound := by
  have htaken := h.after_takeRequest r.request
  unfold takeOne
  dsimp only
  split
  · exact h.of_outline (makeReply_outline ..)
  · split
    exacts [htaken.of_outline (makeReply_outline ..), htaken.of_outline (modLink_outline _ _)]

theorem after_takeRequests (h : s.WindowSound) : (takeRequests s).WindowSound := by
  unfold takeRequests
  generalize s.link.requests.length + 1 = n
  induction n generalizing s with
  | zero => exact h
  | succ n ih =>
    unfold takeLoop
    split
    · split
      exacts [ih (h.after_takeOne _), h]
    · exact h

theorem after_arriveFrame (h : s.WindowSound) (kind tag : Byte) (r : Request) :
    (arriveFrame kind tag r s).WindowSound := by
  unfold arriveFrame
  dsimp only
  split
  exacts [after_takeRequests (h.of_outline rfl), h.of_outline rfl]

theorem after_receiveRequest (h : s.WindowSound) (r : Request) (tag : Byte) :
    (receiveRequest r tag s).WindowSound := by
  unfold receiveRequest
  dsimp only
  split
  · exact h
  · split
    · exact h.of_outline (raiseFlag_outline _ _)
    · refine after_arriveFrame (h.of_outline ?_) _ _ _
      split <;> simp

theorem after_judgeCheck (h : s.WindowSound) (kind tag : Byte) (body : List Byte) (high low : Byte) :
    (judgeCheck kind tag body high low s).WindowSound := by
  unfold judgeCheck
  split
  exacts [after_arriveFrame (h.of_outline (assemble_outline _ _)) _ _ _, h.of_outline (discardFrame_outline s)]

theorem after_assembleByte (h : s.WindowSound) (b : Byte) : (assembleByte b s).WindowSound := by
  have hassembled (a : Assembler) : (assemble a s).WindowSound := h.of_outline (assemble_outline a s)
  unfold assembleByte
  split
  · exact h.of_outline (huntByte_outline b false s)
  · split
    exacts [hassembled _, h.of_outline (discardFrame_outline s)]
  · exact hassembled _
  · exact hassembled _
  · split <;> exact hassembled _
  · exact hassembled _
  · exact h.after_judgeCheck _ _ _ _ _

theorem after_receiveByte (h : s.WindowSound) (b : Byte) (stopLow : Bool) : (receiveByte b stopLow s).WindowSound := by
  unfold receiveByte assemblerByte
  extract_lets stamped
  have hstamped : stamped.WindowSound := h.of_outline (modLink_outline _ _)
  split
  · exact h
  · split
    · exact h.of_outline (raiseFlag_outline _ _)
    · split
      · exact hstamped.of_outline (huntByte_outline _ _ _)
      · split
        · exact hstamped.of_outline (by simp)
        · split
          exacts [hstamped.of_outline (discardFrame_outline _), hstamped.after_assembleByte b]

theorem after_restartIfDue (h : s.WindowSound) : (restartIfDue s).WindowSound := by
  unfold restartIfDue
  split
  exacts [resetWith_windowSound _ _, h]

/-! #### The effects of the commands -/

theorem at_beginAt (h : s.WindowSound) (dt : Nat) : (s.beginAt dt).WindowSound :=
  h.of_outline (beginAt_outline s dt)

theorem at_beginBy (h : s.WindowSound) (t : Nat) : (s.beginBy t).WindowSound :=
  h.of_outline (beginBy_outline s t)

theorem after_takeByte (h : s.WindowSound) (dt : Nat) (b : Byte) (stopLow : Bool) :
    (takeByte dt b stopLow s).WindowSound := by
  unfold takeByte
  dsimp only
  split
  exacts [((h.at_beginAt dt).after_receiveByte b stopLow).after_arbitrate, h.at_beginAt dt]

theorem after_request (h : s.WindowSound) (dt : Nat) (tag : Byte) (r : Request) :
    (request dt tag r s).WindowSound := by
  unfold request
  dsimp only
  split
  exacts [((h.at_beginAt dt).after_receiveRequest r tag).after_arbitrate, h.at_beginAt dt]

theorem after_driftLines (h : s.WindowSound) (l : Line) (together : Bool) : (driftLines l together s).WindowSound := by
  unfold driftLines
  split
  · split <;> exact h.of_outline rfl
  · exact h.of_outline rfl

theorem after_cabSilence (h : s.WindowSound) : (cabSilence s).WindowSound :=
  after_hardHalt (h.of_outline (modLink_outline _ _)) _ _

theorem after_leaveWaitDesign (h : s.WindowSound) (seq : Nat) : (leaveWaitDesign seq s).WindowSound := by
  unfold leaveWaitDesign
  split
  · split
    exacts [h.after_judgeReach _, h]
  · exact h

theorem after_completeDesign (h : s.WindowSound) (p : DesignPass) : (completeDesign p s).WindowSound := by
  have hwritten : (writeDesign p (dropPass s)).WindowSound := h.of_outline rfl
  exact (hwritten.after_judgeSegments.after_leaveWaitDesign p.seq).after_judgeEngine.after_seek

theorem after_completeTarget (h : s.WindowSound) (p : TargetPass) : (completeTarget p s).WindowSound := by
  unfold completeTarget
  extract_lets written started
  have hstarted : started.WindowSound := h.of_outline (by simp [started, written, dropPass])
  have hreported : (reportStartCuts started).WindowSound :=
    List.foldlRecOn _ _ hstarted fun _ ht a _ => ht.after_axisChannelLost (axisChannel a)
  exact (after_judgeRelease (hreported.of_outline (afterAxis_outline _))).after_judgeEngine.after_seek

theorem after_answerSave (h : s.WindowSound) (status : Status) : (answerSave status s).WindowSound := by
  unfold answerSave
  refine after_takeRequests ?_
  split
  exacts [h.of_outline (makeReply_outline ..), h]

theorem after_endRaise (h : s.WindowSound) (u : UnitId) : (endRaise u s).WindowSound := by
  unfold endRaise
  split
  exacts [h.of_outline (enterUp_outline u s), after_hardHalt (h.of_outline (enterStuck_outline u s)) _ _]

end State.WindowSound

/-! #### The commands -/

/-- Every next state of an outcome has a sound window. -/
def EndsWindowSound (o : Host.Outcome State Fault Refusal) : Prop := ∀ t, o = .next t → t.WindowSound

theorem endsWindowSound_next : EndsWindowSound (.next s) ↔ s.WindowSound :=
  ⟨fun h => h s rfl, fun h _ ht => Host.Outcome.next.inj ht ▸ h⟩

theorem onExpiry_endsWindowSound (h : s.WindowSound) (u : UnitId) (timer : Option Timer) {effect : State → State}
    (heffect : ∀ t : State, t.WindowSound → (effect t).WindowSound) :
    EndsWindowSound (onExpiry u timer effect s) := by
  unfold onExpiry
  split
  · exact endsWindowSound_next.mpr ((heffect _ (h.at_beginBy _)).after_afterUnit u).after_arbitrate
  · exact endsWindowSound_next.mpr h

/-- An expiry whose effect leaves the outline of the window. -/
theorem onExpiry_endsWindowSound_of_outline (h : s.WindowSound) (u : UnitId) (timer : Option Timer)
    {effect : State → State} (heffect : ∀ t : State, (effect t).outline = t.outline) :
    EndsWindowSound (onExpiry u timer effect s) :=
  onExpiry_endsWindowSound h u timer fun t ht => ht.of_outline (heffect t)

theorem exec_lineLevelChange_endsWindowSound (h : s.WindowSound) (dt : Nat) (l : Line) (together : Bool) :
    EndsWindowSound (execLineLevelChange dt l together s) := by
  refine endsWindowSound_next.mpr ?_
  split
  exacts [((h.at_beginAt dt).after_changeLevel l together).after_arbitrate,
    (h.at_beginAt dt).after_driftLines l together]

theorem exec_filterWindowExpiry_endsWindowSound (h : s.WindowSound) (l : Line) :
    EndsWindowSound (execFilterWindowExpiry l s) := by
  unfold execFilterWindowExpiry
  split
  · exact endsWindowSound_next.mpr ((h.at_beginBy _).after_acceptLine l _).after_arbitrate
  · exact endsWindowSound_next.mpr h

theorem exec_designPassComplete_endsWindowSound (h : s.WindowSound) (dt : Nat) :
    EndsWindowSound (execDesignPassComplete dt s) := by
  unfold execDesignPassComplete
  split
  · exact endsWindowSound_next.mpr ((h.at_beginAt dt).after_completeDesign _).after_arbitrate
  · exact endsWindowSound_next.mpr h

theorem exec_targetPassComplete_endsWindowSound (h : s.WindowSound) (dt : Nat) :
    EndsWindowSound (execTargetPassComplete dt s) := by
  unfold execTargetPassComplete
  split
  · exact endsWindowSound_next.mpr ((h.at_beginAt dt).after_completeTarget _).after_arbitrate
  · exact endsWindowSound_next.mpr h

theorem exec_axisSettleExpiry_endsWindowSound (h : s.WindowSound) (a : AxisId) :
    EndsWindowSound (execAxisSettleExpiry a s) := by
  unfold execAxisSettleExpiry
  split
  exacts [endsWindowSound_next.mpr (h.of_outline (by simp)), endsWindowSound_next.mpr h]

theorem exec_axisMotionTimeout_endsWindowSound (h : s.WindowSound) (a : AxisId) :
    EndsWindowSound (execAxisMotionTimeout a s) := by
  unfold execAxisMotionTimeout
  split
  exacts [endsWindowSound_next.mpr (h.of_outline (by simp)), endsWindowSound_next.mpr h]

theorem exec_transmitEnd_endsWindowSound (h : s.WindowSound) : EndsWindowSound (execTransmitEnd s) := by
  unfold execTransmitEnd
  split
  · have hsent (source : TxSource) (instant : Nat) : (frameSent source (s.beginBy instant)).WindowSound :=
      h.of_outline (by simp)
    exact endsWindowSound_next.mpr (hsent _ _).after_restartIfDue.after_arbitrate
  · exact endsWindowSound_next.mpr h

theorem exec_supervisionTimeout_endsWindowSound (h : s.WindowSound) :
    EndsWindowSound (execSupervisionTimeout s) := by
  unfold execSupervisionTimeout
  split
  · exact endsWindowSound_next.mpr (h.at_beginBy _).after_cabSilence.after_arbitrate
  · exact endsWindowSound_next.mpr h

theorem exec_saveComplete_endsWindowSound (h : s.WindowSound) (dt : Nat) (matched : Bool) :
    EndsWindowSound (execSaveComplete dt matched s) := by
  unfold execSaveComplete
  split
  · next image _ _ =>
    have hended : (endSave matched image (s.beginAt dt)).WindowSound := h.of_outline (by simp)
    exact endsWindowSound_next.mpr (hended.after_answerSave _).after_arbitrate
  · exact endsWindowSound_next.mpr h

theorem exec_powerFailure_endsWindowSound (h : s.WindowSound) (dt : Nat) :
    EndsWindowSound (execPowerFailure dt s) := by
  refine endsWindowSound_next.mpr (h.of_outline ?_)
  split <;> simp

theorem exec_endsWindowSound (c : Instr) (h : s.WindowSound) : EndsWindowSound (exec c s) := by
  cases c with
  | powerOn => exact endsWindowSound_next.mpr (resetWith_windowSound _ _).after_arbitrate
  | lineLevelChange dt l together => exact exec_lineLevelChange_endsWindowSound h dt l together
  | filterWindowExpiry l => exact exec_filterWindowExpiry_endsWindowSound h l
  | designPassComplete dt => exact exec_designPassComplete_endsWindowSound h dt
  | targetPassComplete dt => exact exec_targetPassComplete_endsWindowSound h dt
  | axisSettleExpiry a => exact exec_axisSettleExpiry_endsWindowSound h a
  | axisMotionTimeout a => exact exec_axisMotionTimeout_endsWindowSound h a
  | tiltExpiry u => exact onExpiry_endsWindowSound_of_outline h u _ (endTilt_outline u)
  | lowerTimeout u => exact onExpiry_endsWindowSound_of_outline h u _ (blockHead_outline u)
  | squeezeTimerExpiry u => exact onExpiry_endsWindowSound_of_outline h u _ (endPhase_outline u)
  | openExpiry u => exact onExpiry_endsWindowSound_of_outline h u _ (endOpening_outline u)
  | raiseTimeout u => exact onExpiry_endsWindowSound h u _ fun _ ht => ht.after_endRaise u
  | blindRaiseExpiry u => exact onExpiry_endsWindowSound_of_outline h u _ (enterFaulted_outline u)
  | parkingExpiry u => exact onExpiry_endsWindowSound_of_outline h u _ (endParking_outline u)
  | receiveHoldDrop dt b stopLow | frameDiscard dt b stopLow | frameArrival dt b stopLow
  | byteReceived dt b stopLow => exact endsWindowSound_next.mpr (h.after_takeByte dt b stopLow)
  | transmitEnd => exact exec_transmitEnd_endsWindowSound h
  | supervisionTimeout => exact exec_supervisionTimeout_endsWindowSound h
  | saveComplete dt matched => exact exec_saveComplete_endsWindowSound h dt matched
  | powerFailure dt => exact exec_powerFailure_endsWindowSound h dt
  | status dt tag | snapshot dt tag | nullChannels dt tag | setChainage dt tag | segmentAppend dt tag
  | segmentTruncate dt tag | headSet dt tag | start dt tag | pause dt tag | stop dt tag | clearHalt dt tag
  | jobClear dt tag | setEnables dt tag | clearFlags dt tag | configure dt tag | readParam dt tag
  | saveSettings dt tag | restart dt tag => exact endsWindowSound_next.mpr (h.after_request dt tag _)

theorem step_endsWindowSound (h : s.WindowSound) : EndsWindowSound (step s) := by
  unfold step
  split
  · exact endsWindowSound_next.mpr h
  · exact exec_endsWindowSound _ (h.of_outline rfl)

end Sys2Proof.Machine
end

section
namespace Sys2Proof.Machine

/-- Settles O10: R40 speaks of the outline of the window alone, and a step changes that in three ways at most.
Segments leave it at its start (retirement) or at its end (truncation), which leaves a sound stretch; one that has
passed the checks of an append joins it at its end; or it is emptied. -/
theorem segmentWindowKept : Obligations.SegmentWindowKept := by
  unfold Obligations.SegmentWindowKept
  intro s t hs
  exact step_endsWindowSound hs t

end Sys2Proof.Machine
end

section
/-! ### Rounding, linear values and the segment at a chainage (R38, R92) -/

namespace Sys2Proof.Machine

/-! #### The rounded quotient (R92) -/

theorem roundDiv_neg (n : Int) {d : Int} (hd : 0 < d) : roundDiv (-n) d = -roundDiv n d := by
  rcases lt_trichotomy n 0 with hn | rfl | hn
  · simp [roundDiv, hn.le, hn.not_ge]
  · have hzero : d / (2 * d) = 0 := Int.ediv_eq_zero_of_lt hd.le (by omega)
    simp [roundDiv, hzero]
  · simp [roundDiv, hn.le, hn.not_ge]

/-- The half on the lower side alone: from zero upwards, a half is rounded up. -/
theorem roundDiv_bounds_of_nonneg {n d : Int} (hd : 0 < d) (hn : 0 ≤ n) :
    2 * (roundDiv n d * d) ≤ 2 * n + d ∧ 2 * n < 2 * (roundDiv n d * d) + d := by
  have hround : roundDiv n d = (2 * n + d) / (2 * d) := if_pos hn
  have hle := Int.ediv_mul_le (2 * n + d) (b := 2 * d) (by omega)
  have hlt := Int.lt_ediv_add_one_mul_self (2 * n + d) (b := 2 * d) (by omega)
  rw [← hround] at hle hlt
  constructor <;> linarith

/-- The mirror image: from zero downwards, a half is rounded down. -/
theorem roundDiv_bounds_of_nonpos {n d : Int} (hd : 0 < d) (hn : n ≤ 0) :
    2 * (roundDiv n d * d) < 2 * n + d ∧ 2 * n ≤ 2 * (roundDiv n d * d) + d := by
  obtain ⟨hle, hlt⟩ := roundDiv_bounds_of_nonneg hd (Int.neg_nonneg_of_nonpos hn)
  rw [roundDiv_neg n hd, Int.neg_mul] at hle hlt
  constructor <;> linarith

/-- The rounded quotient is a nearest whole number. -/
theorem roundDiv_nearest (n : Int) {d : Int} (hd : 0 < d) :
    2 * (n - roundDiv n d * d).natAbs ≤ d.natAbs := by
  rcases le_total 0 n with hn | hn
  · have hbounds := roundDiv_bounds_of_nonneg hd hn
    omega
  · have hbounds := roundDiv_bounds_of_nonpos hd hn
    omega

/-- Of two nearest whole numbers the rounded quotient is the one away from zero. -/
theorem roundDiv_half_away (n : Int) {d : Int} (hd : 0 < d)
    (hhalf : 2 * (n - roundDiv n d * d).natAbs = d.natAbs) :
    n.natAbs < (roundDiv n d * d).natAbs := by
  rcases le_total 0 n with hn | hn
  · have hbounds := roundDiv_bounds_of_nonneg hd hn
    omega
  · have hbounds := roundDiv_bounds_of_nonpos hd hn
    omega

/-- Rounding does not leave a range of whole numbers. -/
theorem roundDiv_mem_range {n d lo hi : Int} (hd : 0 < d) (hlo : lo * d ≤ n) (hhi : n ≤ hi * d) :
    lo ≤ roundDiv n d ∧ roundDiv n d ≤ hi := by
  have hnear := roundDiv_nearest n hd
  constructor
  · have habove : lo * d < (roundDiv n d + 1) * d := by
      rw [Int.add_mul]
      omega
    exact Int.lt_add_one_iff.mp (lt_of_mul_lt_mul_right habove hd.le)
  · have hbelow : roundDiv n d * d < (hi + 1) * d := by
      rw [Int.add_mul]
      omega
    exact Int.lt_add_one_iff.mp (lt_of_mul_lt_mul_right hbelow hd.le)

/-! #### Linear values and the segment at a chainage (R38) -/

/-- Between the ends of a segment a linear value is a weighted mean of the two end values, so it keeps to their
range. -/
theorem linearAt_mem_range {v0 v1 L u lo hi : Int} (hu : 0 ≤ u ∧ u ≤ L) (hv0 : lo ≤ v0 ∧ v0 ≤ hi)
    (hv1 : lo ≤ v1 ∧ v1 ≤ hi) : lo * L ≤ linearAt v0 v1 L u ∧ linearAt v0 v1 L u ≤ hi * L := by
  obtain ⟨hu0, huL⟩ := hu
  have hrest : 0 ≤ L - u := by omega
  have hmean : linearAt v0 v1 L u = v0 * (L - u) + v1 * u := by
    unfold linearAt
    ring
  have hends (v : Int) : v * L = v * (L - u) + v * u := by ring
  rw [hmean, hends lo, hends hi]
  exact ⟨add_le_add (mul_le_mul_of_nonneg_right hv0.1 hrest) (mul_le_mul_of_nonneg_right hv1.1 hu0),
    add_le_add (mul_le_mul_of_nonneg_right hv0.2 hrest) (mul_le_mul_of_nonneg_right hv1.2 hu0)⟩

/-- The segment at a chainage contains it, its end included (the queue end belongs to the last segment). -/
theorem segmentAt_contains {segs : List Segment} {x : Int} {g : Segment} (h : segmentAt segs x = some g)
    (hlength : 0 < g.length) : g.start ≤ x ∧ x ≤ g.endAt := by
  unfold segmentAt at h
  split at h
  · next k hfound =>
    obtain rfl := Option.some.inj h
    have hin := List.find?_some hfound
    simp only [decide_eq_true_eq] at hin
    exact ⟨hin.1, hin.2.le⟩
  · have hend := of_decide_eq_true (Option.filter_eq_some_iff.mp h).2
    unfold Segment.endAt at hend ⊢
    omega

end Sys2Proof.Machine
end

section
/-! ### The design cant (R97) -/

namespace Sys2Proof.Machine

theorem designPart_cant {p : DesignPass} {g : Segment} (h : segmentAt p.segments p.chainage = some g) :
    (designPart p).cant = cantAt g p.chainage := by
  simp [designPart, h]

theorem designPart_grade {p : DesignPass} {g : Segment} (h : segmentAt p.segments p.chainage = some g) :
    (designPart p).grade = g.grade := by
  simp [designPart, h]

/-- Ten times a cant in tenths of a millimetre is the cant in 0.01 mm, so the range widens tenfold. -/
theorem cantAt_mem_range {g : Segment} {c lo hi : Int} (hlength : 0 < g.length)
    (hc : g.start ≤ c ∧ c ≤ g.endAt) (hcant0 : lo ≤ g.cant0 ∧ g.cant0 ≤ hi)
    (hcant1 : lo ≤ g.cant1 ∧ g.cant1 ≤ hi) :
    10 * lo ≤ cantAt g c ∧ cantAt g c ≤ 10 * hi := by
  have hu : 0 ≤ c - g.start ∧ c - g.start ≤ g.length := by
    unfold Segment.endAt at hc
    omega
  obtain ⟨hlo, hhi⟩ := linearAt_mem_range hu hcant0 hcant1
  refine roundDiv_mem_range hlength ?_ ?_ <;> rw [mul_assoc] <;> omega

/-- Settles O18: the design cant is one rounded quotient, so R92 gives its rounding; its range is that of the end
cants, which neither a linear value inside the segment nor the rounding leaves. -/
theorem designCantRounded : Obligations.DesignCantRounded := by
  unfold Obligations.DesignCantRounded
  intro p g hat hlength hcant0_ge hcant0_le hcant1_ge hcant1_le
  rw [designPart_cant hat]
  have hrange := cantAt_mem_range hlength (segmentAt_contains hat hlength) ⟨hcant0_ge, hcant0_le⟩
    ⟨hcant1_ge, hcant1_le⟩
  exact ⟨roundDiv_nearest _ hlength, roundDiv_half_away _ hlength, hrange.1, hrange.2, designPart_grade hat⟩

end Sys2Proof.Machine
end


section
/-! What an invariant of the whole machine must be kept by, so that every step keeps it: the traversal of the
blocks, the port and the commands, made once for all of them. -/

namespace Sys2Proof.Machine

/-! ### The watched part of a state -/

/-- What the invariants of the whole machine speak of: what the blocks leave alone, the roster of the sleeper
queue, the condition flags, the drive's output, the axes and the units. -/
structure Watched where
  kept : Kept
  flags : FlagSet
  output : DriveCommand
  axes : Three Axis
  heads : Four Head

/-- The watched part of a state. -/
def State.watched (s : State) : Watched := ⟨s.kept, s.cond.flags, s.pos.output, s.axes, s.heads⟩

section watched
variable {s t : State}

theorem watched_of_kept (hk : t.kept = s.kept) (hf : t.cond.flags = s.cond.flags)
    (ho : t.pos.output = s.pos.output) (ha : t.axes = s.axes) (hh : t.heads = s.heads) :
    t.watched = s.watched := by
  simp only [State.watched, hk, hf, ho, ha, hh]

theorem kept_of_watched (h : t.watched = s.watched) : t.kept = s.kept := congrArg Watched.kept h

theorem flags_of_watched (h : t.watched = s.watched) : t.cond.flags = s.cond.flags := congrArg Watched.flags h

theorem output_of_watched (h : t.watched = s.watched) : t.pos.output = s.pos.output := congrArg Watched.output h

theorem axes_of_watched (h : t.watched = s.watched) : t.axes = s.axes := congrArg Watched.axes h

theorem heads_of_watched (h : t.watched = s.watched) : t.heads = s.heads := congrArg Watched.heads h

theorem modCyc_watched (s : State) (f : Cycle → Cycle) (h : (f s.cyc).resetCause = s.cyc.resetCause) :
    (s.modCyc f).watched = s.watched :=
  watched_of_kept (modCyc_kept s f h) rfl rfl rfl rfl

theorem modPos_watched (s : State) (f : Position → Position) (ho : (f s.pos).output = s.pos.output)
    (hd : (f s.pos).datum = s.pos.datum) (hc : (f s.pos).countAtDatum = s.pos.countAtDatum)
    (hr : (f s.pos).direction = s.pos.direction) : (s.modPos f).watched = s.watched :=
  watched_of_kept (modPos_kept s f hd hc hr) rfl ho rfl rfl

theorem modRecord_watched (seq : Nat) (f : Sleeper → Sleeper) (s : State)
    (h : ∀ r, (f r).seq = r.seq ∧ (f r).chainage = r.chainage ∧ (f r).plan = r.plan) :
    (modRecord seq f s).watched = s.watched :=
  watched_of_kept (modRecord_kept seq f s h) rfl rfl rfl rfl

/-- A change of the records that keeps each one's number, chainage and plan is not watched. -/
theorem mapRecords_watched (s : State) (f : Sleeper → Sleeper)
    (h : ∀ r, ((f r).seq, (f r).chainage, (f r).plan) = (r.seq, r.chainage, r.plan)) :
    (s.modSlp fun q => { q with records := q.records.map f }).watched = s.watched := by
  refine watched_of_kept (mapRecords_kept s _ ?_ rfl rfl rfl) rfl rfl rfl rfl
  rw [List.map_map]
  exact List.map_congr_left fun r _ => h r

theorem addRecordFlag_watched (f : Flag) (s : State) : (addRecordFlag f s).watched = s.watched :=
  watched_of_kept (addRecordFlag_kept f s) rfl rfl rfl rfl

end watched

/-- The departure of the front record (R75, R76). -/
def SleeperQueue.departed (q : SleeperQueue) : SleeperQueue :=
  { q with
    records := q.records.tail
    staying := false
    highWater := if q.staying && q.records.tail.isEmpty then none else q.highWater }

theorem departRecord_eq (s : State) : departRecord s = refreshDemand (s.modSlp SleeperQueue.departed) := rfl

/-! ### What an invariant must be kept by -/

/-- A property `P` of states that the blocks, the port and the requests of `A` keep, each at the point where the
model changes something that is watched. A weaker property `W` holds in between: an event at a unit may break `P`
until the drive's output has been re-determined, which restores it. -/
structure Upheld (A : Request → Prop) (W P : State → Prop) : Prop where
  weaken {s : State} : P s → W s
  of_watched {s t : State} : P s → t.watched = s.watched → P t
  on_clock {s : State} (clock eventNo : Nat) : P s → P { s with clock := clock, eventNo := eventNo }
  on_count {s : State} (f : CountUnit → CountUnit) : P s → P (s.modCount f)
  on_position {s : State} {f : Position → Position} : (f s.pos).output = s.pos.output → P s → P (s.modPos f)
  on_setFlag {s : State} (f : Flag) : P s → P (setFlag f s)
  on_refreshOutput {s : State} : W s → P (refreshOutput s)
  on_rideDrive {s : State} : W s → P (rideDrive s)
  on_haltOrders {s : State} : W s → P (haltOrders s)
  on_prepareAxis {s : State} (a : AxisId) : P s → P (prepareAxis a s)
  on_startAxis {s : State} (a : AxisId) (vt : Int) : P s → P (startAxis a vt s)
  on_judgeAxis {s : State} (a : AxisId) : P s → P (judgeAxis a s)
  on_enterHold {s : State} (a : AxisId) (o : AxisOutcome) : P s → P (enterHold a o s)
  on_releaseAxis {s : State} (a : AxisId) : P s → P (releaseAxis a s)
  on_settleReleases {s : State} : P s → P (settleReleases s)
  on_judgeGate {s : State} (u : UnitId) : P s → P (judgeGate u s)
  on_arrivalOrder {s : State} (u : UnitId) (plan : Option HeadPlan) : W s → W (arrivalOrder u plan s)
  on_loseDepth {s : State} (u : UnitId) : W s → W (loseDepth u s)
  on_restoreHead {s : State} (u : UnitId) : W s → W (restoreHead u s)
  on_changeDepth {s : State} (u : UnitId) : W s → W (changeDepth u s)
  on_changeDepth_same {s : State} (u : UnitId) :
    ((changeDepth u s).heads.get u).state = (s.heads.get u).state → P s → P (changeDepth u s)
  on_seePressure {s : State} (u : UnitId) : W s → W (seePressure u s)
  on_seePressure_same {s : State} (u : UnitId) :
    ((seePressure u s).heads.get u).state = (s.heads.get u).state → P s → P (seePressure u s)
  on_endTilt {s : State} (u : UnitId) : (s.heads.get u).state = .tilting → W s → W (endTilt u s)
  on_blockHead {s : State} (u : UnitId) : (s.heads.get u).state = .lowering → W s → W (blockHead u s)
  on_endPhase {s : State} (u : UnitId) : (s.heads.get u).state = .squeezing → W s → W (endPhase u s)
  on_endOpening {s : State} (u : UnitId) : (s.heads.get u).state = .opening → W s → W (endOpening u s)
  on_enterUp {s : State} (u : UnitId) : W s → W (enterUp u s)
  on_enterStuck {s : State} (u : UnitId) :
    (s.heads.get u).state = .raising → (s.heads.get u).stage = some .normal → W s → W (enterStuck u s)
  on_enterFaulted {s : State} (u : UnitId) :
    (s.heads.get u).state = .raising ∧ (s.heads.get u).stage = some .blind ∨ (s.heads.get u).state = .parking →
    W s → W (enterFaulted u s)
  on_appendRecord {s : State} (c : Int) (width : Option Int) (source : Source) (plan : Option Plan)
    (unplanned : Bool) :
    tooClose c s = false → queueFull s = false → P s → P (appendRecord c width source plan unplanned s)
  on_depart {s : State} : P s → P (s.modSlp SleeperQueue.departed)
  on_clearRecords {s : State} : P s → P (clearRecords s)
  on_clearHighWater {s : State} : s.slp.records = [] → P s → P (s.modSlp fun q => { q with highWater := none })
  on_put {s : State} {id v : Nat} :
    configureRefusal id v s = none → P s → P (s.modParams fun p => p.put id v)
  on_headSet {s : State} (set : UnitSet) : P s → P { s with headSet := set }
  on_enables {s : State} {f : Conditions → Conditions} :
    (f s.cond).flags = s.cond.flags → P s → P (s.modCond f)
  on_clearFlags {s : State} (set : BitVec 24) : A (.clearFlags set) → P s → P (takeClearFlags set s).state
  on_store {s : State} (store : Store) (freeNext : Nat) : P s → P { s with store := store, freeNext := freeNext }
  on_port {s : State} {f : Link → Link} : (f s.link).hold = s.link.hold →
    (f s.link).requests = s.link.requests → (f s.link).full = s.link.full → P s → P (s.modLink f)
  on_markNext {s : State} {f : Link → Link} (p : Progress) : (f s.link).hold = s.link.hold →
    (f s.link).requests = markNext p s.link.requests → (f s.link).full = s.link.full → P s → P (s.modLink f)
  on_push {s : State} (kind tag : Byte) (r : Request) : A r → s.link.requests.length < 4 → P s →
    P (s.modLink fun l => { l with requests := l.requests ++ [⟨kind, tag, r, .waiting⟩] })
  on_overflow {s : State} (kind tag : Byte) : s.link.hold = false → P s →
    P (s.modLink fun l =>
      { l with full := l.full ++ [(kind, tag)], hold := l.hold || decide (maxFull ≤ l.full.length + 1) })
  on_fullSent {s : State} : P s → P (fullSent s)
  on_replySent {s : State} : P s → P (replySent s)
  on_losePower {s : State} : P s → P (losePower s)
  admitted {s : State} {q : QueuedRequest} : P s → q ∈ s.link.requests → q.progress ≠ .replied → A q.request

end Sys2Proof.Machine
end

section
/-! ### The blocks -/

namespace Sys2Proof.Machine.Upheld

variable {A : Request → Prop} {W P : State → Prop} {s : State}

section single
variable (hP : Upheld A W P)
include hP

/-! #### Machine/Position.lean and Machine/Halts.lean -/

theorem after_refreshDemand (h : P s) : P (refreshDemand s) := by
  have hjudged : P (s.modPos fun p => { p with demand := demandOf s, strokeTerm := strokeTermOf s }) :=
    hP.on_position rfl h
  unfold refreshDemand
  dsimp only
  split
  exacts [hP.on_setFlag _ hjudged, hjudged]

theorem after_setPhase (p : Phase) (h : P s) : P (setPhase p s) :=
  hP.after_refreshDemand (hP.of_watched h (modCyc_watched s _ rfl))

theorem after_enterMode (m : Mode) (h : P s) : P (enterMode m s) := by
  refine hP.after_refreshDemand (hP.of_watched h (watched_of_kept ?_ rfl rfl rfl rfl))
  rw [fillMode_kept, modSeg_kept, mapRecords_kept, modCond_kept, modCyc_kept] <;> first | rfl | (split <;> rfl)

theorem after_orderlyHalt (f : Flag) (h : P s) : P (orderlyHalt f s) :=
  hP.on_haltOrders (hP.weaken (hP.after_enterMode _ (hP.of_watched h (modCyc_watched s _ rfl))))

theorem after_actOnStop (h : P s) : P (actOnStop s) := by
  unfold actOnStop
  split
  · split
    exacts [hP.after_orderlyHalt _ h, h]
  · exact h

theorem after_raiseFlag (f : Flag) (h : P s) : P (raiseFlag f s) := hP.after_actOnStop (hP.on_setFlag f h)

theorem after_recordFlag (f : Flag) (h : P s) : P (recordFlag f s) :=
  hP.on_setFlag f (hP.of_watched h (addRecordFlag_watched f s))

theorem after_enterHolding (t o : Int) (h : P s) : P (enterHolding t o s).1 :=
  hP.on_refreshOutput (hP.weaken (hP.on_position (s := s) rfl h))

theorem after_indexOrder (t : Int) (h : P s) : P (indexOrder t s).1 := by
  unfold indexOrder
  split
  · split
    · exact hP.on_rideDrive (hP.weaken h)
    · split
      · exact hP.after_enterHolding t _ h
      · exact hP.on_refreshOutput (hP.weaken (hP.on_position (s := s) rfl h))
  · exact hP.on_rideDrive (hP.weaken h)

theorem after_holdingReports (lost atEnd : Bool) (h : P s) : P (holdingReports lost atEnd s).1 := by
  have hmarked : P (refreshOutput (s.modPos fun p => { p with holdLost := lost, strokeEnd := atEnd })) :=
    hP.on_refreshOutput (hP.weaken (hP.on_position (s := s) rfl h))
  unfold holdingReports
  dsimp only
  split
  · exact hP.of_watched hmarked rfl
  all_goals exact hmarked

theorem after_redetermine (h : P s) : P (redetermine s).1 := by
  have hrefreshed : P (refreshOutput s) := hP.on_refreshOutput (hP.weaken h)
  unfold redetermine
  split
  · split
    · exact hP.on_rideDrive (hP.weaken h)
    · split
      exacts [hP.after_enterHolding _ _ h, hrefreshed]
  · exact hP.after_holdingReports _ _ h
  · exact hrefreshed

/-! #### Machine/Axes.lean -/

theorem after_prepareAxes (h : P s) : P (prepareAxes s) :=
  List.foldlRecOn allAxes _ h fun _ ht a _ => hP.on_prepareAxis a ht

theorem after_releaseAxes (h : P s) : P (releaseAxes s) :=
  List.foldlRecOn allAxes _ h fun _ ht a _ => hP.on_releaseAxis a ht

theorem after_openGate (h : P s) : P (openGate s) :=
  List.foldlRecOn allUnits _ h fun _ ht u _ => hP.on_judgeGate u ht

theorem after_timeOutAxis (a : AxisId) (h : P s) : P (timeOutAxis a s) := by
  unfold timeOutAxis
  split
  exacts [hP.on_enterHold a _ h, hP.after_recordFlag _ (hP.on_enterHold a _ h)]

theorem after_cutAxis (a : AxisId) (h : P s) : P (cutAxis a s) := by
  unfold cutAxis
  split
  exacts [hP.on_enterHold a _ h, h]

theorem after_startAxes (t : TargetPart) (h : P s) : P (startAxes t s) :=
  hP.on_startAxis _ _ (hP.on_startAxis _ _ (hP.on_startAxis _ _ h))

/-! #### Machine/Segments.lean and Machine/Engine.lean -/

theorem after_judgeLookAhead (appended : Bool) (h : P s) : P (judgeLookAhead appended s) := by
  unfold judgeLookAhead
  dsimp only
  split <;> exact hP.of_watched h rfl

theorem after_judgeStarved (h : P s) : P (judgeStarved s) := by
  have hmarked : P (s.modSeg fun q => { q with starved := isStarved s }) := hP.of_watched h rfl
  unfold judgeStarved
  split
  · dsimp only
    split
    exacts [hP.on_setFlag _ hmarked, hmarked]
  · exact h

theorem after_judgeSegments (h : P s) : P (judgeSegments s) :=
  hP.after_actOnStop (hP.after_judgeStarved (hP.after_judgeLookAhead _ (hP.of_watched h rfl)))

theorem after_returnToSeek (h : P s) : P (returnToSeek s) :=
  hP.after_setPhase _ (hP.of_watched h (modCyc_watched s _ rfl))

theorem after_noCoverSkip (r : Sleeper) (h : P s) : P (noCoverSkip r s) := by
  have hskipped (f : Sleeper → Sleeper)
      (hf : ∀ r, (f r).seq = r.seq ∧ (f r).chainage = r.chainage ∧ (f r).plan = r.plan) :
      P (modRecord r.seq f s) := hP.of_watched h (modRecord_watched _ _ _ hf)
  unfold noCoverSkip
  dsimp only
  refine hP.after_judgeSegments (hP.after_raiseFlag _ ?_)
  split
  · exact hP.after_returnToSeek (hskipped _ fun _ => ⟨rfl, rfl, rfl⟩)
  · exact hskipped _ fun _ => ⟨rfl, rfl, rfl⟩

theorem after_beginTarget (req : TargetRequest) (h : P s) : P (beginTarget req s) := by
  unfold beginTarget
  split <;> exact hP.of_watched h rfl

theorem after_judgeEngine (h : P s) : P (judgeEngine s) := by
  unfold judgeEngine
  generalize s.slp.records.length + 1 = n
  induction n generalizing s with
  | zero => exact h
  | succ n ih =>
    unfold engineLoop
    split
    · exact hP.after_beginTarget _ h
    · split
      exacts [h, hP.of_watched h rfl, ih (hP.after_noCoverSkip _ h)]
    · exact h

theorem after_requestTarget (req : TargetRequest) (h : P s) : P (requestTarget req s) := by
  unfold requestTarget
  dsimp only
  split
  exacts [hP.after_beginTarget _ (hP.of_watched h rfl), hP.of_watched h rfl]

/-! #### Machine/Cycle.lean -/

theorem after_abortCurrent (h : P s) : P (abortCurrent s) := by
  unfold abortCurrent
  split
  · split
    exacts [hP.of_watched h (modRecord_watched _ _ _ fun _ => ⟨rfl, rfl, rfl⟩), h]
  · exact h

theorem after_hardHalt (cause : HaltCause) (detail : Option Detail) (h : P s) : P (hardHalt cause detail s) := by
  have haborted : P (withdrawTarget (abortCurrent s)) := hP.of_watched (hP.after_abortCurrent h) rfl
  unfold hardHalt
  split
  · refine hP.after_judgeEngine (hP.on_haltOrders (hP.weaken (hP.after_enterMode _ ?_)))
    exact hP.of_watched haborted (modCyc_watched _ _ rfl)
  · exact h

theorem after_skipCurrent (reason : SkipReason) (h : P s) : P (skipCurrent reason s) := by
  unfold skipCurrent
  split
  · refine hP.after_judgeEngine (hP.after_judgeSegments (hP.after_raiseFlag _ (hP.after_returnToSeek ?_)))
    exact hP.of_watched h (modRecord_watched _ _ s fun _ => ⟨rfl, rfl, rfl⟩)
  · exact h

theorem after_arrivalOrders (r : Sleeper) (withPlans : Bool) (h : P s) : P (arrivalOrders r withPlans s) :=
  hP.on_refreshOutput (List.foldlRecOn allUnits _ (hP.weaken h) fun _ ht u _ => hP.on_arrivalOrder u _ ht)

theorem after_arrival (h : P s) : P (arrival s) := by
  unfold arrival
  split
  · next r _ =>
    extract_lets taken arrived
    have htaken : P taken := hP.of_watched h (modRecord_watched _ _ s fun _ => ⟨rfl, rfl, rfl⟩)
    have harrived : P arrived :=
      hP.after_prepareAxes (hP.after_setPhase _ (hP.of_watched htaken (modCyc_watched taken _ rfl)))
    split
    · exact hP.after_arrivalOrders r true (hP.after_requestTarget _ harrived)
    · exact hP.after_hardHalt _ _ (hP.after_arrivalOrders r false harrived)
  · exact h

theorem after_onDriveReport (report : DriveReport) (h : P s) : P (onDriveReport s report) := by
  unfold onDriveReport
  split
  · cases report with
    | arrived => dsimp only; split; exacts [hP.after_arrival h, h]
    | outOfReach => dsimp only; split; exacts [hP.after_skipCurrent _ h, h]
    | channelLost => dsimp only; split; exacts [hP.after_hardHalt _ _ h, h]
    | holdLost => dsimp only; split; exacts [hP.after_hardHalt _ _ (hP.after_refreshDemand h), h]
    | strokeEnd => dsimp only; split; exacts [hP.after_hardHalt _ _ (hP.after_refreshDemand h), h]
  · exact h

theorem after_driveReports (reports : List DriveReport) (h : P s) : P (reports.foldl onDriveReport s) :=
  List.foldlRecOn reports _ h fun _ ht report _ => hP.after_onDriveReport report ht

theorem after_judgeReach (r : Sleeper) (h : P s) : P (judgeReach r s) := by
  have hseek : P (setPhase .seek s) := hP.after_setPhase _ h
  have hordered : P (indexOrder r.chainage (setPhase .seek s)).1 := hP.after_indexOrder _ hseek
  unfold judgeReach
  dsimp only
  split
  · exact hP.after_skipCurrent _ hseek
  · split
    · split
      exacts [hP.after_setPhase _ hordered, hP.after_driveReports _ hordered]
    · exact hseek

theorem after_selectRecord (r : Sleeper) (h : P s) : P (selectRecord r s) := by
  unfold selectRecord
  extract_lets active chosen
  have hchosen : P chosen := hP.of_watched h (modCyc_watched s _ rfl)
  split
  · exact hP.after_skipCurrent _ hchosen
  · split
    exacts [hP.after_setPhase _ hchosen, hP.after_judgeReach r hchosen, hchosen]

theorem after_seekOnce (h : P s) : P (seekOnce s) := by
  unfold seekOnce
  split
  · exact hP.after_enterMode _ h
  · split
    exacts [hP.after_selectRecord _ h, h]

theorem after_seek (h : P s) : P (seek s) := by
  unfold seek
  generalize s.slp.records.length + 1 = n
  induction n generalizing s with
  | zero => exact h
  | succ n ih =>
    unfold seekLoop
    split
    exacts [ih (hP.after_seekOnce h), h]

theorem after_reachAgain (h : P s) : P (reachAgain s) := by
  unfold reachAgain
  split
  · split
    · split
      exacts [hP.after_judgeReach _ h, h]
    · exact h
  · exact h

theorem after_afterDrive {p : State × List DriveReport} (h : P p.1) : P (afterDrive p) :=
  hP.after_seek (hP.after_actOnStop (hP.after_refreshDemand (hP.after_driveReports p.2 h)))

theorem after_drive (h : P s) : P (afterDrive (redetermine s)) :=
  hP.after_afterDrive (hP.after_redetermine h)

theorem after_finishWork (h : P s) : P (finishWork s) := by
  unfold finishWork
  split
  · next r _ =>
    extract_lets done freed ridden ended
    have hdone : P done := hP.of_watched h (modRecord_watched _ _ s fun _ => ⟨rfl, rfl, rfl⟩)
    have hridden : P ridden :=
      hP.on_rideDrive (hP.weaken (hP.of_watched hdone (modCyc_watched done _ rfl)))
    refine hP.after_seek (hP.after_judgeEngine ?_)
    dsimp only [ended]
    split
    · exact hP.after_enterMode _ hridden
    · split
      exacts [hP.after_orderlyHalt _ hridden, hP.after_setPhase _ hridden]
  · exact h

theorem after_judgeClearing (h : P s) : P (judgeClearing s) := by
  unfold judgeClearing
  split
  exacts [hP.after_finishWork h, h]

theorem after_judgeRelease (h : P s) : P (judgeRelease s) := by
  unfold judgeRelease
  split
  exacts [hP.after_judgeClearing (hP.after_setPhase _ (hP.after_releaseAxes h)), h]

/-! #### Machine/Sleepers.lean -/

theorem after_enterRecord (c : Int) (width : Option Int) (source : Source) (plan : Option Plan)
    (unplanned : Bool) (raised : Option Flag) (hspaced : tooClose c s = false) (hroom : queueFull s = false)
    (h : P s) : P (enterRecord c width source plan unplanned raised s) := by
  have happended := hP.on_appendRecord c width source plan unplanned hspaced hroom h
  unfold enterRecord afterEntry
  refine hP.after_seek (hP.after_judgeEngine (hP.after_judgeSegments (hP.after_actOnStop
    (hP.after_refreshDemand ?_))))
  cases raised with
  | some f => exact hP.after_raiseFlag f happended
  | none => exact happended

theorem after_judgePlanned (g : Segment) (b : Bearer) (h : P s) : P (judgePlanned g b s) := by
  have hused : P (consumeBearer b.chainage s) := hP.of_watched h rfl
  unfold judgePlanned
  dsimp only
  split
  · exact hused
  · next hspaced =>
    split
    · exact hP.after_raiseFlag _ hused
    · next hroom =>
      exact hP.after_enterRecord _ _ _ _ _ _ (Bool.not_eq_true _ ▸ hspaced) (Bool.not_eq_true _ ▸ hroom) hused

theorem after_judgeInTurn (found : List (Segment × Bearer)) (h : P s) : P (judgeInTurn found s) := by
  refine List.foldlRecOn found _ h fun t ht x _ => ?_
  split
  exacts [hP.after_judgePlanned _ _ ht, ht]

theorem after_judgePassing (h : P s) : P (judgePassing s) := by
  unfold judgePassing
  split
  · split
    exacts [hP.of_watched h rfl, hP.after_judgeInTurn _ h]
  · exact h

theorem after_judgeHeld (h : P s) : P (judgeHeld s) := hP.after_judgeInTurn _ (hP.of_watched h rfl)

theorem after_enterDetection (c w : Int) (hspaced : tooClose c s = false) (hroom : queueFull s = false) (h : P s) :
    P (enterDetection c w s) := by
  unfold enterDetection
  split
  · next b _ => exact hP.after_enterRecord _ _ _ _ _ _ hspaced hroom (hP.of_watched h rfl)
  · split <;> exact hP.after_enterRecord _ _ _ _ _ _ hspaced hroom h

theorem after_judgeDetection (a d : Int) (h : P s) : P (judgeDetection a d s) := by
  unfold judgeDetection
  dsimp only
  split
  · split
    · exact h
    · next hspaced =>
      split
      · exact hP.after_raiseFlag _ h
      · next hroom =>
        exact hP.after_enterDetection _ _ (Bool.not_eq_true _ ▸ hspaced) (Bool.not_eq_true _ ▸ hroom) h
  · exact hP.after_raiseFlag _ h

theorem after_closeDetection (a : Int) (h : P s) : P (closeDetection a s) :=
  hP.after_judgeHeld (hP.after_judgeDetection _ _ (hP.of_watched h rfl))

theorem after_abandonDetection (h : P s) : P (abandonDetection s) := by
  unfold abandonDetection
  split
  exacts [hP.after_judgeHeld (hP.of_watched h rfl), h]

theorem after_detectorEdge (h : P s) : P (detectorEdge s) := by
  unfold detectorEdge
  split
  · split
    exacts [hP.of_watched h rfl, hP.after_closeDetection _ h, h]
  · exact h

/-! #### Machine/Count.lean and Machine/Settings.lean -/

theorem after_setDirection (up : Bool) (h : P s) : P (setDirection up s) := by
  unfold setDirection
  split
  exacts [hP.on_position rfl h, hP.after_abandonDetection (hP.on_position rfl h)]

theorem after_odoMoved (up : Bool) (before : State) (h : P s) : P (odoMoved up before s) := by
  unfold odoMoved
  extract_lets turned moved driven
  have hturned : P turned := hP.after_setDirection up h
  have hmoved : P moved := by
    dsimp only [moved]
    split
    · exact hP.after_seek (hP.after_judgeEngine (hP.after_judgeSegments (hP.after_judgePassing hturned)))
    · exact hturned
  have hdriven : P driven := hP.after_drive hmoved
  split
  exacts [hP.after_seek (hP.after_actOnStop (hP.after_reachAgain hdriven)), hdriven]

theorem after_toggleLines (l : Line) (together : Bool) (h : P s) : P (toggleLines l together s) := by
  unfold toggleLines
  refine hP.on_count _ ?_
  split
  · split
    exacts [hP.on_count _ (hP.on_count _ h), hP.on_count _ h]
  · exact hP.on_count _ h

theorem after_changeArms (h : P s) : P (changeArms s) := by
  refine hP.after_judgeEngine (hP.after_judgeSegments (hP.of_watched h ?_))
  exact mapRecords_watched (abandonDesign (fun _ => true) s) _ fun r => by split <;> rfl

end single

section both
variable (hW : Upheld A W W) (hP : Upheld A W P)
include hW hP

/-! #### Events at a unit or an axis (Machine/Cycle.lean) -/

/-- What follows an event at a unit re-determines the drive's output, and so restores the property (R24). -/
theorem after_afterUnit (u : UnitId) (h : W s) : P (afterUnit u s) := by
  unfold afterUnit
  extract_lets stopped settled judged
  have hsettled : W settled := hW.on_settleReleases (hW.after_actOnStop h)
  have hjudged : P judged := hP.after_judgeRelease (hP.on_refreshOutput hsettled)
  split
  exacts [hP.after_judgeClearing hjudged, hjudged]

theorem after_followUnit (u : UnitId) {before : State} (hchanged : W s)
    (hsame : (s.heads.get u).state = (before.heads.get u).state → P s) : P (followUnit u before s) := by
  unfold followUnit
  split
  · exact after_afterUnit hW hP u hchanged
  · next hstate =>
    have h := hsame (not_not.mp hstate)
    split
    exacts [hP.after_judgeClearing h, h]

theorem after_afterAxis (h : W s) : P (afterAxis s) :=
  hP.on_refreshOutput (hW.after_actOnStop (hW.after_openGate h))

theorem after_axisChannelLost (c : ChannelId) (h : W s) : P (axisChannelLost c s) := by
  unfold axisChannelLost
  extract_lets contested
  have hchoice : W (if contested then s.freeOrder else (false, s)).2 := by
    split
    exacts [hW.of_watched h rfl, h]
  split
  next gateFirst t hpair =>
  rw [hpair] at hchoice
  refine after_afterAxis hW hP (hW.after_hardHalt _ _ ?_)
  split
  exacts [hW.after_openGate hchoice, hchoice]

/-! #### Machine/Count.lean -/

theorem after_nullLost (c : ChannelId) (h : P s) : P (nullLost c s) := by
  have haxis (a : AxisId) : P (loseAxisChannel a s) := by
    unfold loseAxisChannel
    split
    exacts [after_axisChannelLost hW hP _ (hP.weaken (hP.after_cutAxis a h)), h]
  have hridden : P (afterDrive (rideDrive s, [.channelLost])) :=
    hP.after_afterDrive (hP.on_rideDrive (hP.weaken h))
  cases c with
  | odo | xl => exact h
  | sat =>
    show P (loseSatellite s)
    unfold loseSatellite
    split
    exacts [hP.on_refreshOutput (hP.weaken h), hridden, hridden]
  | lat | lvlL | lvlR => exact haxis _
  | dep u => exact after_afterUnit hW hP u (hP.on_loseDepth u (hP.weaken h))

theorem after_clearNull (c : ChannelId) (h : P s) : P (clearNull c s) := by
  unfold clearNull
  split
  exacts [after_nullLost hW hP c (hP.on_count _ h), h]

theorem after_channelFault (c : ChannelId) (h : P s) : P (channelFault c s) :=
  hP.after_raiseFlag _ (after_clearNull hW hP c (hP.on_count _ h))

theorem after_axisMoved (a : AxisId) (h : P s) : P (axisMoved a s) := by
  have hjudged : P (judgeAxis a s) := hP.on_judgeAxis a h
  unfold axisMoved
  dsimp only
  split
  exacts [after_afterAxis hW hP (hP.weaken hjudged), hjudged]

theorem after_countMoved (c : ChannelId) (up : Bool) {before : State} (hheads : before.heads = s.heads) (h : P s) :
    P (countMoved c up before s) := by
  cases c with
  | odo => exact hP.after_odoMoved up before h
  | sat => exact hP.after_drive h
  | lat | lvlL | lvlR => exact after_axisMoved hW hP _ h
  | xl => exact h
  | dep u =>
    refine after_followUnit hW hP u (hP.on_changeDepth u (hP.weaken h)) fun hsame => ?_
    exact hP.on_changeDepth_same u (hsame.trans (by rw [hheads])) h

theorem after_countStep (c : ChannelId) (up : Bool) (h : P s) : P (countStep c up s) := by
  unfold countStep
  split
  exacts [after_countMoved hW hP c up rfl (hP.on_count _ h), after_channelFault hW hP c h]

theorem after_acceptChannel (c : ChannelId) (onA onB : Bool) (h : P s) : P (acceptChannel c onA onB s) := by
  unfold acceptChannel
  extract_lets ch a b inverted taken
  have htaken : P taken := hP.on_count _ h
  split
  exacts [after_channelFault hW hP c htaken, after_countStep hW hP c _ htaken, after_countStep hW hP c _ htaken, h]

theorem after_acceptLine (l : Line) (both : Bool) (h : P s) : P (acceptLine l both s) := by
  cases l with
  | channelA c => exact after_acceptChannel hW hP c true both h
  | channelB c => exact after_acceptChannel hW hP c both true h
  | detector => exact hP.after_detectorEdge (hP.on_count _ h)
  | pressure u =>
    have htaken : P (s.modCount fun q => { q with pressure := q.pressure.set u (q.pressure.get u).accept }) :=
      hP.on_count _ h
    unfold acceptLine
    dsimp only
    split
    · exact after_followUnit hW hP u (hP.on_seePressure u (hP.weaken htaken)) fun hsame =>
        hP.on_seePressure_same u hsame htaken
    · exact htaken

theorem after_changeLevel (l : Line) (together : Bool) (h : P s) : P (changeLevel l together s) := by
  have htoggled := hP.after_toggleLines l together h
  unfold changeLevel
  dsimp only
  split
  exacts [after_acceptLine hW hP l _ htoggled, htoggled]

theorem after_acceptSteady (h : P s) : P (acceptSteady s) := by
  unfold acceptSteady
  extract_lets channels detected
  have hchannels : P channels :=
    List.foldlRecOn allChannels _ h fun _ ht c _ => after_acceptChannel hW hP c _ _ ht
  have hdetected : P detected := by
    dsimp only [detected]
    split
    exacts [after_acceptLine hW hP _ _ hchannels, hchannels]
  refine List.foldlRecOn allUnits _ hdetected fun t ht u _ => ?_
  split
  exacts [after_acceptLine hW hP _ _ ht, ht]

/-! #### Machine/Settings.lean -/

theorem after_changePolarity (before : State) (h : P s) : P (changePolarity before s) := by
  refine List.foldlRecOn allChannels _ h fun t ht c _ => ?_
  split
  exacts [after_clearNull hW hP c ht, ht]

theorem after_parameterChanged (id : Nat) (before : State) (h : P s) : P (parameterChanged id before s) := by
  unfold parameterChanged
  split
  case h_1 | h_2 | h_3 | h_4 => exact hP.after_changeArms h
  case h_5 => exact hP.on_position rfl h
  case h_6 | h_12 => exact hP.after_judgeEngine (hP.after_judgeSegments h)
  case h_7 | h_8 => exact hP.after_actOnStop (hP.after_refreshDemand h)
  case h_9 | h_10 | h_11 => exact hP.after_drive h
  case h_13 => exact hP.on_port rfl rfl rfl h
  case h_14 => exact after_acceptSteady hW hP h
  case h_15 => exact after_changePolarity hW hP before h
  case h_16 => exact h

end both
end Sys2Proof.Machine.Upheld
end


section
/-! ### The requests, the port and the commands keep an upheld property -/

namespace Sys2Proof.Machine

/-- The end of a frame leaves an accepted RESTART waiting. -/
theorem frameSent_restart (source : TxSource) (s : State) :
    (frameSent source s).link.restart = s.link.restart := by
  cases source with
  | queueFull | reply | notice => rfl
  | workRecord =>
    rw [frameSent, departRecord_eq]
    exact (restart_of_fixed (Kept.fixed_eq (refreshDemand_kept _))).trans rfl

end Sys2Proof.Machine

namespace Sys2Proof.Machine.Upheld

variable {A : Request → Prop} {W P : State → Prop} {s : State}

section single
variable (hP : Upheld A W P)
include hP

/-! #### Machine/Owners.lean -/

theorem after_takeSetChainage (x : Int) (h : P s) : P (takeSetChainage x s).state := by
  unfold takeSetChainage
  split
  · exact h
  · split
    · exact h
    · split
      · exact h
      · next hempty =>
        have hrecords : s.slp.records = [] := by simp_all
        exact hP.after_judgeSegments (hP.on_clearHighWater (s := s.modPos _) hrecords (hP.on_position rfl h))

theorem after_takeAppend (b : SegmentBody) (h : P s) : P (takeAppend b s).state := by
  unfold takeAppend
  split
  · exact h
  · have hadded : P (appendSegment b s) := hP.of_watched h rfl
    exact hP.after_seek (hP.after_judgeEngine (hP.after_judgePassing (hP.after_actOnStop
      (hP.after_judgeStarved (hP.after_judgeLookAhead true hadded)))))

theorem after_truncate (x : Int) (h : P s) : P (truncate x s) := by
  unfold truncate
  extract_lets free told
  have hfree : P free := by
    refine hP.of_watched h (s := s) ?_
    exact mapRecords_watched (s.modSeg fun q => { q with segments := keptBefore x q.segments }) _
      fun r => by split <;> rfl
  have htold : P told := by
    dsimp only [told]
    split
    exacts [hP.after_seek (hP.after_returnToSeek (hP.on_rideDrive (hP.weaken hfree))), hfree]
  exact hP.after_seek (hP.after_judgeEngine (hP.after_judgeSegments htold))

theorem after_takeTruncate (x : Int) (h : P s) : P (takeTruncate x s).state := by
  unfold takeTruncate
  dsimp only
  split
  · exact h
  · split
    exacts [h, hP.after_truncate x h]

theorem after_takeHeadSet (set : Byte) (h : P s) : P (takeHeadSet set s).state := by
  unfold takeHeadSet
  split
  exacts [hP.on_headSet _ h, h]

theorem after_takeStart (h : P s) : P (takeStart s).state := by
  unfold takeStart
  split
  · exact h
  · split
    · exact h
    · split
      exacts [h, hP.after_seek (hP.after_actOnStop (hP.after_judgeStarved (hP.after_enterMode _ h)))]

theorem after_takePause (h : P s) : P (takePause s).state := by
  unfold takePause
  split
  · split
    exacts [hP.after_enterMode _ h, hP.of_watched h (modCyc_watched s _ rfl)]
  · exact h

theorem after_takeClearHalt (h : P s) : P (takeClearHalt s).state := by
  unfold takeClearHalt
  split
  · split
    exacts [hP.after_enterMode _ h, h]
  · exact h

theorem after_takeJobClear (h : P s) : P (takeJobClear s).state := by
  unfold takeJobClear
  split
  · exact hP.after_refreshDemand (hP.after_judgeSegments (hP.of_watched (hP.on_clearRecords h) rfl))
  · exact h

theorem after_takeSetEnables (notice stop : BitVec 24) (h : P s) : P (takeSetEnables notice stop s).state := by
  unfold takeSetEnables
  split
  · exact hP.on_enables (f := fun c => { c with notice := notice.truncate 20, stop := stop.truncate 20 }) rfl h
  · exact h

theorem after_takeSave (h : P s) : P (takeSave s).state := by
  unfold takeSave
  split
  exacts [hP.on_store _ s.freeNext h, h]

theorem after_takeRestart (h : P s) : P (takeRestart s).state := by
  unfold takeRestart
  split
  · exact hP.on_port (f := fun l => { l with restart := true, assembler := .hunt }) rfl rfl rfl h
  · exact h

/-! #### Machine/Link.lean -/

theorem after_sendFrame (source : TxSource) (bytes : List Byte) (h : P s) : P (sendFrame source bytes s) :=
  hP.on_port rfl rfl rfl h

theorem after_sendOwn (h : P s) : P (sendOwn s) := by
  have hnotice (k : NoticeKind) : P (sendNotice k s) := by
    unfold sendNotice
    split <;> split
    all_goals first | exact h | exact hP.after_sendFrame _ _ (hP.on_port rfl rfl rfl h)
  unfold sendOwn
  split
  · exact hP.after_sendFrame _ _ h
  · split
    exacts [hnotice _, h]

theorem after_arbitrate (h : P s) : P (arbitrate s) := by
  unfold arbitrate
  split
  · split
    · exact hP.after_sendFrame _ _ h
    · exact hP.after_sendFrame _ _ h
    · split
      exacts [h, hP.after_sendOwn h]
  · exact h

theorem after_discardFrame (h : P s) : P (discardFrame s) :=
  hP.after_raiseFlag _ (hP.on_port rfl rfl rfl h)

theorem after_assemble (a : Assembler) (h : P s) : P (assemble a s) := hP.on_port rfl rfl rfl h

theorem after_huntByte (b : Byte) (stopLow : Bool) (h : P s) : P (huntByte b stopLow s) := by
  unfold huntByte
  split
  exacts [hP.after_assemble _ h, h]

theorem after_departRecord (h : P s) : P (departRecord s) := by
  rw [departRecord_eq]
  exact hP.after_refreshDemand (hP.on_depart h)

theorem after_frameSent (source : TxSource) (h : P s) : P (frameSent source s) := by
  have hidle : P (s.modLink fun l => { l with tx := none }) := hP.on_port rfl rfl rfl h
  cases source with
  | queueFull => exact hP.on_fullSent hidle
  | reply => exact hP.on_replySent hidle
  | workRecord => exact hP.after_departRecord hidle
  | notice => exact hidle

/-! #### The effects of the commands -/

theorem after_driftLines (l : Line) (together : Bool) (h : P s) : P (driftLines l together s) := by
  unfold driftLines
  split
  · split
    exacts [hP.on_count _ (hP.on_count _ h), hP.on_count _ h]
  · exact hP.on_count _ h

theorem after_cabSilence (h : P s) : P (cabSilence s) := hP.after_hardHalt _ _ (hP.on_port rfl rfl rfl h)

theorem after_completeDesign (p : DesignPass) (h : P s) : P (completeDesign p s) := by
  have hwritten : P (writeDesign p (dropPass s)) :=
    hP.of_watched h (modRecord_watched p.seq _ (dropPass s) fun _ => ⟨rfl, rfl, rfl⟩)
  have hleft : P (leaveWaitDesign p.seq (judgeSegments (writeDesign p (dropPass s)))) := by
    have hjudged := hP.after_judgeSegments hwritten
    unfold leaveWaitDesign
    split
    · split
      exacts [hP.after_judgeReach _ hjudged, hjudged]
    · exact hjudged
  exact hP.after_seek (hP.after_judgeEngine hleft)

theorem after_writeTarget (p : TargetPass) (h : P s) : P (writeTarget p s) :=
  List.foldlRecOn _ _ (hP.of_watched h (modRecord_watched p.seq _ s fun _ => ⟨rfl, rfl, rfl⟩))
    fun _ ht f _ => hP.after_recordFlag f ht

end single

section both
variable (hW : Upheld A W W) (hP : Upheld A W P)
include hW hP

theorem after_takeNull (entries : List (Nat × Int)) (h : P s) : P (takeNull entries s).state := by
  have hentry (t : State) (ht : W t) (e : Nat × Int) : W (nullEntry t e) := by
    unfold nullEntry
    split
    exacts [hW.on_restoreHead _ (hW.on_count _ ht), hW.on_count _ ht, ht]
  unfold takeNull
  split
  · exact h
  · split
    · exact hP.on_refreshOutput (List.foldlRecOn entries _ (hP.weaken h) fun t ht e _ => hentry t ht e)
    · exact h

theorem after_takeConfigure (id : Byte) (value : BitVec 32) (h : P s) : P (takeConfigure id value s).state := by
  unfold takeConfigure
  split
  · exact h
  · next hchecked =>
    split
    exacts [h, after_parameterChanged hW hP _ _ (hP.on_put hchecked h)]

theorem after_takeRequest (r : Request) (hr : A r) (h : P s) : P (takeRequest r s).state := by
  cases r with
  | unknownKind | badLength | status | snapshot => exact h
  | nullChannels entries => exact after_takeNull hW hP entries h
  | setChainage x => exact hP.after_takeSetChainage x h
  | segmentAppend body => exact hP.after_takeAppend body h
  | segmentTruncate x => exact hP.after_takeTruncate x h
  | headSet set => exact hP.after_takeHeadSet set h
  | start => exact hP.after_takeStart h
  | pause => exact hP.after_takePause h
  | stop => exact hP.after_hardHalt _ _ h
  | clearHalt => exact hP.after_takeClearHalt h
  | jobClear => exact hP.after_takeJobClear h
  | setEnables notice stop => exact hP.after_takeSetEnables notice stop h
  | clearFlags set => exact hP.on_clearFlags set hr h
  | configure id value => exact after_takeConfigure hW hP id value h
  | readParam id =>
    rw [takeRequest, takeReadParam]
    split <;> exact h
  | saveSettings => exact hP.after_takeSave h
  | restart => exact hP.after_takeRestart h

theorem after_takeOne {q : QueuedRequest} (hq : A q.request) (h : P s) : P (takeOne q s) := by
  have htaken := after_takeRequest hW hP q.request hq h
  unfold takeOne
  split
  · exact hP.on_markNext .replied rfl rfl rfl h
  · dsimp only
    split
    · exact hP.on_markNext .replied rfl rfl rfl htaken
    · exact hP.on_markNext .taking rfl rfl rfl htaken

theorem after_takeRequests (h : P s) : P (takeRequests s) := by
  unfold takeRequests
  generalize s.link.requests.length + 1 = n
  induction n generalizing s with
  | zero => exact h
  | succ n ih =>
    unfold takeLoop
    split
    · next hnext =>
      have hwaits : decide (_ ≠ Progress.replied) = true := List.find?_some (p := fun r : QueuedRequest => decide (r.progress ≠ .replied)) hnext
      split
      · exact ih (after_takeOne hW hP
          (hP.admitted h (List.mem_of_find?_eq_some hnext) (of_decide_eq_true hwaits)) h)
      · exact h
    · exact h

theorem after_arriveFrame (kind tag : Byte) (r : Request) (hr : A r) (hhold : s.link.hold = false) (h : P s) :
    P (arriveFrame kind tag r s) := by
  have hheard : P (restartSupervision s) := hP.on_port rfl rfl rfl h
  unfold arriveFrame
  dsimp only
  split
  · next hroom => exact after_takeRequests hW hP (hP.on_push kind tag r hr hroom hheard)
  · exact hP.on_overflow kind tag hhold hheard

theorem after_receiveRequest (r : Request) (tag : Byte) (hr : A r) (h : P s) : P (receiveRequest r tag s) := by
  have hstamped : P (s.modLink fun l => { l with lastByte := s.clock }) := hP.on_port rfl rfl rfl h
  unfold receiveRequest
  split
  · exact h
  · split
    · exact hP.after_raiseFlag _ h
    · next hhold =>
      have hhold : s.link.hold = false := Bool.not_eq_true _ ▸ hhold
      dsimp only
      split
      · exact after_arriveFrame hW hP _ _ _ hr hhold hstamped
      · refine after_arriveFrame hW hP _ _ _ hr ?_ (hP.after_discardFrame hstamped)
        exact (hold_of_fixed (Kept.fixed_eq (raiseFlag_kept _ _))).trans hhold

/-- A byte can complete a frame only where the assembler stands at the last CHECK byte. -/
theorem after_receiveByte (b : Byte) (stopLow : Bool)
    (hr : (∀ r, A r) ∨ ∀ kind tag body high, s.link.assembler ≠ .checkLow kind tag body high) (h : P s) :
    P (receiveByte b stopLow s) := by
  have hstamped : P (s.modLink fun l => { l with lastByte := s.clock }) := hP.on_port rfl rfl rfl h
  unfold receiveByte assemblerByte
  split
  · exact h
  · split
    · exact hP.after_raiseFlag _ h
    · next hhold =>
      dsimp only
      split
      · exact hP.after_huntByte _ _ hstamped
      · split
        · exact hP.after_huntByte _ _ (hP.after_discardFrame hstamped)
        · split
          · exact hP.after_discardFrame hstamped
          · unfold assembleByte
            split
            · exact hP.after_huntByte _ _ hstamped
            · split
              exacts [hP.after_assemble _ hstamped, hP.after_discardFrame hstamped]
            · exact hP.after_assemble _ hstamped
            · exact hP.after_assemble _ hstamped
            · split <;> exact hP.after_assemble _ hstamped
            · exact hP.after_assemble _ hstamped
            · next hlow =>
              have hall : ∀ r, A r := hr.resolve_right fun hne => hne _ _ _ _ hlow
              unfold judgeCheck
              split
              · exact after_arriveFrame hW hP _ _ _ (hall _) (Bool.not_eq_true _ ▸ hhold)
                  (hP.after_assemble _ hstamped)
              · exact hP.after_discardFrame hstamped

theorem after_answerSave (status : Status) (h : P s) : P (answerSave status s) := by
  unfold answerSave
  refine after_takeRequests hW hP ?_
  split
  exacts [hP.on_markNext .replied rfl rfl rfl h, h]

theorem after_completeTarget (p : TargetPass) (h : P s) : P (completeTarget p s) := by
  unfold completeTarget
  extract_lets written started
  have hstarted : P started :=
    hP.after_startAxes _ (hP.after_setPhase _ (hP.after_writeTarget p (hP.of_watched h rfl)))
  have hreported : P (reportStartCuts started) :=
    List.foldlRecOn _ _ hstarted fun _ ht a _ => after_axisChannelLost hW hP (axisChannel a) (hP.weaken ht)
  exact hP.after_seek (hP.after_judgeEngine (hP.after_judgeRelease (after_afterAxis hW hP (hP.weaken hreported))))

/-! #### The commands -/

/-- An expiry at a unit, its effect given the state and stage that it belongs to. -/
theorem on_expiry (u : UnitId) (state : HeadState) (stage : Option RaiseStage) {effect : State → State}
    (heffect : ∀ t : State, (t.heads.get u).state = state → (t.heads.get u).stage = stage → W t → W (effect t))
    {t : State} (ht : onExpiry u (phaseTimer u state stage s) effect s = .next t) (h : P s) : P t := by
  unfold onExpiry at ht
  split at ht
  · next tm htimer =>
    obtain rfl := Host.Outcome.next.inj ht
    unfold phaseTimer at htimer
    split at htimer
    · next hrunning =>
      obtain ⟨-, hstate, hstage⟩ := hrunning
      have hbegun : W (s.beginBy tm.ends) := hP.weaken (hP.on_clock _ _ h)
      exact hP.after_arbitrate (after_afterUnit hW hP u (heffect _ hstate hstage hbegun))
    · cases htimer
  · exact Host.Outcome.next.inj ht ▸ h

/-- Every command keeps an upheld property, given that the reset meets it where the command can reset, and that
what the command can have arrive is admitted. -/
theorem on_exec {c : Instr} {t : State}
    (hreset : c = .powerOn ∨ s.link.restart = true → ∀ cause x, P x → P (resetWith cause x))
    (hbytes : (∀ r, A r) ∨ ∀ kind tag body high, s.link.assembler ≠ .checkLow kind tag body high)
    (hrow : ∀ dt tag r, requestOf c = some (dt, tag, r) → A r)
    (ht : exec c s = .next t) (h : P s) : P t := by
  have hat (dt : Nat) : P (s.beginAt dt) := hP.on_clock _ _ h
  have hby (n : Nat) : P (s.beginBy n) := hP.on_clock _ _ h
  have hbyte (dt : Nat) (b : Byte) (stopLow : Bool) : P (takeByte dt b stopLow s) := by
    unfold takeByte
    dsimp only
    split
    exacts [hP.after_arbitrate (after_receiveByte hW hP b stopLow hbytes (hat dt)), hat dt]
  have hrequest (dt : Nat) (tag : Byte) (r : Request) (hr : A r) : P (request dt tag r s) := by
    unfold request
    dsimp only
    split
    exacts [hP.after_arbitrate (after_receiveRequest hW hP r tag hr (hat dt)), hat dt]
  cases c with
  | powerOn =>
    obtain rfl := Host.Outcome.next.inj ht
    refine hP.after_arbitrate (hreset (.inl rfl) _ _ ?_)
    split
    exacts [hP.on_losePower (hat 0), hat 0]
  | lineLevelChange dt l together =>
    obtain rfl := Host.Outcome.next.inj ht
    split
    exacts [hP.after_arbitrate (after_changeLevel hW hP l together (hat dt)), hP.after_driftLines l together (hat dt)]
  | filterWindowExpiry l =>
    replace ht : execFilterWindowExpiry l s = .next t := ht
    unfold execFilterWindowExpiry at ht
    split at ht <;> obtain rfl := Host.Outcome.next.inj ht
    exacts [hP.after_arbitrate (after_acceptLine hW hP l _ (hby _)), h]
  | designPassComplete dt =>
    replace ht : execDesignPassComplete dt s = .next t := ht
    unfold execDesignPassComplete at ht
    split at ht <;> obtain rfl := Host.Outcome.next.inj ht
    exacts [hP.after_arbitrate (hP.after_completeDesign _ (hat dt)), h]
  | targetPassComplete dt =>
    replace ht : execTargetPassComplete dt s = .next t := ht
    unfold execTargetPassComplete at ht
    split at ht <;> obtain rfl := Host.Outcome.next.inj ht
    exacts [hP.after_arbitrate (after_completeTarget hW hP _ (hat dt)), h]
  | axisSettleExpiry a =>
    replace ht : execAxisSettleExpiry a s = .next t := ht
    unfold execAxisSettleExpiry at ht
    split at ht <;> obtain rfl := Host.Outcome.next.inj ht
    exacts [hP.after_arbitrate (after_afterAxis hW hP (hP.weaken (hP.on_enterHold a _ (hby _)))), h]
  | axisMotionTimeout a =>
    replace ht : execAxisMotionTimeout a s = .next t := ht
    unfold execAxisMotionTimeout at ht
    split at ht <;> obtain rfl := Host.Outcome.next.inj ht
    exacts [hP.after_arbitrate (after_afterAxis hW hP (hP.weaken (hP.after_timeOutAxis a (hby _)))), h]
  | tiltExpiry u => exact on_expiry hW hP u _ _ (fun x hs _ => hW.on_endTilt u hs) ht h
  | lowerTimeout u => exact on_expiry hW hP u _ _ (fun x hs _ => hW.on_blockHead u hs) ht h
  | squeezeTimerExpiry u => exact on_expiry hW hP u _ _ (fun x hs _ => hW.on_endPhase u hs) ht h
  | openExpiry u => exact on_expiry hW hP u _ _ (fun x hs _ => hW.on_endOpening u hs) ht h
  | raiseTimeout u =>
    refine on_expiry hW hP u _ _ (fun x hstate hstage hx => ?_) ht h
    unfold endRaise
    split
    exacts [hW.on_enterUp u hx, hW.after_hardHalt _ _ (hW.on_enterStuck u hstate hstage hx)]
  | blindRaiseExpiry u => exact on_expiry hW hP u _ _ (fun x hs hg => hW.on_enterFaulted u (.inl ⟨hs, hg⟩)) ht h
  | parkingExpiry u =>
    refine on_expiry hW hP u _ _ (fun x hstate _ hx => ?_) ht h
    unfold endParking
    split
    exacts [hW.on_setFlag _ (hW.on_enterFaulted u (.inr hstate) hx), hW.on_enterUp u hx]
  | receiveHoldDrop dt b stopLow | frameDiscard dt b stopLow | frameArrival dt b stopLow
  | byteReceived dt b stopLow => exact Host.Outcome.next.inj ht ▸ hbyte dt b stopLow
  | transmitEnd =>
    replace ht : execTransmitEnd s = .next t := ht
    unfold execTransmitEnd at ht
    split at ht <;> obtain rfl := Host.Outcome.next.inj ht
    · next tm _ _ =>
      have hsent : P (frameSent tm.source (s.beginBy tm.ends)) := hP.after_frameSent _ (hby _)
      refine hP.after_arbitrate ?_
      unfold restartIfDue
      split
      · next hdue =>
        have hrestart := frameSent_restart tm.source (s.beginBy tm.ends)
        have hset : s.link.restart = true := by
          rw [restartDue, hrestart] at hdue
          simp only [Bool.and_eq_true] at hdue
          exact hdue.1.1
        exact hreset (.inr hset) _ _ hsent
      · exact hsent
    · exact h
  | supervisionTimeout =>
    replace ht : execSupervisionTimeout s = .next t := ht
    unfold execSupervisionTimeout at ht
    split at ht <;> obtain rfl := Host.Outcome.next.inj ht
    exacts [hP.after_arbitrate (hP.after_cabSilence (hby _)), h]
  | saveComplete dt matched =>
    replace ht : execSaveComplete dt matched s = .next t := ht
    unfold execSaveComplete at ht
    split at ht <;> obtain rfl := Host.Outcome.next.inj ht
    · refine hP.after_arbitrate (after_answerSave hW hP _ ?_)
      unfold endSave
      split
      exacts [hP.on_store _ s.freeNext (hat dt), hP.on_store _ _ (hat dt)]
    · exact h
  | powerFailure dt =>
    obtain rfl := Host.Outcome.next.inj ht
    split
    exacts [hP.on_losePower (hat dt), hat dt]
  | status dt tag | snapshot dt tag | nullChannels dt tag | setChainage dt tag | segmentAppend dt tag
  | segmentTruncate dt tag | headSet dt tag | start dt tag | pause dt tag | stop dt tag | clearHalt dt tag
  | jobClear dt tag | setEnables dt tag | clearFlags dt tag | configure dt tag | readParam dt tag
  | saveSettings dt tag | restart dt tag =>
    exact Host.Outcome.next.inj ht ▸ hrequest dt tag _ (hrow dt tag _ rfl)

/-- Every step keeps an upheld property that admits every request, that the queue of commands does not matter to,
and that every reset meets. -/
theorem on_step (hall : ∀ r, A r) (hqueue : ∀ (x : State) (rest : List Instr), P x → P { x with pending := rest })
    (hreset : ∀ cause x, P x → P (resetWith cause x)) {t : State} (ht : step s = .next t) (h : P s) : P t := by
  unfold step at ht
  split at ht
  · exact Host.Outcome.next.inj ht ▸ h
  · exact on_exec hW hP (fun _ => hreset) (.inl hall) (fun _ _ _ _ => hall _) ht (hqueue _ _ h)

end both
end Sys2Proof.Machine.Upheld
end


section
/-! ### Properties of what the blocks leave alone

The properties of this part are kept by every operation of the blocks, since they speak only of what those leave
alone: the waiting commands, the live parameters, the port's lists and the roster of the sleeper queue. -/

namespace Sys2Proof.Machine

/-- What a property of the kept part of a state must be kept by, so that every step keeps it. -/
structure KeptUpheld (P : State → Prop) : Prop where
  of_kept {s t : State} : P s → t.kept = s.kept → P t
  on_clock {s : State} (clock eventNo : Nat) : P s → P { s with clock := clock, eventNo := eventNo }
  on_count {s : State} (f : CountUnit → CountUnit) : P s → P (s.modCount f)
  on_position {s : State} (f : Position → Position) : P s → P (s.modPos f)
  on_conditions {s : State} (f : Conditions → Conditions) : P s → P (s.modCond f)
  on_headSet {s : State} (set : UnitSet) : P s → P { s with headSet := set }
  on_appendRecord {s : State} (c : Int) (width : Option Int) (source : Source) (plan : Option Plan)
    (unplanned : Bool) :
    tooClose c s = false → queueFull s = false → P s → P (appendRecord c width source plan unplanned s)
  on_depart {s : State} : P s → P (s.modSlp SleeperQueue.departed)
  on_clearRecords {s : State} : P s → P (clearRecords s)
  on_clearHighWater {s : State} : s.slp.records = [] → P s → P (s.modSlp fun q => { q with highWater := none })
  on_put {s : State} {id v : Nat} :
    configureRefusal id v s = none → P s → P (s.modParams fun p => p.put id v)
  on_store {s : State} (store : Store) (freeNext : Nat) : P s → P { s with store := store, freeNext := freeNext }
  on_port {s : State} {f : Link → Link} : (f s.link).hold = s.link.hold →
    (f s.link).requests = s.link.requests → (f s.link).full = s.link.full → P s → P (s.modLink f)
  on_markNext {s : State} {f : Link → Link} (p : Progress) : (f s.link).hold = s.link.hold →
    (f s.link).requests = markNext p s.link.requests → (f s.link).full = s.link.full → P s → P (s.modLink f)
  on_push {s : State} (kind tag : Byte) (r : Request) : s.link.requests.length < 4 → P s →
    P (s.modLink fun l => { l with requests := l.requests ++ [⟨kind, tag, r, .waiting⟩] })
  on_overflow {s : State} (kind tag : Byte) : s.link.hold = false → P s →
    P (s.modLink fun l =>
      { l with full := l.full ++ [(kind, tag)], hold := l.hold || decide (maxFull ≤ l.full.length + 1) })
  on_fullSent {s : State} : P s → P (fullSent s)
  on_replySent {s : State} : P s → P (replySent s)
  on_losePower {s : State} : P s → P (losePower s)

namespace KeptUpheld

/-- A property of the kept part is upheld, whatever requests come. -/
theorem upheld {P : State → Prop} (h : KeptUpheld P) : Upheld (fun _ => True) P P where
  weaken := id
  of_watched hs ht := h.of_kept hs (kept_of_watched ht)
  on_clock := h.on_clock
  on_count := h.on_count
  on_position _ hs := h.on_position _ hs
  on_setFlag _ hs := h.of_kept hs (setFlag_kept _ _)
  on_refreshOutput hs := h.of_kept hs (refreshOutput_kept _)
  on_rideDrive hs := h.of_kept hs (rideDrive_kept _)
  on_haltOrders hs := h.of_kept hs (haltOrders_kept _)
  on_prepareAxis _ hs := h.of_kept hs (prepareAxis_kept _ _)
  on_startAxis _ _ hs := h.of_kept hs (startAxis_kept _ _ _)
  on_judgeAxis _ hs := h.of_kept hs (judgeAxis_kept _ _)
  on_enterHold _ _ hs := h.of_kept hs (enterHold_kept _ _ _)
  on_releaseAxis _ hs := h.of_kept hs (releaseAxis_kept _ _)
  on_settleReleases hs := h.of_kept hs (settleReleases_kept _)
  on_judgeGate _ hs := h.of_kept hs (judgeGate_kept _ _)
  on_arrivalOrder _ _ hs := h.of_kept hs (arrivalOrder_kept _ _ _)
  on_loseDepth _ hs := h.of_kept hs (loseDepth_kept _ _)
  on_restoreHead _ hs := h.of_kept hs (restoreHead_kept _ _)
  on_changeDepth _ hs := h.of_kept hs (changeDepth_kept _ _)
  on_changeDepth_same _ _ hs := h.of_kept hs (changeDepth_kept _ _)
  on_seePressure _ hs := h.of_kept hs (seePressure_kept _ _)
  on_seePressure_same _ _ hs := h.of_kept hs (seePressure_kept _ _)
  on_endTilt _ _ hs := h.of_kept hs (endTilt_kept _ _)
  on_blockHead _ _ hs := h.of_kept hs (blockHead_kept _ _)
  on_endPhase _ _ hs := h.of_kept hs (endPhase_kept _ _)
  on_endOpening _ _ hs := h.of_kept hs (endOpening_kept _ _)
  on_enterUp _ hs := h.of_kept hs (enterUp_kept _ _)
  on_enterStuck _ _ _ hs := h.of_kept hs (enterStuck_kept _ _)
  on_enterFaulted _ _ hs := h.of_kept hs (enterFaulted_kept _ _)
  on_appendRecord := h.on_appendRecord
  on_depart := h.on_depart
  on_clearRecords := h.on_clearRecords
  on_clearHighWater := h.on_clearHighWater
  on_put := h.on_put
  on_headSet := h.on_headSet
  on_enables _ hs := h.on_conditions _ hs
  on_clearFlags set _ hs := by
    unfold takeClearFlags
    split
    exacts [h.on_conditions (fun c => { c with flags := c.flags &&& ~~~ set.truncate 20 }) hs, hs]
  on_store := h.on_store
  on_port := h.on_port
  on_markNext := h.on_markNext
  on_push kind tag r _ := h.on_push kind tag r
  on_overflow := h.on_overflow
  on_fullSent := h.on_fullSent
  on_replySent := h.on_replySent
  on_losePower := h.on_losePower
  admitted _ _ _ := trivial

/-- Every step keeps a property of the kept part that the reset meets. -/
theorem on_step {P : State → Prop} (h : KeptUpheld P)
    (hqueue : ∀ (x : State) (rest : List Instr), P x → P { x with pending := rest })
    (hreset : ∀ cause x, P x → P (resetWith cause x)) {s t : State} (ht : step s = .next t) (hs : P s) : P t :=
  h.upheld.on_step h.upheld (fun _ => trivial) hqueue hreset ht hs

end KeptUpheld

end Sys2Proof.Machine
end

section
/-! #### The queue of waiting commands -/

namespace Sys2Proof.Machine

theorem losePower_pending (s : State) : (losePower s).pending = s.pending := by unfold losePower; split <;> rfl

/-- The waiting commands are what they were. -/
theorem keptUpheld_pending (q : List Instr) : KeptUpheld fun s => s.pending = q where
  of_kept h ht := (pending_of_fixed (Kept.fixed_eq ht)).trans h
  on_clock _ _ h := h
  on_count _ h := h
  on_position _ h := h
  on_conditions _ h := h
  on_headSet _ h := h
  on_appendRecord _ _ _ _ _ _ _ h := h
  on_depart h := h
  on_clearRecords h := h
  on_clearHighWater _ h := h
  on_put _ h := h
  on_store _ _ h := h
  on_port _ _ _ h := h
  on_markNext _ _ _ _ h := h
  on_push _ _ _ _ h := h
  on_overflow _ _ _ h := h
  on_fullSent h := h
  on_replySent h := h
  on_losePower h := (losePower_pending _).trans h

/-- No command is refused or faults. -/
theorem exec_completes (c : Instr) (s : State) : ∃ t, exec c s = .next t := by
  have hexpiry (u : UnitId) (tm : Option Timer) (effect : State → State) :
      ∃ t, onExpiry u tm effect s = .next t := by unfold onExpiry; split <;> exact ⟨_, rfl⟩
  cases c with
  | filterWindowExpiry l => change ∃ t, execFilterWindowExpiry l s = _; unfold execFilterWindowExpiry; split <;> exact ⟨_, rfl⟩
  | designPassComplete dt => change ∃ t, execDesignPassComplete dt s = _; unfold execDesignPassComplete; split <;> exact ⟨_, rfl⟩
  | targetPassComplete dt => change ∃ t, execTargetPassComplete dt s = _; unfold execTargetPassComplete; split <;> exact ⟨_, rfl⟩
  | axisSettleExpiry a => change ∃ t, execAxisSettleExpiry a s = _; unfold execAxisSettleExpiry; split <;> exact ⟨_, rfl⟩
  | axisMotionTimeout a => change ∃ t, execAxisMotionTimeout a s = _; unfold execAxisMotionTimeout; split <;> exact ⟨_, rfl⟩
  | transmitEnd => change ∃ t, execTransmitEnd s = _; unfold execTransmitEnd; split <;> exact ⟨_, rfl⟩
  | supervisionTimeout => change ∃ t, execSupervisionTimeout s = _; unfold execSupervisionTimeout; split <;> exact ⟨_, rfl⟩
  | saveComplete dt m => change ∃ t, execSaveComplete dt m s = _; unfold execSaveComplete; split <;> exact ⟨_, rfl⟩
  | tiltExpiry u | lowerTimeout u | squeezeTimerExpiry u | openExpiry u | raiseTimeout u | blindRaiseExpiry u
  | parkingExpiry u => exact hexpiry u _ _
  | _ => exact ⟨_, rfl⟩

/-- Settles O2: the waiting commands are part of what every operation leaves alone. -/
theorem everyCommandCompletes : Obligations.EveryCommandCompletes := by
  intro c s
  obtain ⟨t, ht⟩ := exec_completes c s
  have hup := (keptUpheld_pending s.pending).upheld
  exact ⟨t, ht, hup.on_exec hup (fun _ _ _ h => h) (.inl fun _ => trivial) (fun _ _ _ _ => trivial) ht rfl⟩

end Sys2Proof.Machine
end


section
/-! #### The live parameters -/

namespace Sys2Proof.Machine

theorem of_within {lo hi v : Nat} (h : within lo hi v = true) : lo ≤ v ∧ v ≤ hi := of_decide_eq_true h

theorem of_within_int {lo hi v : Nat} (h : within lo hi v = true) : (lo : Int) ≤ v ∧ (v : Int) ≤ hi :=
  ⟨Int.ofNat_le.mpr (of_within h).1, Int.ofNat_le.mpr (of_within h).2⟩

/-- A value within its own range leaves every parameter within its range. -/
theorem Params.Ranged.put {p : Params} (h : p.Ranged) {id v : Nat} (hv : inRange id v = true) :
    (p.put id v).Ranged := by
  unfold Params.put
  split
  · exact { h with p01 := of_within_int hv }
  · exact { h with p02 := of_within_int hv }
  · exact { h with p03 := of_within_int hv }
  · exact { h with p04 := of_within_int hv }
  · exact { h with p05 := of_within_int hv }
  · exact { h with p06 := of_within_int hv }
  · exact { h with p07 := of_within_int hv }
  · exact { h with p08 := of_within_int hv }
  · exact { h with p09 := of_within_int hv }
  · exact { h with p10 := of_within_int hv }
  · exact { h with p11 := of_within_int hv }
  · exact { h with p12 := of_within_int hv }
  · exact { h with p13 := of_within_int hv }
  · exact { h with p14 := of_within_int hv }
  · exact { h with p15 := of_within_int hv }
  · exact { h with p16 := of_within_int hv }
  · exact { h with p17 := of_within_int hv }
  · exact { h with p18 := of_within_int hv }
  · exact { h with p19 := of_within_int hv }
  · exact { h with p20 := of_within_int hv }
  · exact { h with p21 := of_within hv }
  · exact { h with p22 := of_within hv }
  · exact { h with p23 := (of_within hv).2 }
  · exact { h with p24 := of_within_int hv }
  · exact { h with p25 := of_within_int hv }
  · exact { h with p26 := of_within_int hv }
  · exact { h with p27 := of_within hv }
  · exact { h with p28 := of_within hv }
  · exact { h with p29 := of_within hv }
  · exact { h with p30 := of_within hv }
  · exact { h with }
  · exact { h with p32 := of_within hv }
  · exact { h with p33 := of_within_int hv }
  · obtain ⟨hmin, hmax⟩ := Bool.and_eq_true_iff.mp hv
    exact { h with p34min := of_within_int hmin, p34max := of_within_int hmax }
  · exact { h with p35 := of_within_int hv }
  · exact { h with p36 := of_within_int hv }
  · refine { h with p37 := ?_ }
    exact (Bool.or_eq_true_iff.mp hv).imp of_decide_eq_true of_within
  · exact { h with p38 := (of_within hv).2 }
  · exact { h with }
  · exact h

/-- The check of the cross-conditions is what R180 asks for. -/
theorem Params.crossOk_iff (p : Params) : p.crossOk = true ↔ p.Crossed := by
  simp only [Params.crossOk, Bool.and_eq_true, decide_eq_true_eq]
  constructor
  · rintro ⟨⟨⟨⟨⟨⟨lining, levelling⟩, thresholds⟩, window⟩, depths⟩, lifts⟩, widths⟩
    exact ⟨lining, levelling, thresholds, window, depths, lifts, widths⟩
  · rintro ⟨lining, levelling, thresholds, window, depths, lifts, widths⟩
    exact ⟨⟨⟨⟨⟨⟨lining, levelling⟩, thresholds⟩, window⟩, depths⟩, lifts⟩, widths⟩

theorem Params.ranged_defaults : Params.defaults.Ranged := by constructor <;> decide

theorem Params.legal_defaults : Params.defaults.Legal :=
  ⟨ranged_defaults, (crossOk_iff _).mp rfl⟩

/-- The checks that an accepted CONFIGURE has passed (R180). -/
theorem of_configureRefusal_none {id v : Nat} {s : State} (h : configureRefusal id v s = none) :
    inRange id v = true ∧ (s.params.put id v).crossOk = true ∧ (id = 33 → s.slp.records = []) := by
  unfold configureRefusal at h
  repeat' split at h
  all_goals try cases h
  next hrange hcross hempty =>
    simp only [Bool.not_eq_true', Bool.not_eq_false] at hrange hcross
    refine ⟨hrange, hcross, fun hid => ?_⟩
    simp_all

theorem Params.Legal.put {s : State} (h : s.params.Legal) {id v : Nat} (hput : configureRefusal id v s = none) :
    (s.params.put id v).Legal := by
  obtain ⟨hrange, hcross, -⟩ := of_configureRefusal_none hput
  exact ⟨h.ranged.put hrange, (crossOk_iff _).mp hcross⟩

/-- What the store loads is legal: a valid image, or the defaults (R183). -/
theorem loadImage_legal (image : Option (List Byte)) : (loadImage image).1.Legal := by
  unfold loadImage
  split
  · next bytes =>
    split
    · next hvalid =>
      simp only [imageValid, Bool.and_eq_true, List.all_eq_true] at hvalid
      obtain ⟨⟨-, hranges⟩, hcross⟩ := hvalid
      refine ⟨?_, (Params.crossOk_iff _).mp hcross⟩
      exact List.foldlRecOn allIds _ Params.ranged_defaults fun p hp id hid => hp.put (hranges id hid)
    · exact Params.legal_defaults
  · exact Params.legal_defaults

theorem losePower_params (s : State) : (losePower s).params = s.params := by unfold losePower; split <;> rfl

/-- The live parameters are legal. -/
theorem keptUpheld_legal : KeptUpheld fun s => s.params.Legal where
  of_kept h ht := params_of_fixed (Kept.fixed_eq ht) ▸ h
  on_clock _ _ h := h
  on_count _ h := h
  on_position _ h := h
  on_conditions _ h := h
  on_headSet _ h := h
  on_appendRecord _ _ _ _ _ _ _ h := h
  on_depart h := h
  on_clearRecords h := h
  on_clearHighWater _ h := h
  on_put hput h := h.put hput
  on_store _ _ h := h
  on_port _ _ _ h := h
  on_markNext _ _ _ _ h := h
  on_push _ _ _ _ h := h
  on_overflow _ _ _ h := h
  on_fullSent h := h
  on_replySent h := h
  on_losePower h := (congrArg Params.Legal (losePower_params _)).mpr h

/-- Settles O4: the parameters change at a CONFIGURE, which checks them, and at a reset, which loads a valid image
or the defaults. -/
theorem legalParametersKept : Obligations.LegalParametersKept := fun _ _ h ht =>
  keptUpheld_legal.on_step (fun _ _ h => h) (fun _ _ _ => loadImage_legal _) ht h

end Sys2Proof.Machine
end

section
/-! #### The bounds of the lists -/

namespace Sys2Proof.Machine

/-- The bounds of the lists, with the receive hold on exactly while the QUEUE_FULL list is full. -/
def State.WithinBounds (s : State) : Prop := s.Bounded ∧ s.HoldTracks

theorem markNext_length (p : Progress) (l : List QueuedRequest) : (markNext p l).length = l.length := by
  induction l with
  | nil => rfl
  | cons r rest ih => unfold markNext; split <;> simp [ih]

theorem nextSeqAfter_bounds {n : Nat} (h : 1 ≤ n ∧ n ≤ 65535) :
    1 ≤ nextSeqAfter n ∧ nextSeqAfter n ≤ 65535 := by unfold nextSeqAfter; split <;> omega

theorem withinBounds_iff (s : State) : s.WithinBounds ↔
    s.slp.records.length ≤ 16 ∧ (1 ≤ s.slp.nextSeq ∧ s.slp.nextSeq ≤ 65535) ∧ s.link.requests.length ≤ 4
      ∧ s.link.full.length ≤ 16 ∧ s.link.hold = decide (16 ≤ s.link.full.length) :=
  ⟨fun ⟨⟨hr, hn, hq, hf⟩, hh⟩ => ⟨hr, hn, hq, hf, hh⟩, fun ⟨hr, hn, hq, hf, hh⟩ => ⟨⟨hr, hn, hq, hf⟩, hh⟩⟩

theorem State.WithinBounds.of_eq {s t : State} (h : s.WithinBounds)
    (hr : t.slp.records.length = s.slp.records.length) (hn : t.slp.nextSeq = s.slp.nextSeq)
    (hq : t.link.requests.length = s.link.requests.length) (hf : t.link.full = s.link.full)
    (hh : t.link.hold = s.link.hold) : t.WithinBounds := by
  rw [withinBounds_iff] at h ⊢
  rwa [hr, hn, hq, hf, hh]

theorem recordInTransmission_length (s : State) : (recordInTransmission s).toList.length ≤ 16 := by
  cases recordInTransmission s <;> simp

/-- Every operation keeps the bounds. -/
theorem keptUpheld_withinBounds : KeptUpheld State.WithinBounds where
  of_kept h ht := h.of_eq (records_length_of_kept ht) (nextSeq_of_kept ht)
    (congrArg List.length (requests_of_fixed (Kept.fixed_eq ht))) (full_of_fixed (Kept.fixed_eq ht))
    (hold_of_fixed (Kept.fixed_eq ht))
  on_clock _ _ h := h.of_eq rfl rfl rfl rfl rfl
  on_count _ h := h.of_eq rfl rfl rfl rfl rfl
  on_position _ h := h.of_eq rfl rfl rfl rfl rfl
  on_conditions _ h := h.of_eq rfl rfl rfl rfl rfl
  on_headSet _ h := h.of_eq rfl rfl rfl rfl rfl
  on_appendRecord {s} c width source plan unplanned _ hroom h := by
    obtain ⟨-, hn, hq, hf, hh⟩ := (withinBounds_iff s).mp h
    have hroom : s.slp.records.length < 16 := Nat.not_le.mp (of_decide_eq_false hroom)
    refine (withinBounds_iff _).mpr ⟨?_, nextSeqAfter_bounds hn, hq, hf, hh⟩
    simpa [appendRecord] using hroom
  on_depart {s} h := by
    obtain ⟨hr, hrest⟩ := (withinBounds_iff s).mp h
    refine (withinBounds_iff _).mpr ⟨?_, hrest⟩
    exact (List.length_tail (l := s.slp.records)).trans_le ((Nat.sub_le _ 1).trans hr)
  on_clearRecords {s} h := by
    obtain ⟨-, -, hrest⟩ := (withinBounds_iff s).mp h
    exact (withinBounds_iff _).mpr ⟨recordInTransmission_length s, ⟨le_refl 1, (by decide : 1 ≤ 65535)⟩, hrest⟩
  on_clearHighWater _ h := h.of_eq rfl rfl rfl rfl rfl
  on_put _ h := h.of_eq rfl rfl rfl rfl rfl
  on_store _ _ h := h.of_eq rfl rfl rfl rfl rfl
  on_port hh hq hf h := h.of_eq rfl rfl (congrArg List.length hq) hf hh
  on_markNext p hh hq hf h := h.of_eq rfl rfl ((congrArg List.length hq).trans (markNext_length p _)) hf hh
  on_push {s} kind tag r hroom h := by
    obtain ⟨hr, hn, -, hf, hh⟩ := (withinBounds_iff s).mp h
    refine (withinBounds_iff _).mpr ⟨hr, hn, ?_, hf, hh⟩
    simpa using hroom
  on_overflow {s} kind tag hoff h := by
    obtain ⟨hr, hn, hq, hf, hh⟩ := (withinBounds_iff s).mp h
    have hroom : s.link.full.length < 16 := by simpa [hoff] using hh
    refine (withinBounds_iff _).mpr ⟨hr, hn, hq, ?_, ?_⟩
    · simpa using hroom
    · simp [hoff, maxFull]
  on_fullSent {s} h := by
    obtain ⟨hr, hn, hq, hf, hh⟩ := (withinBounds_iff s).mp h
    refine (withinBounds_iff _).mpr ⟨hr, hn, hq, ?_, ?_⟩
    · simp only [fullSent, State.modLink_link, List.length_tail]
      omega
    · simp only [fullSent, State.modLink_link, List.length_tail, hh, maxFull, ← Bool.decide_and]
      exact decide_eq_decide.mpr (by omega)
  on_replySent {s} h := by
    obtain ⟨hr, hn, hq, hf, hh⟩ := (withinBounds_iff s).mp h
    refine (withinBounds_iff _).mpr ⟨hr, hn, ?_, hf, hh⟩
    simp only [replySent, State.modLink_link, List.length_tail]
    omega
  on_losePower {s} h := by
    obtain ⟨hr, hn, -⟩ := (withinBounds_iff s).mp h
    unfold losePower
    split <;> exact (withinBounds_iff _).mpr ⟨hr, hn, Nat.zero_le _, Nat.zero_le _, rfl⟩

/-- Settles O5: each list grows where there is room for it alone. -/
theorem boundsKept : Obligations.BoundsKept := fun _ _ hbounded hhold ht =>
  keptUpheld_withinBounds.on_step (fun _ _ h => h.of_eq rfl rfl rfl rfl rfl)
    (fun _ _ _ => (withinBounds_iff _).mpr ⟨Nat.zero_le _, ⟨le_refl 1, (by decide : 1 ≤ 65535)⟩, Nat.zero_le _, Nat.zero_le _, rfl⟩)
    ht ⟨hbounded, hhold⟩

end Sys2Proof.Machine
end

section
/-! #### The spacing of the sleeper records -/

namespace Sys2Proof.Machine

/-- The chainages of the records, as R74 has them: strictly ascending and more than `gap` apart, the last one the
high-water chainage. -/
structure Spaced (gap : Int) (chainages : List Int) (highWater : Option Int) : Prop where
  apart : chainages.Pairwise fun a b => a < b ∧ a + gap < b
  highest : ∀ c, chainages.getLast? = some c → highWater = some c

theorem recordsSpaced_iff (s : State) :
    s.RecordsSpaced ↔ Spaced s.params.p33 (s.slp.records.map (·.chainage)) s.slp.highWater := by
  constructor
  · rintro ⟨hapart, hhigh⟩
    refine ⟨List.pairwise_map.mpr hapart, fun c hc => ?_⟩
    rw [List.getLast?_map, Option.map_eq_some_iff] at hc
    obtain ⟨r, hr, rfl⟩ := hc
    exact hhigh r hr
  · rintro ⟨hapart, hhigh⟩
    exact ⟨List.pairwise_map.mp hapart, fun r hr => hhigh _ (by rw [List.getLast?_map, hr]; rfl)⟩

theorem spaced_nil (gap : Int) (h : Option Int) : Spaced gap [] h :=
  ⟨List.Pairwise.nil, fun _ hc => nomatch hc⟩

theorem spaced_singleton (gap c : Int) : Spaced gap [c] (some c) :=
  ⟨List.pairwise_singleton _ _, fun _ hc => hc⟩

/-- A chainage that passes the spacing check joins the end (R66, R73). -/
theorem Spaced.append {gap : Int} {l : List Int} {h : Option Int} (hs : Spaced gap l h) (hgap : 0 ≤ gap) {c : Int}
    (hc : ∀ x, h = some x → x + gap < c) : Spaced gap (l ++ [c]) (some c) := by
  refine ⟨List.pairwise_append.mpr ⟨hs.apart, List.pairwise_singleton _ _, fun a ha b hb => ?_⟩, fun d hd => ?_⟩
  · obtain rfl := List.mem_singleton.mp hb
    obtain ⟨x, hx⟩ : ∃ x, l.getLast? = some x :=
      Option.ne_none_iff_exists'.mp fun hnone => by simp_all [List.getLast?_eq_none_iff.mp hnone]
    have hlast : a ≤ x := by
      rcases List.getLast?_eq_some_iff.mp hx with ⟨init, rfl⟩
      rcases List.mem_append.mp ha with hin | hin
      · exact le_of_lt ((List.pairwise_append.mp hs.apart).2.2 a hin x (by simp)).1
      · exact le_of_eq (List.mem_singleton.mp hin)
    have := hc x (hs.highest x hx)
    omega
  · simpa using hd

/-- The front one leaves (R75). -/
theorem Spaced.tail {gap : Int} {l : List Int} {h : Option Int} (hs : Spaced gap l h) : Spaced gap l.tail h := by
  refine ⟨hs.apart.sublist (List.tail_sublist l), fun c hc => hs.highest c ?_⟩
  match l, hc with
  | _ :: _ :: _, hc => exact hc

/-- The parameters are legal and the records spaced. -/
def State.SpacedLegal (s : State) : Prop :=
  s.params.Legal ∧ Spaced s.params.p33 (s.slp.records.map (·.chainage)) s.slp.highWater

theorem put_p33 (p : Params) {id v : Nat} (h : id ≠ 33) : (p.put id v).p33 = p.p33 := by
  unfold Params.put
  split <;> first | rfl | exact absurd rfl h

/-- Every operation keeps the records spaced under legal parameters. -/
theorem keptUpheld_spacedLegal : KeptUpheld State.SpacedLegal where
  of_kept {s t} h ht := by
    unfold State.SpacedLegal at h ⊢
    rwa [params_of_fixed (Kept.fixed_eq ht), chainages_of_kept ht, highWater_of_kept ht]
  on_clock _ _ h := h
  on_count _ h := h
  on_position _ h := h
  on_conditions _ h := h
  on_headSet _ h := h
  on_appendRecord {s} c width source plan unplanned hclose _ h := by
    obtain ⟨hlegal, hspaced⟩ := h
    have hgap : 0 ≤ s.params.p33 := by have := hlegal.ranged.p33; omega
    have hpasses : ∀ x, s.slp.highWater = some x → x + s.params.p33 < c := fun x hx => by
      simpa [tooClose, hx] using hclose
    refine ⟨hlegal, ?_⟩
    simpa [appendRecord, newRecord] using hspaced.append hgap hpasses
  on_depart {s} h := by
    refine ⟨h.1, ?_⟩
    simp only [SleeperQueue.departed, State.modSlp_slp, State.modSlp_params, List.map_tail]
    split
    · next hempty =>
      have : s.slp.records.tail = [] := by simp_all
      rw [← List.map_tail, this]
      exact spaced_nil _ _
    · exact h.2.tail
  on_clearRecords {s} h := by
    refine ⟨h.1, ?_⟩
    simp only [clearRecords, State.modSlp_slp]
    cases recordInTransmission s with
    | none => exact spaced_nil _ _
    | some r => exact spaced_singleton _ _
  on_clearHighWater {s} hempty h := by
    refine ⟨h.1, ?_⟩
    simp only [State.modSlp_slp, hempty]
    exact spaced_nil _ _
  on_put {s id v} hput h := by
    refine ⟨h.1.put hput, ?_⟩
    by_cases hid : id = 33
    · have hempty := (of_configureRefusal_none hput).2.2 hid
      simp only [State.modParams, hempty]
      exact spaced_nil _ _
    · change Spaced (s.params.put id v).p33 _ _
      rw [put_p33 _ hid]
      exact h.2
  on_store _ _ h := h
  on_port _ _ _ h := h
  on_markNext _ _ _ _ h := h
  on_push _ _ _ _ h := h
  on_overflow _ _ _ h := h
  on_fullSent h := h
  on_replySent h := h
  on_losePower h := by unfold losePower; split <;> exact h

/-- Settles O9: a record enters where it passes the spacing check alone, and P33 changes with the queue empty. -/
theorem recordsStaySpaced : Obligations.RecordsStaySpaced := by
  intro s t hlegal hspaced ht
  have hkept : t.SpacedLegal :=
    keptUpheld_spacedLegal.on_step (fun _ _ h => h) (fun _ _ _ => ⟨loadImage_legal _, spaced_nil _ _⟩) ht
      ⟨hlegal, (recordsSpaced_iff s).mp hspaced⟩
  exact (recordsSpaced_iff t).mpr hkept.2

end Sys2Proof.Machine
end


section
/-! ### The step and the reset -/

namespace Sys2Proof.Machine

/-- Settles O1: the step is defined by the two shapes of the queue. -/
theorem stepRunsFrontCommand : Obligations.StepRunsFrontCommand :=
  ⟨fun s c rest h => by rw [step, h], fun s h => by rw [step, h]⟩

/-- The frame of start-up is being sent, so that nothing waits for an idle transmitter. -/
theorem reset_lineBusy : State.reset.LineBusyOrDone := fun _ h => nomatch h

theorem reset_demandCurrent : State.reset.DemandCurrent where
  ready _ := rfl
  resting h := by rcases h with h | h <;> cases h
  stops h := nomatch h
  creeps h := nomatch h

theorem reset_windowSound : State.reset.WindowSound where
  segments := Nat.zero_le _
  joined i _ _ h := by simp [State.reset] at h
  lengths _ h := nomatch h
  pool := Nat.zero_le _
  inside _ h := nomatch h
  offsets _ h := nomatch h
  ascending := List.Pairwise.nil

/-- Every unit is PARKING after a reset. -/
theorem reset_parking (u : UnitId) :
    (State.reset.heads.get u).state = .parking ∧ (State.reset.heads.get u).pendingLower = false := by
  cases u <;> exact ⟨rfl, rfl⟩

/-- Settles O3: the lists are empty, the units are PARKING and the drive stands still. -/
theorem resetMeetsInvariants : Obligations.ResetMeetsInvariants := by
  refine ⟨Params.legal_defaults, ⟨Nat.zero_le _, by decide, Nat.zero_le _, Nat.zero_le _⟩, rfl, ?_, ?_, ?_,
    reset_demandCurrent, (recordsSpaced_iff _).mpr (spaced_nil _ _), reset_windowSound, reset_lineBusy⟩
  · rintro ⟨u, hu⟩
    rw [(reset_parking u).1] at hu
    cases hu
  · intro u hu
    rw [(reset_parking u).2] at hu
    cases hu
  · exact fun _ u => .inr (.inr (.inl (reset_parking u).1))

end Sys2Proof.Machine
end


section
/-! ### Properties of the axes, the units and the drive's output -/

namespace Sys2Proof.Machine

/-! #### What flags leave alone -/

/-- A flag raised changes the condition unit and the CONDITION slot alone. -/
theorem setFlag_eq (f : Flag) (s : State) : ∃ cond slot,
    setFlag f s = { s with cond := cond, link := { s.link with condSlot := slot } } := by
  have harm (t : State) : ∃ cond, armStop f t = { t with cond := cond } := by
    unfold armStop
    split <;> exact ⟨_, rfl⟩
  unfold setFlag
  split
  · exact ⟨_, _, rfl⟩
  · dsimp only
    split
    · obtain ⟨cond, hcond⟩ := harm (fillCondition f (s.modCond fun c => { c with flags := flagAdd f c.flags }))
      exact ⟨_, _, hcond⟩
    · obtain ⟨cond, hcond⟩ := harm (s.modCond fun c => { c with flags := flagAdd f c.flags })
      exact ⟨_, _, hcond⟩

theorem setFlag_axes (f : Flag) (s : State) : (setFlag f s).axes = s.axes := by
  obtain ⟨_, _, h⟩ := setFlag_eq f s
  rw [h]

theorem setFlag_heads (f : Flag) (s : State) : (setFlag f s).heads = s.heads := by
  obtain ⟨_, _, h⟩ := setFlag_eq f s
  rw [h]

theorem setFlag_pos (f : Flag) (s : State) : (setFlag f s).pos = s.pos := by
  obtain ⟨_, _, h⟩ := setFlag_eq f s
  rw [h]

theorem recordFlag_axes (f : Flag) (s : State) : (recordFlag f s).axes = s.axes := setFlag_axes f _

theorem recordFlag_heads (f : Flag) (s : State) : (recordFlag f s).heads = s.heads := setFlag_heads f _

theorem recordFlag_pos (f : Flag) (s : State) : (recordFlag f s).pos = s.pos := setFlag_pos f _

theorem refreshDemand_axes (s : State) : (refreshDemand s).axes = s.axes := by
  unfold refreshDemand
  dsimp only
  split
  exacts [setFlag_axes _ _, rfl]

theorem refreshDemand_heads (s : State) : (refreshDemand s).heads = s.heads := by
  unfold refreshDemand
  dsimp only
  split
  exacts [setFlag_heads _ _, rfl]

theorem refreshDemand_output (s : State) : (refreshDemand s).pos.output = s.pos.output := by
  unfold refreshDemand
  dsimp only
  split
  exacts [(congrArg Position.output (setFlag_pos _ _)).trans rfl, rfl]

/-! #### What an operation of an axis does to the axes and the units -/

theorem measureOvershoot_heads (a : AxisId) (s : State) : (measureOvershoot a s).heads = s.heads := by
  unfold measureOvershoot
  repeat' split
  all_goals first | rfl | (dsimp only; split <;> first | exact recordFlag_heads _ _ | rfl)

theorem measureOvershoot_pos (a : AxisId) (s : State) : (measureOvershoot a s).pos = s.pos := by
  unfold measureOvershoot
  repeat' split
  all_goals first | rfl | (dsimp only; split <;> first | exact recordFlag_pos _ _ | rfl)

/-- The measuring of an overshoot changes the overshoot alone. -/
theorem measureOvershoot_axes (a : AxisId) (s : State) :
    ∃ x, (measureOvershoot a s).axes = s.axes.set a { s.axes.get a with overshoot := x } := by
  have hmeasured (x : Option Int) : (s.modAxis a fun y => { y with overshoot := x }).axes
      = s.axes.set a { s.axes.get a with overshoot := x } := rfl
  unfold measureOvershoot
  split
  · exact ⟨(s.axes.get .line).overshoot, (Three.set_get _ _).symm⟩
  · split
    · exact ⟨_, rfl⟩
    · dsimp only
      split
      exacts [⟨_, recordFlag_axes _ _⟩, ⟨_, rfl⟩]

theorem enterHold_heads (a : AxisId) (o : AxisOutcome) (s : State) : (enterHold a o s).heads = s.heads :=
  measureOvershoot_heads _ _

theorem enterHold_pos (a : AxisId) (o : AxisOutcome) (s : State) : (enterHold a o s).pos = s.pos :=
  measureOvershoot_pos _ _

theorem Three.set_set {α : Type} (x : Three α) (a : AxisId) (v w : α) : (x.set a v).set a w = x.set a w := by
  cases a <;> rfl

/-- The entry into HOLD, field by field but for the overshoot. -/
theorem enterHold_axes (a : AxisId) (o : AxisOutcome) (s : State) : ∃ x,
    (enterHold a o s).axes = s.axes.set a
      { s.axes.get a with
        state := .hold, stage := none, motion := none, settle := none, outcome := some o, overshoot := x } := by
  obtain ⟨x, hx⟩ := measureOvershoot_axes a
    (s.modAxis a fun x => { x with state := .hold, stage := none, motion := none, settle := none, outcome := some o })
  refine ⟨x, ?_⟩
  rw [enterHold, hx, State.modAxis_axes, Three.set_set, Three.get_set]

theorem prepareAxis_heads (a : AxisId) (s : State) : (prepareAxis a s).heads = s.heads := rfl

theorem startAxis_heads (a : AxisId) (vt : Int) (s : State) : (startAxis a vt s).heads = s.heads := by
  unfold startAxis
  dsimp only
  repeat' split
  all_goals first | rfl | exact enterHold_heads _ _ _

theorem startAxis_pos (a : AxisId) (vt : Int) (s : State) : (startAxis a vt s).pos = s.pos := by
  unfold startAxis
  dsimp only
  repeat' split
  all_goals first | rfl | exact enterHold_pos _ _ _

theorem judgeReversal_heads (a : AxisId) (d : LineDir) (s : State) : (judgeReversal a d s).heads = s.heads := by
  unfold judgeReversal
  dsimp only
  repeat' split
  all_goals first | rfl | exact (recordFlag_heads _ _).trans (enterHold_heads _ _ _)

theorem judgeReversal_pos (a : AxisId) (d : LineDir) (s : State) : (judgeReversal a d s).pos = s.pos := by
  unfold judgeReversal
  dsimp only
  repeat' split
  all_goals first | rfl | exact (recordFlag_pos _ _).trans (enterHold_pos _ _ _)

theorem judgeAxis_heads (a : AxisId) (s : State) : (judgeAxis a s).heads = s.heads := by
  unfold judgeAxis
  dsimp only
  repeat' split
  all_goals first | rfl | exact judgeReversal_heads _ _ _

theorem judgeAxis_pos (a : AxisId) (s : State) : (judgeAxis a s).pos = s.pos := by
  unfold judgeAxis
  dsimp only
  repeat' split
  all_goals first | rfl | exact judgeReversal_pos _ _ _

theorem takeRelease_heads (a : AxisId) (s : State) : (takeRelease a s).heads = s.heads := by
  unfold takeRelease
  split
  exacts [measureOvershoot_heads _ _, rfl, rfl]

theorem takeRelease_pos (a : AxisId) (s : State) : (takeRelease a s).pos = s.pos := by
  unfold takeRelease
  split
  exacts [measureOvershoot_pos _ _, rfl, rfl]

theorem releaseAxis_heads (a : AxisId) (s : State) : (releaseAxis a s).heads = s.heads := by
  unfold releaseAxis
  split
  exacts [rfl, takeRelease_heads _ _]

theorem releaseAxis_pos (a : AxisId) (s : State) : (releaseAxis a s).pos = s.pos := by
  unfold releaseAxis
  split
  exacts [rfl, takeRelease_pos _ _]

/-- A fold of operations that keep a part of the state keeps it. -/
theorem foldl_same {α β : Type} (part : State → β) (f : State → α → State) (h : ∀ s x, part (f s x) = part s)
    (l : List α) (s : State) : part (l.foldl f s) = part s := by
  induction l generalizing s with
  | nil => rfl
  | cons x xs ih => rw [List.foldl_cons, ih, h]

theorem releaseAxes_heads (s : State) : (releaseAxes s).heads = s.heads :=
  foldl_same State.heads _ (fun s a => releaseAxis_heads a s) _ _

theorem releaseAxes_pos (s : State) : (releaseAxes s).pos = s.pos :=
  foldl_same State.pos _ (fun s a => releaseAxis_pos a s) _ _

theorem settleReleases_heads (s : State) : (settleReleases s).heads = s.heads := by
  unfold settleReleases
  split
  · rfl
  · exact foldl_same State.heads _ (fun s a => by split <;> first | exact takeRelease_heads _ _ | rfl) _ _

theorem settleReleases_pos (s : State) : (settleReleases s).pos = s.pos := by
  unfold settleReleases
  split
  · rfl
  · exact foldl_same State.pos _ (fun s a => by split <;> first | exact takeRelease_pos _ _ | rfl) _ _

/-! #### What an operation of a unit leaves alone -/

/-- What an operation of the units leaves alone, beside the kept part: the axes and the position unit. -/
structure Aside where
  axes : Three Axis
  pos : Position

/-- The axes and the position unit of a state. -/
def State.aside (s : State) : Aside := ⟨s.axes, s.pos⟩

theorem modHead_aside (s : State) (u : UnitId) (f : Head → Head) : (s.modHead u f).aside = s.aside := rfl

theorem setFlag_aside (f : Flag) (s : State) : (setFlag f s).aside = s.aside := by
  rw [State.aside, setFlag_axes, setFlag_pos]
  rfl

theorem recordFlag_aside (f : Flag) (s : State) : (recordFlag f s).aside = s.aside := setFlag_aside f _

theorem endPhase_aside (u : UnitId) (s : State) : (endPhase u s).aside = s.aside := by
  unfold endPhase
  dsimp only
  split
  exacts [rfl, recordFlag_aside _ _]

theorem seePressure_aside (u : UnitId) (s : State) : (seePressure u s).aside = s.aside := by
  unfold seePressure
  dsimp only
  repeat' split
  exacts [endPhase_aside _ _, rfl, rfl]

theorem enterSqueezing_aside (u : UnitId) (s : State) : (enterSqueezing u s).aside = s.aside := by
  unfold enterSqueezing
  dsimp only
  split
  exacts [seePressure_aside _ _, rfl]

theorem judgeGate_aside (u : UnitId) (s : State) : (judgeGate u s).aside = s.aside := by
  unfold judgeGate
  split
  exacts [enterSqueezing_aside _ _, rfl]

theorem enterInserted_aside (u : UnitId) (s : State) : (enterInserted u s).aside = s.aside := judgeGate_aside u _

theorem judgeLowering_aside (u : UnitId) (s : State) : (judgeLowering u s).aside = s.aside := by
  unfold judgeLowering
  repeat' split
  exacts [enterInserted_aside _ _, rfl, rfl]

theorem enterLowering_aside (u : UnitId) (s : State) : (enterLowering u s).aside = s.aside := judgeLowering_aside u _

theorem takeLower_aside (u : UnitId) (p : HeadPlan) (s : State) : (takeLower u p s).aside = s.aside := by
  unfold takeLower
  dsimp only
  split
  exacts [enterLowering_aside _ _, rfl]

theorem enterUp_aside (u : UnitId) (s : State) : (enterUp u s).aside = s.aside := by
  unfold enterUp
  dsimp only
  repeat' split
  exacts [takeLower_aside _ _ _, rfl, rfl]

theorem judgeRaising_aside (u : UnitId) (s : State) : (judgeRaising u s).aside = s.aside := by
  unfold judgeRaising
  repeat' split
  exacts [enterUp_aside _ _, rfl, rfl]

theorem enterRaising_aside (u : UnitId) (s : State) : (enterRaising u s).aside = s.aside := judgeRaising_aside u _

theorem markFaulted_aside (u : UnitId) (s : State) : (markFaulted u s).aside = s.aside := setFlag_aside _ _

theorem loseDepth_aside (u : UnitId) (s : State) : (loseDepth u s).aside = s.aside := by
  unfold loseDepth
  dsimp only
  repeat' split
  all_goals first | rfl | exact markFaulted_aside _ _

theorem deepen_aside (u : UnitId) (s : State) : (deepen u s).aside = s.aside := by
  unfold deepen
  split <;> rfl

theorem changeDepth_aside (u : UnitId) (s : State) : (changeDepth u s).aside = s.aside := by
  unfold changeDepth
  dsimp only
  repeat' split
  all_goals first
    | exact (judgeLowering_aside _ _).trans (deepen_aside _ _)
    | exact (judgeRaising_aside _ _).trans (deepen_aside _ _)
    | exact deepen_aside _ _

theorem arrivalOrder_aside (u : UnitId) (plan : Option HeadPlan) (s : State) :
    (arrivalOrder u plan s).aside = s.aside := by
  unfold arrivalOrder
  dsimp only
  repeat' split
  all_goals first | rfl | exact takeLower_aside _ _ _ | exact markFaulted_aside _ _

theorem abortHead_aside (u : UnitId) (s : State) : (abortHead u s).aside = s.aside := by
  unfold abortHead
  split
  all_goals first | rfl | exact enterRaising_aside _ _

theorem abortHeads_aside (s : State) : (abortHeads s).aside = s.aside :=
  foldl_same State.aside _ (fun s u => abortHead_aside u s) _ _

theorem endTilt_aside (u : UnitId) (s : State) : (endTilt u s).aside = s.aside := by
  unfold endTilt
  split
  exacts [enterUp_aside _ _, enterLowering_aside _ _]

theorem blockHead_aside (u : UnitId) (s : State) : (blockHead u s).aside = s.aside :=
  (recordFlag_aside _ _).trans (enterRaising_aside _ _)

theorem endOpening_aside (u : UnitId) (s : State) : (endOpening u s).aside = s.aside := by
  unfold endOpening
  dsimp only
  repeat' split
  all_goals first | exact enterRaising_aside _ _ | exact enterInserted_aside _ _

theorem restoreHead_aside (u : UnitId) (s : State) : (restoreHead u s).aside = s.aside := by
  unfold restoreHead
  split <;> rfl

section fields
variable {s t : State}

theorem axes_of_aside (h : t.aside = s.aside) : t.axes = s.axes := congrArg Aside.axes h

theorem pos_of_aside (h : t.aside = s.aside) : t.pos = s.pos := congrArg Aside.pos h

end fields

end Sys2Proof.Machine
end


section
/-! #### Units squeeze only while the axes hold (R114) -/

namespace Sys2Proof.Machine

theorem anySqueezing_iff (s : State) : anySqueezing s = true ↔ ∃ u, (s.heads.get u).state = .squeezing := by
  simp only [anySqueezing, List.any_eq_true, decide_eq_true_eq]
  exact ⟨fun ⟨u, _, h⟩ => ⟨u, h⟩, fun ⟨u, h⟩ => ⟨u, by cases u <;> simp [allUnits], h⟩⟩

theorem gateOpen_iff (s : State) :
    gateOpen s = true ↔ ∀ a, (s.axes.get a).state = .hold ∧ (s.axes.get a).releasePending = false := by
  simp only [gateOpen, List.all_eq_true, Bool.and_eq_true, decide_eq_true_eq, Bool.not_eq_true']
  exact ⟨fun h a => h a (by cases a <;> simp [allAxes]), fun h a _ => h a⟩

namespace State.SqueezesHeld

variable {s t : State}

theorem of_plant (h : s.SqueezesHeld) (ha : t.axes = s.axes) (hh : t.heads = s.heads) : t.SqueezesHeld := by
  unfold State.SqueezesHeld at h ⊢
  rwa [ha, hh]

/-- Where no unit squeezes the axes are free. -/
theorem of_none (h : ∀ u, (s.heads.get u).state ≠ .squeezing) : s.SqueezesHeld := fun ⟨u, hu⟩ => absurd hu (h u)

theorem of_hold (h : ∀ a, (s.axes.get a).state = .hold) : s.SqueezesHeld := fun _ => h

/-- Where an axis does not hold no unit squeezes. -/
theorem no_squeeze (h : s.SqueezesHeld) {a : AxisId} (ha : (s.axes.get a).state ≠ .hold) :
    ∀ u, (s.heads.get u).state ≠ .squeezing := fun u hu => ha (h ⟨u, hu⟩ a)

/-! ##### The axes -/

theorem on_modAxis (h : s.SqueezesHeld) (a : AxisId) (x : Axis) (hx : x.state = (s.axes.get a).state ∨ x.state = .hold)
    (ha : t.axes = s.axes.set a x) (hh : t.heads = s.heads) : t.SqueezesHeld := by
  intro hsqueezing b
  rw [hh] at hsqueezing
  have hhold := h hsqueezing
  rw [ha]
  by_cases hb : b = a
  · subst hb
    rw [Three.get_set]
    exact hx.elim (fun hx => hx.trans (hhold b)) id
  · rw [Three.get_set_ne _ _ hb]
    exact hhold b

theorem after_enterHold (h : s.SqueezesHeld) (a : AxisId) (o : AxisOutcome) : (enterHold a o s).SqueezesHeld := by
  obtain ⟨_, ha⟩ := enterHold_axes a o s
  exact h.on_modAxis a _ (.inr rfl) ha (enterHold_heads a o s)

theorem after_prepareAxis (h : s.SqueezesHeld) (a : AxisId) : (prepareAxis a s).SqueezesHeld :=
  h.on_modAxis a _ (.inl (by dsimp only; split <;> rfl)) rfl rfl

theorem after_startAxis (h : s.SqueezesHeld) (a : AxisId) (vt : Int) : (startAxis a vt s).SqueezesHeld := by
  by_cases htakes : takesStart (s.axes.get a) = true
  · have hidle : (s.axes.get a).state = .idle := by
      simp only [takesStart, Bool.and_eq_true, decide_eq_true_eq] at htakes
      exact htakes.1
    have hnone := h.no_squeeze (a := a) (by rw [hidle]; decide)
    exact of_none fun u => by rw [startAxis_heads]; exact hnone u
  · rw [startAxis, if_neg htakes]
    exact h

theorem after_judgeAxis (h : s.SqueezesHeld) (a : AxisId) : (judgeAxis a s).SqueezesHeld := by
  by_cases hmoving : (s.axes.get a).state = .moving
  · have hnone := h.no_squeeze (a := a) (by rw [hmoving]; decide)
    exact of_none fun u => by rw [judgeAxis_heads]; exact hnone u
  · unfold judgeAxis
    dsimp only
    rw [if_neg hmoving]
    exact h

theorem after_takeRelease (hnone : anySqueezing s = false) (a : AxisId) : (takeRelease a s).SqueezesHeld := by
  refine of_none fun u hu => ?_
  rw [takeRelease_heads] at hu
  rw [(anySqueezing_iff s).mpr ⟨u, hu⟩] at hnone
  cases hnone

theorem after_releaseAxis (h : s.SqueezesHeld) (a : AxisId) : (releaseAxis a s).SqueezesHeld := by
  unfold releaseAxis
  split
  · exact h.on_modAxis a { s.axes.get a with releasePending := true } (.inl rfl) rfl rfl
  · next hnone => exact after_takeRelease (Bool.not_eq_true _ ▸ hnone) a

theorem after_settleReleases (h : s.SqueezesHeld) : (settleReleases s).SqueezesHeld := by
  by_cases hany : anySqueezing s = true
  · rw [settleReleases, if_pos hany]
    exact h
  · refine of_none fun u hu => hany ((anySqueezing_iff s).mpr ⟨u, ?_⟩)
    rwa [settleReleases_heads] at hu

/-! ##### The units -/

/-- A unit that does not come to squeeze by what it does. -/
theorem on_modHead (h : s.SqueezesHeld) (u : UnitId) (f : Head → Head)
    (hf : (f (s.heads.get u)).state = .squeezing → (s.heads.get u).state = .squeezing) :
    (s.modHead u f).SqueezesHeld := by
  rintro ⟨v, hv⟩
  refine h ?_
  by_cases hvu : v = u
  · subst hvu
    refine ⟨v, hf ?_⟩
    rwa [State.modHead_heads, Four.get_set] at hv
  · refine ⟨v, ?_⟩
    rwa [State.modHead_heads, Four.get_set_ne _ _ hvu] at hv

theorem after_setFlag (h : s.SqueezesHeld) (f : Flag) : (setFlag f s).SqueezesHeld :=
  h.of_plant (setFlag_axes f s) (setFlag_heads f s)

theorem after_recordFlag (h : s.SqueezesHeld) (f : Flag) : (recordFlag f s).SqueezesHeld :=
  h.of_plant (recordFlag_axes f s) (recordFlag_heads f s)

theorem after_enterOpening (h : s.SqueezesHeld) (u : UnitId) : (enterOpening u s).SqueezesHeld := by
  unfold enterOpening
  exact h.on_modHead u _ fun h => nomatch h

theorem after_endPhase (h : s.SqueezesHeld) (u : UnitId) : (endPhase u s).SqueezesHeld := by
  have hopened := (h.on_modHead u (fun h => { h with report := { h.report with insertions := h.report.insertions + 1 } })
    id).after_enterOpening u
  unfold endPhase
  dsimp only
  split
  exacts [hopened, hopened.after_recordFlag _]

theorem after_seePressure (h : s.SqueezesHeld) (u : UnitId) : (seePressure u s).SqueezesHeld := by
  have hseen := h.on_modHead u
    (fun h => { h with pressureSeen := true, report := { h.report with pressureCount := h.report.pressureCount + 1 } }) id
  unfold seePressure
  dsimp only
  repeat' split
  exacts [hseen.after_endPhase u, hseen, h]

/-- A unit enters SQUEEZING through the open gate alone. -/
theorem after_judgeGate (h : s.SqueezesHeld) (u : UnitId) : (judgeGate u s).SqueezesHeld := by
  by_cases hgate : gateOpen s = true
  · refine of_hold fun a => ?_
    rw [axes_of_aside (judgeGate_aside u s)]
    exact ((gateOpen_iff s).mp hgate a).1
  · rw [judgeGate, if_neg fun h => hgate h.2]
    exact h

theorem after_enterInserted (h : s.SqueezesHeld) (u : UnitId) : (enterInserted u s).SqueezesHeld :=
  (h.on_modHead u (fun h => { h with state := .inserted, timer := none }) (fun h => nomatch h)).after_judgeGate u

theorem after_judgeLowering (h : s.SqueezesHeld) (u : UnitId) : (judgeLowering u s).SqueezesHeld := by
  unfold judgeLowering
  repeat' split
  exacts [h.after_enterInserted u, h, h]

theorem after_enterLowering (h : s.SqueezesHeld) (u : UnitId) : (enterLowering u s).SqueezesHeld :=
  (h.on_modHead u (fun h => { h with state := .lowering, timer := some (s.loadTimer s.params.p27) })
    (fun h => nomatch h)).after_judgeLowering u

theorem after_takeLower (h : s.SqueezesHeld) (u : UnitId) (p : HeadPlan) : (takeLower u p s).SqueezesHeld := by
  have hjoined := h.on_modHead u
    (fun h => { h with report := { h.report with participated := true, deepest := depthOf u s } }) id
  unfold takeLower
  dsimp only
  split
  exacts [hjoined.after_enterLowering u, hjoined.on_modHead u _ (fun h => nomatch h)]

theorem after_enterUp (h : s.SqueezesHeld) (u : UnitId) : (enterUp u s).SqueezesHeld := by
  have hup := h.on_modHead u
    (fun h => { h with state := .up, stage := none, timer := none, latched := none, pendingLower := false })
    (fun h => nomatch h)
  unfold enterUp
  dsimp only
  repeat' split
  exacts [hup.after_takeLower u _, hup, hup]

theorem after_judgeRaising (h : s.SqueezesHeld) (u : UnitId) : (judgeRaising u s).SqueezesHeld := by
  unfold judgeRaising
  repeat' split
  exacts [h.after_enterUp u, h, h]

theorem after_enterRaising (h : s.SqueezesHeld) (u : UnitId) : (enterRaising u s).SqueezesHeld := by
  unfold enterRaising
  refine after_judgeRaising (h.on_modHead u _ ?_) u
  exact fun h => nomatch h

theorem after_markFaulted (h : s.SqueezesHeld) (u : UnitId) : (markFaulted u s).SqueezesHeld := by
  unfold markFaulted
  exact after_setFlag (h.on_modHead u _ fun h => h) _

theorem after_enterFaulted (h : s.SqueezesHeld) (u : UnitId) : (enterFaulted u s).SqueezesHeld := by
  unfold enterFaulted
  exact h.on_modHead u _ fun h => nomatch h

theorem after_loseDepth (h : s.SqueezesHeld) (u : UnitId) : (loseDepth u s).SqueezesHeld := by
  have hblind : (enterBlind u s).SqueezesHeld := by
    unfold enterBlind
    exact h.on_modHead u _ fun h => nomatch h
  unfold loseDepth
  dsimp only
  repeat' split
  all_goals first
    | exact h
    | exact hblind.after_markFaulted u
    | exact (h.after_enterFaulted u).after_markFaulted u
    | exact h.after_markFaulted u

theorem after_changeDepth (h : s.SqueezesHeld) (u : UnitId) : (changeDepth u s).SqueezesHeld := by
  have hdeepened : (deepen u s).SqueezesHeld := by
    unfold deepen
    split
    · refine h.on_modHead u _ fun hf => ?_
      split at hf <;> exact hf
    · exact h
  unfold changeDepth
  dsimp only
  repeat' split
  exacts [hdeepened.after_judgeLowering u, hdeepened.after_judgeRaising u, hdeepened.after_judgeRaising u, hdeepened]

theorem after_arrivalOrder (h : s.SqueezesHeld) (u : UnitId) (plan : Option HeadPlan) :
    (arrivalOrder u plan s).SqueezesHeld := by
  have hcleared := h.on_modHead u (fun h => { h with report := .cleared, pendingLower := false, plan := plan }) id
  unfold arrivalOrder
  dsimp only
  repeat' split
  exacts [hcleared, hcleared.after_takeLower u _, (hcleared.after_enterFaulted u).after_markFaulted u,
    hcleared.on_modHead u _ id, hcleared]

theorem after_abortHead (h : s.SqueezesHeld) (u : UnitId) : (abortHead u s).SqueezesHeld := by
  have hmarked := h.on_modHead u (fun h => { h with abort := true }) id
  unfold abortHead
  split
  exacts [h.after_enterRaising u, h.after_enterRaising u, hmarked.after_enterOpening u, hmarked,
    hmarked, h.on_modHead u _ id, h, h, h]

theorem after_haltOrders (h : s.SqueezesHeld) : (haltOrders s).SqueezesHeld := by
  have hridden : (rideDrive s).SqueezesHeld :=
    h.of_plant ((refreshDemand_axes _).trans rfl) ((refreshDemand_heads _).trans rfl)
  have haborted : (abortHeads (rideDrive s)).SqueezesHeld := by
    unfold abortHeads
    exact List.foldlRecOn (motive := State.SqueezesHeld) allUnits _ hridden fun _ ht u _ => ht.after_abortHead u
  unfold haltOrders releaseAxes
  exact List.foldlRecOn (motive := State.SqueezesHeld) allAxes _ haborted fun _ ht a _ => ht.after_releaseAxis a

theorem after_endTilt (h : s.SqueezesHeld) (u : UnitId) : (endTilt u s).SqueezesHeld := by
  unfold endTilt
  split
  exacts [(h.on_modHead u (fun h => { h with abort := false }) id).after_enterUp u, h.after_enterLowering u]

theorem after_blockHead (h : s.SqueezesHeld) (u : UnitId) : (blockHead u s).SqueezesHeld :=
  ((h.on_modHead u (fun h => { h with report := { h.report with blocked := true } }) id).after_enterRaising
    u).after_recordFlag _

theorem after_endOpening (h : s.SqueezesHeld) (u : UnitId) : (endOpening u s).SqueezesHeld := by
  have hcleared := h.on_modHead u (fun h => { h with abort := false }) id
  unfold endOpening
  dsimp only
  repeat' split
  all_goals first
    | exact hcleared.after_enterRaising u
    | exact h.after_enterInserted u
    | exact h.after_enterRaising u

theorem after_restoreHead (h : s.SqueezesHeld) (u : UnitId) : (restoreHead u s).SqueezesHeld := by
  unfold restoreHead
  split
  exacts [h.on_modHead u _ (fun h => nomatch h), h]

end State.SqueezesHeld

theorem losePower_plant (s : State) :
    (losePower s).axes = s.axes ∧ (losePower s).heads = s.heads ∧ (losePower s).pos = s.pos := by
  unfold losePower
  split <;> exact ⟨rfl, rfl, rfl⟩

theorem takeClearFlags_plant (set : BitVec 24) (s : State) :
    (takeClearFlags set s).state.axes = s.axes ∧ (takeClearFlags set s).state.heads = s.heads
      ∧ (takeClearFlags set s).state.pos = s.pos := by
  unfold takeClearFlags
  split <;> exact ⟨rfl, rfl, rfl⟩

/-- Every operation keeps that units squeeze only while the axes hold. -/
theorem upheld_squeezesHeld : Upheld (fun _ => True) State.SqueezesHeld State.SqueezesHeld where
  weaken := id
  of_watched h ht := h.of_plant (axes_of_watched ht) (heads_of_watched ht)
  on_clock _ _ h := h
  on_count _ h := h
  on_position _ h := h
  on_setFlag f h := h.after_setFlag f
  on_refreshOutput h := h
  on_rideDrive h := h.of_plant ((refreshDemand_axes _).trans rfl) ((refreshDemand_heads _).trans rfl)
  on_haltOrders h := h.after_haltOrders
  on_prepareAxis a h := h.after_prepareAxis a
  on_startAxis a vt h := h.after_startAxis a vt
  on_judgeAxis a h := h.after_judgeAxis a
  on_enterHold a o h := h.after_enterHold a o
  on_releaseAxis a h := h.after_releaseAxis a
  on_settleReleases h := h.after_settleReleases
  on_judgeGate u h := h.after_judgeGate u
  on_arrivalOrder u plan h := h.after_arrivalOrder u plan
  on_loseDepth u h := h.after_loseDepth u
  on_restoreHead u h := h.after_restoreHead u
  on_changeDepth u h := h.after_changeDepth u
  on_changeDepth_same u _ h := h.after_changeDepth u
  on_seePressure u h := h.after_seePressure u
  on_seePressure_same u _ h := h.after_seePressure u
  on_endTilt u _ h := h.after_endTilt u
  on_blockHead u _ h := h.after_blockHead u
  on_endPhase u _ h := h.after_endPhase u
  on_endOpening u _ h := h.after_endOpening u
  on_enterUp u h := h.after_enterUp u
  on_enterStuck u _ _ h := h.on_modHead u _ id
  on_enterFaulted u _ h := h.after_enterFaulted u
  on_appendRecord _ _ _ _ _ _ _ h := h
  on_depart h := h
  on_clearRecords h := h
  on_clearHighWater _ h := h
  on_put _ h := h
  on_headSet _ h := h
  on_enables _ h := h
  on_clearFlags set _ h := h.of_plant (takeClearFlags_plant set _).1 (takeClearFlags_plant set _).2.1
  on_store _ _ h := h
  on_port _ _ _ h := h
  on_markNext _ _ _ _ h := h
  on_push _ _ _ _ _ h := h
  on_overflow _ _ _ h := h
  on_fullSent h := h
  on_replySent h := h
  on_losePower h := h.of_plant (losePower_plant _).1 (losePower_plant _).2.1
  admitted _ _ _ := trivial

end Sys2Proof.Machine
end


section
/-! #### A lower is pending only in a unit that is RAISING (R121, R132) -/

namespace Sys2Proof.Machine

/-- A pending lower belongs to the stages NORMAL and STUCK of RAISING. -/
def Head.LowerSound (h : Head) : Prop :=
  h.pendingLower = true → h.state = .raising ∧ (h.stage = some .normal ∨ h.stage = some .stuck)

theorem Head.LowerSound.of_not {h : Head} (hn : h.pendingLower = false) : h.LowerSound := fun h' => by
  rw [hn] at h'
  cases h'

theorem Head.LowerSound.none_of_state {h : Head} (hs : h.LowerSound) (hn : h.state ≠ .raising) :
    h.pendingLower = false := Bool.not_eq_true _ ▸ fun hp => hn (hs hp).1

/-- Every unit but one is sound in its pending lower. -/
def State.LowersBut (u : UnitId) (s : State) : Prop := ∀ v, v ≠ u → (s.heads.get v).LowerSound

/-- Every unit is sound in its pending lower, and one unit has none. -/
def State.Lowerless (u : UnitId) (s : State) : Prop :=
  s.LowersPendRaising ∧ (s.heads.get u).pendingLower = false

theorem State.LowersBut.on_modHead {s : State} {u : UnitId} (h : s.LowersBut u) (f : Head → Head) :
    (s.modHead u f).LowersBut u := fun v hv => by
  rw [State.modHead_heads, Four.get_set_ne _ _ hv]
  exact h v hv

/-- The last change to a unit decides whether its pending lower is sound. -/
theorem State.LowersBut.settle {s : State} {u : UnitId} (h : s.LowersBut u) (f : Head → Head)
    (hf : (f (s.heads.get u)).LowerSound) : (s.modHead u f).LowersPendRaising := fun v => by
  by_cases hv : v = u
  · subst hv
    rw [State.modHead_heads, Four.get_set]
    exact hf
  · exact h.on_modHead f v hv

namespace State.Lowerless

variable {s t : State} {u : UnitId}

theorem of_heads (h : s.Lowerless u) (hh : t.heads = s.heads) : t.Lowerless u := by
  unfold State.Lowerless State.LowersPendRaising at h ⊢
  rwa [hh]

theorem on_modHead (h : s.Lowerless u) (f : Head → Head)
    (hf : (f (s.heads.get u)).pendingLower = (s.heads.get u).pendingLower) : (s.modHead u f).Lowerless u := by
  have hnone : (f (s.heads.get u)).pendingLower = false := hf.trans h.2
  refine ⟨State.LowersBut.settle (fun v _ => h.1 v) f (.of_not hnone), ?_⟩
  rwa [State.modHead_heads, Four.get_set]

theorem after_enterOpening (h : s.Lowerless u) : (enterOpening u s).Lowerless u := h.on_modHead _ rfl

theorem after_endPhase (h : s.Lowerless u) : (endPhase u s).Lowerless u := by
  have hopened := (h.on_modHead (fun h => { h with report := { h.report with insertions := h.report.insertions + 1 } })
    rfl).after_enterOpening
  unfold endPhase
  dsimp only
  split
  exacts [hopened, hopened.of_heads (recordFlag_heads _ _)]

theorem after_seePressure (h : s.Lowerless u) : (seePressure u s).Lowerless u := by
  have hseen := h.on_modHead
    (fun h => { h with pressureSeen := true, report := { h.report with pressureCount := h.report.pressureCount + 1 } }) rfl
  unfold seePressure
  dsimp only
  repeat' split
  exacts [hseen.after_endPhase, hseen, h]

theorem after_judgeGate (h : s.Lowerless u) : (judgeGate u s).Lowerless u := by
  have hbegun := h.on_modHead (fun h =>
    { h with
      state := .squeezing
      timer := some (s.loadTimer s.params.p29)
      squeezeMode := s.params.p31
      pressureSeen := false }) rfl
  unfold judgeGate enterSqueezing
  dsimp only
  repeat' split
  exacts [hbegun.after_seePressure, hbegun, h]

theorem after_enterInserted (h : s.Lowerless u) : (enterInserted u s).Lowerless u :=
  (h.on_modHead (fun h => { h with state := .inserted, timer := none }) rfl).after_judgeGate

theorem after_judgeLowering (h : s.Lowerless u) : (judgeLowering u s).Lowerless u := by
  unfold judgeLowering
  repeat' split
  exacts [h.after_enterInserted, h, h]

theorem after_enterLowering (h : s.Lowerless u) : (enterLowering u s).Lowerless u :=
  (h.on_modHead (fun h => { h with state := .lowering, timer := some (s.loadTimer s.params.p27) })
    rfl).after_judgeLowering

theorem after_takeLower (h : s.Lowerless u) (p : HeadPlan) : (takeLower u p s).Lowerless u := by
  have hjoined := h.on_modHead
    (fun h => { h with report := { h.report with participated := true, deepest := depthOf u s } }) rfl
  unfold takeLower
  dsimp only
  split
  exacts [hjoined.after_enterLowering, hjoined.on_modHead _ rfl]

end State.Lowerless

namespace State.LowersPendRaising

variable {s t : State}

theorem of_heads (h : s.LowersPendRaising) (hh : t.heads = s.heads) : t.LowersPendRaising := by
  unfold State.LowersPendRaising at h ⊢
  rwa [hh]

theorem but (h : s.LowersPendRaising) (u : UnitId) : s.LowersBut u := fun v _ => h v

/-- A unit that is not RAISING has no lower pending. -/
theorem lowerless (h : s.LowersPendRaising) {u : UnitId} (hu : (s.heads.get u).state ≠ .raising) : s.Lowerless u :=
  ⟨h, Head.LowerSound.none_of_state (h u) hu⟩

theorem after_judgeGate (h : s.LowersPendRaising) (u : UnitId) : (judgeGate u s).LowersPendRaising := by
  by_cases hinserted : (s.heads.get u).state = .inserted
  · exact (h.lowerless (by rw [hinserted]; decide)).after_judgeGate.1
  · rw [judgeGate, if_neg fun h' => hinserted h'.1]
    exact h

theorem after_seePressure (h : s.LowersPendRaising) (u : UnitId) : (seePressure u s).LowersPendRaising := by
  by_cases hsqueezing : (s.heads.get u).state = .squeezing
  · exact (h.lowerless (by rw [hsqueezing]; decide)).after_seePressure.1
  · unfold seePressure
    dsimp only
    rw [if_neg fun h' => hsqueezing h'.1]
    exact h

theorem after_enterUp (h : s.LowersPendRaising) (u : UnitId) : (enterUp u s).LowersPendRaising := by
  have hup : (s.modHead u fun h =>
      { h with state := .up, stage := none, timer := none, latched := none, pendingLower := false }).Lowerless u :=
    ⟨(h.but u).settle _ (.of_not rfl), by rw [State.modHead_heads, Four.get_set]⟩
  unfold enterUp
  dsimp only
  repeat' split
  exacts [(hup.after_takeLower _).1, hup.1, hup.1]

theorem after_judgeRaising (h : s.LowersPendRaising) (u : UnitId) : (judgeRaising u s).LowersPendRaising := by
  unfold judgeRaising
  repeat' split
  exacts [h.after_enterUp u, h, h]

theorem after_enterRaising {u : UnitId} (h : s.LowersBut u) : (enterRaising u s).LowersPendRaising := by
  unfold enterRaising
  exact after_judgeRaising (h.settle _ fun _ => ⟨rfl, .inl rfl⟩) u

theorem after_markFaulted {u : UnitId} (h : s.LowersBut u) : (markFaulted u s).LowersPendRaising := by
  unfold markFaulted
  exact of_heads (h.settle _ (.of_not rfl)) (setFlag_heads _ _)

theorem after_loseDepth (h : s.LowersPendRaising) (u : UnitId) : (loseDepth u s).LowersPendRaising := by
  have hblind : (markFaulted u (enterBlind u s)).LowersPendRaising := after_markFaulted ((h.but u).on_modHead _)
  have hfaulted : (markFaulted u (enterFaulted u s)).LowersPendRaising := after_markFaulted ((h.but u).on_modHead _)
  unfold loseDepth
  dsimp only
  repeat' split
  exacts [after_markFaulted (h.but u), hfaulted, h, hblind, h, hblind, hblind, hblind, hblind, hblind]

theorem after_changeDepth (h : s.LowersPendRaising) (u : UnitId) : (changeDepth u s).LowersPendRaising := by
  have hdeepened : (deepen u s).LowersPendRaising := by
    unfold deepen
    split
    · refine (h.but u).settle _ ?_
      have := h u
      split <;> exact this
    · exact h
  unfold changeDepth
  dsimp only
  split
  · next hstate => exact (hdeepened.lowerless (by rw [hstate]; decide)).after_judgeLowering.1
  · exact hdeepened.after_judgeRaising u
  · exact hdeepened.after_judgeRaising u
  · exact hdeepened

theorem after_arrivalOrder (h : s.LowersPendRaising) (u : UnitId) (plan : Option HeadPlan) :
    (arrivalOrder u plan s).LowersPendRaising := by
  have hcleared : (s.modHead u fun h => { h with report := .cleared, pendingLower := false, plan := plan }).Lowerless u :=
    ⟨(h.but u).settle _ (.of_not rfl), by rw [State.modHead_heads, Four.get_set]⟩
  unfold arrivalOrder
  dsimp only
  split
  · exact hcleared.1
  · split
    · split
      · exact (hcleared.after_takeLower _).1
      · exact after_markFaulted ((hcleared.1.but u).on_modHead _)
    · next hstate hstage =>
      refine (hcleared.1.but u).settle _ fun _ => ?_
      rw [State.modHead_heads, Four.get_set]
      exact ⟨hstate, .inl hstage⟩
    · exact hcleared.1

theorem after_abortHead (h : s.LowersPendRaising) (u : UnitId) : (abortHead u s).LowersPendRaising := by
  have hmarked : (s.modHead u fun h => { h with abort := true }).LowersPendRaising := (h.but u).settle _ (h u)
  unfold abortHead
  split
  · exact after_enterRaising (h.but u)
  · exact after_enterRaising (h.but u)
  · next hstate =>
    exact ((h.lowerless (by rw [hstate]; decide)).on_modHead (fun h => { h with abort := true })
      rfl).after_enterOpening.1
  · exact hmarked
  · exact hmarked
  · exact (h.but u).settle _ (.of_not rfl)
  all_goals exact h

theorem after_haltOrders (h : s.LowersPendRaising) : (haltOrders s).LowersPendRaising := by
  have hridden : (rideDrive s).LowersPendRaising := h.of_heads ((refreshDemand_heads _).trans rfl)
  have haborted : (abortHeads (rideDrive s)).LowersPendRaising := by
    unfold abortHeads
    exact List.foldlRecOn (motive := State.LowersPendRaising) allUnits _ hridden fun _ ht u _ => ht.after_abortHead u
  exact haborted.of_heads (releaseAxes_heads _)

theorem after_blockHead (h : s.LowersPendRaising) (u : UnitId) : (blockHead u s).LowersPendRaising :=
  of_heads (after_enterRaising ((h.but u).on_modHead fun h => { h with report := { h.report with blocked := true } }))
    (recordFlag_heads _ _)

theorem after_endTilt (h : s.LowersPendRaising) (u : UnitId) (hu : (s.heads.get u).state = .tilting) :
    (endTilt u s).LowersPendRaising := by
  have hnone := h.lowerless (u := u) (by rw [hu]; decide)
  unfold endTilt
  split
  exacts [(hnone.on_modHead (fun h => { h with abort := false }) rfl).1.after_enterUp u, hnone.after_enterLowering.1]

theorem after_endOpening (h : s.LowersPendRaising) (u : UnitId) (hu : (s.heads.get u).state = .opening) :
    (endOpening u s).LowersPendRaising := by
  have hnone := h.lowerless (u := u) (by rw [hu]; decide)
  have hcleared := (h.but u).on_modHead fun h => { h with abort := false }
  unfold endOpening
  dsimp only
  repeat' split
  all_goals first
    | exact after_enterRaising hcleared
    | exact hnone.after_enterInserted.1
    | exact after_enterRaising (h.but u)

theorem after_restoreHead (h : s.LowersPendRaising) (u : UnitId) : (restoreHead u s).LowersPendRaising := by
  unfold restoreHead
  split
  · next hu => exact ((h.lowerless (by rw [hu]; decide)).on_modHead _ rfl).1
  · exact h

theorem after_enterFaulted (h : s.LowersPendRaising) (u : UnitId)
    (hu : (s.heads.get u).state = .raising ∧ (s.heads.get u).stage = some .blind ∨ (s.heads.get u).state = .parking) :
    (enterFaulted u s).LowersPendRaising := by
  have hnone : (s.heads.get u).pendingLower = false := by
    refine Bool.not_eq_true _ ▸ fun hp => ?_
    obtain ⟨hraising, hstage⟩ := h u hp
    rcases hu with ⟨-, hblind⟩ | hparking
    · rw [hblind] at hstage
      rcases hstage with hstage | hstage <;> cases hstage
    · rw [hparking] at hraising
      cases hraising
  exact (State.Lowerless.on_modHead ⟨h, hnone⟩ _ rfl).1

end State.LowersPendRaising

/-- Every operation keeps that a lower is pending only in a unit that is RAISING. -/
theorem upheld_lowersPendRaising : Upheld (fun _ => True) State.LowersPendRaising State.LowersPendRaising where
  weaken := id
  of_watched h ht := h.of_heads (heads_of_watched ht)
  on_clock _ _ h := h
  on_count _ h := h
  on_position _ h := h
  on_setFlag f h := h.of_heads (setFlag_heads f _)
  on_refreshOutput h := h
  on_rideDrive h := h.of_heads ((refreshDemand_heads _).trans rfl)
  on_haltOrders h := h.after_haltOrders
  on_prepareAxis _ h := h
  on_startAxis _ _ h := h.of_heads (startAxis_heads _ _ _)
  on_judgeAxis _ h := h.of_heads (judgeAxis_heads _ _)
  on_enterHold _ _ h := h.of_heads (enterHold_heads _ _ _)
  on_releaseAxis _ h := h.of_heads (releaseAxis_heads _ _)
  on_settleReleases h := h.of_heads (settleReleases_heads _)
  on_judgeGate u h := h.after_judgeGate u
  on_arrivalOrder u plan h := h.after_arrivalOrder u plan
  on_loseDepth u h := h.after_loseDepth u
  on_restoreHead u h := h.after_restoreHead u
  on_changeDepth u h := h.after_changeDepth u
  on_changeDepth_same u _ h := h.after_changeDepth u
  on_seePressure u h := h.after_seePressure u
  on_seePressure_same u _ h := h.after_seePressure u
  on_endTilt u hu h := h.after_endTilt u hu
  on_blockHead u _ h := h.after_blockHead u
  on_endPhase u hu h := (h.lowerless (by rw [hu]; decide)).after_endPhase.1
  on_endOpening u hu h := h.after_endOpening u hu
  on_enterUp u h := h.after_enterUp u
  on_enterStuck u hu _ h := (h.but u).settle _ fun _ => ⟨hu, .inr rfl⟩
  on_enterFaulted u hu h := h.after_enterFaulted u hu
  on_appendRecord _ _ _ _ _ _ _ h := h
  on_depart h := h
  on_clearRecords h := h
  on_clearHighWater _ h := h
  on_put _ h := h
  on_headSet _ h := h
  on_enables _ h := h
  on_clearFlags set _ h := h.of_heads (takeClearFlags_plant set _).2.1
  on_store _ _ h := h
  on_port _ _ _ h := h
  on_markNext _ _ _ _ h := h
  on_push _ _ _ _ _ h := h
  on_overflow _ _ _ h := h
  on_fullSent h := h
  on_replySent h := h
  on_losePower h := h.of_heads (losePower_plant _).2.1
  admitted _ _ _ := trivial

/-- Every unit is PARKING after a reset, with no lower pending. -/
theorem resetWith_parking (cause : ResetCause) (s : State) (u : UnitId) :
    ((resetWith cause s).heads.get u).state = .parking ∧ ((resetWith cause s).heads.get u).pendingLower = false := by
  cases u <;> exact ⟨rfl, rfl⟩

/-- Settles O6: a unit squeezes through the open gate alone, and no release is taken while one does; a lower is
made pending in RAISING alone and dropped wherever that is left. -/
theorem squeezeNeedsHold : Obligations.SqueezeNeedsHold := by
  refine fun s t ht => ⟨fun h => ?_, fun h => ?_⟩
  · refine upheld_squeezesHeld.on_step upheld_squeezesHeld (fun _ => trivial) (fun _ _ h => h) (fun cause x _ => ?_) ht h
    exact State.SqueezesHeld.of_none fun u => by rw [(resetWith_parking cause x u).1]; decide
  · refine upheld_lowersPendRaising.on_step upheld_lowersPendRaising (fun _ => trivial) (fun _ _ h => h)
      (fun cause x _ => ?_) ht h
    exact fun u => Head.LowerSound.of_not (resetWith_parking cause x u).2

end Sys2Proof.Machine
end

section
/-! #### Fast satellite speeds only while every unit is clear (R24) -/

namespace Sys2Proof.Machine

/-- A unit that is clear of the ballast for fast speeds. -/
theorem permitsFast_iff (h : HeadState) :
    permitsFast h = true ↔ h = .up ∨ h = .tilting ∨ h = .parking ∨ h = .faulted := by
  cases h <;> simp [permitsFast]

theorem allPermitFast_iff (s : State) : allPermitFast s = true ↔ ∀ u, permitsFast (s.heads.get u).state = true := by
  simp only [allPermitFast, List.all_eq_true]
  exact ⟨fun h u => h u (by cases u <;> simp [allUnits]), fun h u _ => h u⟩

namespace State.FastIsClear

variable {s t : State}

theorem of_plant (h : s.FastIsClear) (ho : t.pos.output = s.pos.output) (hh : t.heads = s.heads) : t.FastIsClear := by
  unfold State.FastIsClear at h ⊢
  rwa [ho, hh]

theorem of_stop (h : s.pos.output = .stop) : s.FastIsClear := fun hfast => by
  rw [h] at hfast
  rcases hfast with hfast | hfast <;> cases hfast

/-- What moves no unit between the states, and leaves the position unit alone. -/
theorem of_states (h : s.FastIsClear) (ho : t.pos.output = s.pos.output)
    (hstate : ∀ u, (t.heads.get u).state = (s.heads.get u).state) : t.FastIsClear := by
  intro hfast u
  rw [ho] at hfast
  rw [hstate u]
  exact h hfast u

end State.FastIsClear

theorem slowed_not_fast (c : DriveCommand) : slowed c ≠ .fwdFast ∧ slowed c ≠ .backFast := by
  cases c <;> exact ⟨by decide, by decide⟩

/-- The stroke limit lets a fast command through only where one was meant. -/
theorem of_strokeLimited_fast {stroke o : Int} {c : DriveCommand}
    (h : strokeLimited stroke o c = .fwdFast ∨ strokeLimited stroke o c = .backFast) :
    c = .fwdFast ∨ c = .backFast := by
  cases c
  case stop => simp [strokeLimited] at h
  case fwdFast => exact .inl rfl
  case backFast => exact .inr rfl
  all_goals
    unfold strokeLimited at h
    dsimp only at h
    split at h <;> simp at h

theorem holdingCommand_not_fast (w h t : Int) : holdingCommand w h t ≠ .fwdFast ∧ holdingCommand w h t ≠ .backFast := by
  unfold holdingCommand
  repeat' split
  all_goals exact ⟨by decide, by decide⟩

/-- The drive gives a fast command only where every unit permits it (R24). -/
theorem driveCommand_fast (s : State) (h : driveCommand s = .fwdFast ∨ driveCommand s = .backFast) :
    allPermitFast s = true := by
  by_contra hpermit
  unfold driveCommand at h
  split at h
  · next t head o _ _ _ _ =>
    obtain ⟨hfwd, hback⟩ := slowed_not_fast (indexingCommand s.params.p13 head t)
    dsimp only at h
    rw [if_neg hpermit] at h
    exact (of_strokeLimited_fast h).elim hfwd hback
  · next t head o _ _ _ _ =>
    obtain ⟨hfwd, hback⟩ := holdingCommand_not_fast s.params.p12 head t
    exact (of_strokeLimited_fast h).elim hfwd hback
  · rcases h with h | h <;> cases h

theorem refreshOutput_fastIsClear (s : State) : (refreshOutput s).FastIsClear := fun hfast u =>
  (permitsFast_iff _).mp ((allPermitFast_iff s).mp (driveCommand_fast s hfast) u)

theorem rideDrive_output (s : State) : (rideDrive s).pos.output = .stop := (refreshDemand_output _).trans rfl

theorem haltOrders_output (s : State) : (haltOrders s).pos.output = .stop := by
  rw [haltOrders, releaseAxes_pos, pos_of_aside (abortHeads_aside _)]
  exact rideDrive_output s

end Sys2Proof.Machine
end


section
/-! #### An operation of one unit leaves the others alone -/

namespace Sys2Proof.Machine

theorem setFlag_head (f : Flag) (s : State) (v : UnitId) : (setFlag f s).heads.get v = s.heads.get v :=
  congrArg (Four.get · v) (setFlag_heads f s)

theorem recordFlag_head (f : Flag) (s : State) (v : UnitId) : (recordFlag f s).heads.get v = s.heads.get v :=
  congrArg (Four.get · v) (recordFlag_heads f s)

section others
variable {u v : UnitId} (hv : v ≠ u)
include hv

theorem modHead_other (f : Head → Head) (s : State) : (s.modHead u f).heads.get v = s.heads.get v :=
  Four.get_set_ne _ _ hv

theorem enterOpening_other (s : State) : (enterOpening u s).heads.get v = s.heads.get v := modHead_other hv _ _

theorem endPhase_other (s : State) : (endPhase u s).heads.get v = s.heads.get v := by
  have hopened := (enterOpening_other hv (s.modHead u fun h =>
    { h with report := { h.report with insertions := h.report.insertions + 1 } })).trans (modHead_other hv _ _)
  unfold endPhase
  dsimp only
  split
  exacts [hopened, (congrArg (Four.get · v) (recordFlag_heads _ _)).trans hopened]

theorem seePressure_other (s : State) : (seePressure u s).heads.get v = s.heads.get v := by
  unfold seePressure
  dsimp only
  repeat' split
  exacts [(endPhase_other hv _).trans (modHead_other hv _ _), modHead_other hv _ _, rfl]

theorem enterSqueezing_other (s : State) : (enterSqueezing u s).heads.get v = s.heads.get v := by
  unfold enterSqueezing
  dsimp only
  split
  exacts [(seePressure_other hv _).trans (modHead_other hv _ _), modHead_other hv _ _]

theorem judgeGate_other (s : State) : (judgeGate u s).heads.get v = s.heads.get v := by
  unfold judgeGate
  split
  exacts [enterSqueezing_other hv _, rfl]

theorem enterInserted_other (s : State) : (enterInserted u s).heads.get v = s.heads.get v :=
  (judgeGate_other hv _).trans (modHead_other hv _ _)

theorem judgeLowering_other (s : State) : (judgeLowering u s).heads.get v = s.heads.get v := by
  unfold judgeLowering
  repeat' split
  exacts [enterInserted_other hv _, rfl, rfl]

theorem enterLowering_other (s : State) : (enterLowering u s).heads.get v = s.heads.get v :=
  (judgeLowering_other hv _).trans (modHead_other hv _ _)

theorem takeLower_other (p : HeadPlan) (s : State) : (takeLower u p s).heads.get v = s.heads.get v := by
  unfold takeLower
  dsimp only
  split
  exacts [(enterLowering_other hv _).trans (modHead_other hv _ _), (modHead_other hv _ _).trans (modHead_other hv _ _)]

theorem enterUp_other (s : State) : (enterUp u s).heads.get v = s.heads.get v := by
  unfold enterUp
  dsimp only
  repeat' split
  exacts [(takeLower_other hv _ _).trans (modHead_other hv _ _), modHead_other hv _ _, modHead_other hv _ _]

theorem judgeRaising_other (s : State) : (judgeRaising u s).heads.get v = s.heads.get v := by
  unfold judgeRaising
  repeat' split
  exacts [enterUp_other hv _, rfl, rfl]

theorem enterRaising_other (s : State) : (enterRaising u s).heads.get v = s.heads.get v :=
  (judgeRaising_other hv _).trans (modHead_other hv _ _)

theorem deepen_other (s : State) : (deepen u s).heads.get v = s.heads.get v := by
  unfold deepen
  split
  exacts [modHead_other hv _ _, rfl]

theorem changeDepth_other (s : State) : (changeDepth u s).heads.get v = s.heads.get v := by
  unfold changeDepth
  dsimp only
  repeat' split
  exacts [(judgeLowering_other hv _).trans (deepen_other hv _), (judgeRaising_other hv _).trans (deepen_other hv _),
    (judgeRaising_other hv _).trans (deepen_other hv _), deepen_other hv _]

theorem markFaulted_other (s : State) : (markFaulted u s).heads.get v = s.heads.get v :=
  (congrArg (Four.get · v) (setFlag_heads _ _)).trans (modHead_other hv _ _)

theorem loseDepth_other (s : State) : (loseDepth u s).heads.get v = s.heads.get v := by
  have hblind := (markFaulted_other hv (enterBlind u s)).trans (modHead_other hv _ _)
  have hfaulted := (markFaulted_other hv (enterFaulted u s)).trans (modHead_other hv _ _)
  unfold loseDepth
  dsimp only
  repeat' split
  exacts [markFaulted_other hv _, hfaulted, rfl, hblind, rfl, hblind, hblind, hblind, hblind, hblind]

theorem arrivalOrder_other (plan : Option HeadPlan) (s : State) :
    (arrivalOrder u plan s).heads.get v = s.heads.get v := by
  have hcleared := modHead_other hv (fun h => { h with report := .cleared, pendingLower := false, plan := plan }) s
  unfold arrivalOrder
  dsimp only
  repeat' split
  exacts [hcleared, (takeLower_other hv _ _).trans hcleared,
    (markFaulted_other hv _).trans ((modHead_other hv _ _).trans hcleared), (modHead_other hv _ _).trans hcleared,
    hcleared]

theorem abortHead_other (s : State) : (abortHead u s).heads.get v = s.heads.get v := by
  unfold abortHead
  split
  all_goals first
    | rfl
    | exact enterRaising_other hv _
    | exact modHead_other hv _ _
    | exact (modHead_other hv _ _).trans (modHead_other hv _ _)

theorem endTilt_other (s : State) : (endTilt u s).heads.get v = s.heads.get v := by
  unfold endTilt
  split
  exacts [(enterUp_other hv _).trans (modHead_other hv _ _), enterLowering_other hv _]

theorem blockHead_other (s : State) : (blockHead u s).heads.get v = s.heads.get v :=
  (congrArg (Four.get · v) (recordFlag_heads _ _)).trans ((enterRaising_other hv _).trans (modHead_other hv _ _))

theorem endOpening_other (s : State) : (endOpening u s).heads.get v = s.heads.get v := by
  unfold endOpening
  dsimp only
  repeat' split
  all_goals first
    | exact (enterRaising_other hv _).trans (modHead_other hv _ _)
    | exact enterInserted_other hv _
    | exact enterRaising_other hv _

theorem restoreHead_other (s : State) : (restoreHead u s).heads.get v = s.heads.get v := by
  unfold restoreHead
  split
  exacts [modHead_other hv _ _, rfl]

end others

end Sys2Proof.Machine
end

section
/-! #### Fast satellite speeds, kept -/

namespace Sys2Proof.Machine

/-- A unit that leaves INSERTED was no reason to be fast before. -/
theorem State.FastIsClear.after_judgeGate {s : State} (h : s.FastIsClear) (u : UnitId) :
    (judgeGate u s).FastIsClear := by
  by_cases hinserted : (s.heads.get u).state = .inserted
  · intro hfast
    rw [pos_of_aside (judgeGate_aside u s)] at hfast
    have := h hfast u
    rw [hinserted] at this
    rcases this with this | this | this | this <;> cases this
  · rw [judgeGate, if_neg fun h' => hinserted h'.1]
    exact h

/-- An event at a unit that leaves its state, and the others, as they were. -/
theorem State.FastIsClear.of_same {s t : State} (h : s.FastIsClear) (u : UnitId) (ha : t.aside = s.aside)
    (hu : (t.heads.get u).state = (s.heads.get u).state) (hv : ∀ v, v ≠ u → t.heads.get v = s.heads.get v) :
    t.FastIsClear := by
  refine h.of_states (congrArg Position.output (pos_of_aside ha)) fun v => ?_
  by_cases hvu : v = u
  · exact hvu ▸ hu
  · rw [hv v hvu]

/-- Every operation keeps that the drive is fast only while every unit is clear: an event at a unit may break it, and
the drive's output, determined anew, restores it. -/
theorem upheld_fastIsClear : Upheld (fun _ => True) (fun _ => True) State.FastIsClear where
  weaken _ := trivial
  of_watched h ht := h.of_plant (output_of_watched ht) (heads_of_watched ht)
  on_clock _ _ h := h
  on_count _ h := h
  on_position ho h := h.of_plant ho rfl
  on_setFlag f h := h.of_plant (congrArg Position.output (setFlag_pos f _)) (setFlag_heads f _)
  on_refreshOutput _ := refreshOutput_fastIsClear _
  on_rideDrive _ := .of_stop (rideDrive_output _)
  on_haltOrders _ := .of_stop (haltOrders_output _)
  on_prepareAxis _ h := h
  on_startAxis _ _ h := h.of_plant (congrArg Position.output (startAxis_pos _ _ _)) (startAxis_heads _ _ _)
  on_judgeAxis _ h := h.of_plant (congrArg Position.output (judgeAxis_pos _ _)) (judgeAxis_heads _ _)
  on_enterHold _ _ h := h.of_plant (congrArg Position.output (enterHold_pos _ _ _)) (enterHold_heads _ _ _)
  on_releaseAxis _ h := h.of_plant (congrArg Position.output (releaseAxis_pos _ _)) (releaseAxis_heads _ _)
  on_settleReleases h := h.of_plant (congrArg Position.output (settleReleases_pos _)) (settleReleases_heads _)
  on_judgeGate u h := h.after_judgeGate u
  on_arrivalOrder _ _ _ := trivial
  on_loseDepth _ _ := trivial
  on_restoreHead _ _ := trivial
  on_changeDepth _ _ := trivial
  on_changeDepth_same u hu h := h.of_same u (changeDepth_aside u _) hu fun _ hv => changeDepth_other hv _
  on_seePressure _ _ := trivial
  on_seePressure_same u hu h := h.of_same u (seePressure_aside u _) hu fun _ hv => seePressure_other hv _
  on_endTilt _ _ _ := trivial
  on_blockHead _ _ _ := trivial
  on_endPhase _ _ _ := trivial
  on_endOpening _ _ _ := trivial
  on_enterUp _ _ := trivial
  on_enterStuck _ _ _ _ := trivial
  on_enterFaulted _ _ _ := trivial
  on_appendRecord _ _ _ _ _ _ _ h := h
  on_depart h := h
  on_clearRecords h := h
  on_clearHighWater _ h := h
  on_put _ h := h
  on_headSet _ h := h
  on_enables _ h := h
  on_clearFlags set _ h :=
    h.of_plant (congrArg Position.output (takeClearFlags_plant set _).2.2) (takeClearFlags_plant set _).2.1
  on_store _ _ h := h
  on_port _ _ _ h := h
  on_markNext _ _ _ _ h := h
  on_push _ _ _ _ _ h := h
  on_overflow _ _ _ h := h
  on_fullSent h := h
  on_replySent h := h
  on_losePower h := h.of_plant (congrArg Position.output (losePower_plant _).2.2) (losePower_plant _).2.1
  admitted _ _ _ := trivial

/-- Settles O7: wherever a unit's state may have changed the drive's output is determined anew. -/
theorem fastNeedsClearHeads : Obligations.FastNeedsClearHeads := by
  have hany : Upheld (fun _ => True) (fun _ => True) (fun _ => True) := by constructor <;> intros <;> trivial
  exact fun _ _ h ht => hany.on_step upheld_fastIsClear (fun _ => trivial) (fun _ _ h => h)
    (fun _ _ _ => .of_stop rfl) ht h

end Sys2Proof.Machine
end


section
/-! ### What an operation of the axes or of a unit can do at all -/

namespace Sys2Proof.Machine

/-- A state reached from another by changes of the axes and the units, and by flags raised. -/
inductive Acted : State → State → Prop where
  | refl (s : State) : Acted s s
  | axis {s t : State} (a : AxisId) (f : Axis → Axis) : Acted s t → Acted s (t.modAxis a f)
  | head {s t : State} (u : UnitId) (f : Head → Head) : Acted s t → Acted s (t.modHead u f)
  | flag {s t : State} (f : Flag) : Acted s t → Acted s (setFlag f t)
  | record {s t : State} (f : Flag) : Acted s t → Acted s (recordFlag f t)

namespace Acted

variable {s t : State}

theorem trans {r : State} (hrs : Acted r s) (h : Acted s t) : Acted r t := by
  induction h with
  | refl => exact hrs
  | axis a f _ ih => exact ih.axis a f
  | head u f _ ih => exact ih.head u f
  | flag f _ ih => exact ih.flag f
  | record f _ ih => exact ih.record f

theorem foldl {α : Type} {f : State → α → State} (h : ∀ s x, Acted s (f s x)) (l : List α) (s : State) :
    Acted s (l.foldl f s) :=
  List.foldlRecOn (motive := Acted s) l f (refl s) fun t ht x _ => ht.trans (h t x)

/-! #### The axes -/

theorem measureOvershoot (a : AxisId) (s : State) : Acted s (measureOvershoot a s) := by
  have hmeasured (x : Option Int) : Acted s (s.modAxis a fun y => { y with overshoot := x }) := (refl s).axis a _
  unfold Machine.measureOvershoot
  split
  · exact refl s
  · split
    · exact hmeasured _
    · dsimp only
      split
      exacts [(hmeasured _).record _, hmeasured _]

theorem enterHold (a : AxisId) (o : AxisOutcome) (s : State) : Acted s (enterHold a o s) :=
  ((refl s).axis a _).trans (measureOvershoot a _)

theorem startAxis (a : AxisId) (vt : Int) (s : State) : Acted s (startAxis a vt s) := by
  have hbegun := (refl s).axis a fun x => { x with started := true, target := some vt, latched := some (axisLatch a s.params) }
  unfold Machine.startAxis
  dsimp only
  repeat' split
  exacts [hbegun.trans (enterHold _ _ _), hbegun.trans (enterHold _ _ _), hbegun.axis _ _, hbegun.axis _ _, refl s]

theorem judgeReversal (a : AxisId) (d : LineDir) (s : State) : Acted s (judgeReversal a d s) := by
  unfold Machine.judgeReversal
  dsimp only
  repeat' split
  all_goals first | exact (refl s).axis a _ | exact (enterHold _ _ _).record _

theorem judgeAxis (a : AxisId) (s : State) : Acted s (judgeAxis a s) := by
  unfold Machine.judgeAxis
  dsimp only
  repeat' split
  all_goals first | exact refl s | exact judgeReversal _ _ _ | exact (refl s).axis _ _

theorem takeRelease (a : AxisId) (s : State) : Acted s (takeRelease a s) := by
  unfold Machine.takeRelease finishRelease
  split
  exacts [(((refl s).axis a _).trans (measureOvershoot _ _)).axis _ _, (refl s).axis _ _, (refl s).axis _ _]

theorem releaseAxis (a : AxisId) (s : State) : Acted s (releaseAxis a s) := by
  unfold Machine.releaseAxis
  split
  exacts [(refl s).axis _ _, takeRelease _ _]

theorem releaseAxes (s : State) : Acted s (releaseAxes s) := foldl (fun s a => releaseAxis a s) allAxes s

theorem settleReleases (s : State) : Acted s (settleReleases s) := by
  unfold Machine.settleReleases
  split
  exacts [refl s, foldl (fun s a => by split; exacts [takeRelease _ _, refl s]) allAxes s]

/-! #### The units -/

theorem endPhase (u : UnitId) (s : State) : Acted s (endPhase u s) := by
  have hopened : Acted s (enterOpening u
      (s.modHead u fun h => { h with report := { h.report with insertions := h.report.insertions + 1 } })) :=
    ((refl s).head u _).head u _
  unfold Machine.endPhase
  dsimp only
  split
  exacts [hopened, hopened.record _]

theorem seePressure (u : UnitId) (s : State) : Acted s (seePressure u s) := by
  unfold Machine.seePressure
  dsimp only
  repeat' split
  exacts [((refl s).head u _).trans (endPhase _ _), (refl s).head u _, refl s]

theorem judgeGate (u : UnitId) (s : State) : Acted s (judgeGate u s) := by
  unfold Machine.judgeGate enterSqueezing
  dsimp only
  repeat' split
  exacts [((refl s).head u _).trans (seePressure _ _), (refl s).head u _, refl s]

theorem openGate (s : State) : Acted s (openGate s) := foldl (fun s u => judgeGate u s) allUnits s

theorem enterInserted (u : UnitId) (s : State) : Acted s (enterInserted u s) :=
  ((refl s).head u _).trans (judgeGate _ _)

theorem judgeLowering (u : UnitId) (s : State) : Acted s (judgeLowering u s) := by
  unfold Machine.judgeLowering
  repeat' split
  exacts [enterInserted _ _, refl s, refl s]

theorem enterLowering (u : UnitId) (s : State) : Acted s (enterLowering u s) :=
  ((refl s).head u _).trans (judgeLowering _ _)

theorem takeLower (u : UnitId) (p : HeadPlan) (s : State) : Acted s (takeLower u p s) := by
  unfold Machine.takeLower enterTilting
  dsimp only
  split
  exacts [((refl s).head u _).trans (enterLowering _ _), ((refl s).head u _).head u _]

theorem enterUp (u : UnitId) (s : State) : Acted s (enterUp u s) := by
  unfold Machine.enterUp
  dsimp only
  repeat' split
  exacts [((refl s).head u _).trans (takeLower _ _ _), (refl s).head u _, (refl s).head u _]

theorem judgeRaising (u : UnitId) (s : State) : Acted s (judgeRaising u s) := by
  unfold Machine.judgeRaising
  repeat' split
  exacts [enterUp _ _, refl s, refl s]

theorem enterRaising (u : UnitId) (s : State) : Acted s (enterRaising u s) :=
  ((refl s).head u _).trans (judgeRaising _ _)

theorem markFaulted (u : UnitId) (s : State) : Acted s (markFaulted u s) := ((refl s).head u _).flag _

theorem loseDepth (u : UnitId) (s : State) : Acted s (loseDepth u s) := by
  have hmoved (f : Head → Head) : Acted s (Machine.markFaulted u (s.modHead u f)) :=
    ((refl s).head u f).trans (markFaulted _ _)
  unfold Machine.loseDepth
  dsimp only
  repeat' split
  exacts [markFaulted _ _, hmoved _, refl s, hmoved _, refl s, hmoved _, hmoved _, hmoved _, hmoved _, hmoved _]

theorem changeDepth (u : UnitId) (s : State) : Acted s (changeDepth u s) := by
  have hdeepened : Acted s (deepen u s) := by
    unfold deepen
    split
    exacts [(refl s).head _ _, refl s]
  unfold Machine.changeDepth
  dsimp only
  repeat' split
  exacts [hdeepened.trans (judgeLowering _ _), hdeepened.trans (judgeRaising _ _), hdeepened.trans (judgeRaising _ _),
    hdeepened]

theorem arrivalOrder (u : UnitId) (plan : Option HeadPlan) (s : State) : Acted s (arrivalOrder u plan s) := by
  have hcleared := (refl s).head u fun h => { h with report := .cleared, pendingLower := false, plan := plan }
  unfold Machine.arrivalOrder
  dsimp only
  repeat' split
  exacts [hcleared, hcleared.trans (takeLower _ _ _), (hcleared.head u _).trans (markFaulted _ _), hcleared.head _ _,
    hcleared]

theorem abortHead (u : UnitId) (s : State) : Acted s (abortHead u s) := by
  unfold Machine.abortHead enterOpening
  split
  exacts [enterRaising _ _, enterRaising _ _, ((refl s).head u _).head u _, (refl s).head u _, (refl s).head u _,
    (refl s).head u _, refl s, refl s, refl s]

theorem abortHeads (s : State) : Acted s (abortHeads s) := foldl (fun s u => abortHead u s) allUnits s

theorem endTilt (u : UnitId) (s : State) : Acted s (endTilt u s) := by
  unfold Machine.endTilt
  split
  exacts [((refl s).head u _).trans (enterUp _ _), enterLowering _ _]

theorem blockHead (u : UnitId) (s : State) : Acted s (blockHead u s) :=
  (((refl s).head u _).trans (enterRaising _ _)).record _

theorem endOpening (u : UnitId) (s : State) : Acted s (endOpening u s) := by
  unfold Machine.endOpening
  dsimp only
  repeat' split
  all_goals first
    | exact ((refl s).head u _).trans (enterRaising _ _)
    | exact enterInserted _ _
    | exact enterRaising _ _

theorem restoreHead (u : UnitId) (s : State) : Acted s (restoreHead u s) := by
  unfold Machine.restoreHead
  split
  exacts [(refl s).head u _, refl s]

/-! #### What it cannot do -/

/-- Any part of the state that lies aside of the axes, the units, the flags and the sleeper records. -/
theorem same {β : Type} (part : State → β) (hax : ∀ s a f, part (State.modAxis s a f) = part s)
    (hhd : ∀ s u f, part (State.modHead s u f) = part s) (hset : ∀ s f, part (setFlag f s) = part s)
    (hrec : ∀ s f, part (addRecordFlag f s) = part s) (h : Acted s t) : part t = part s := by
  induction h with
  | refl => rfl
  | axis a f _ ih => exact (hax _ a f).trans ih
  | head u f _ ih => exact (hhd _ u f).trans ih
  | flag f _ ih => exact (hset _ f).trans ih
  | record f _ ih => exact ((hset _ f).trans (hrec _ f)).trans ih

end Acted

/-- What lies aside of the axes, the units, the flags and the sleeper records: the segment queue, the engine, the
cycle controller, the position unit, and the two notice slots that no flag fills. -/
structure Beyond where
  seg : SegmentQueue
  pos : Position
  eng : Engine
  cyc : Cycle
  freeNext : Nat
  modeSlot : Option (Slot ModeNotice)
  segSlot : Option (Slot SegmentsNotice)

/-- That part of a state. -/
def State.beyond (s : State) : Beyond := ⟨s.seg, s.pos, s.eng, s.cyc, s.freeNext, s.link.modeSlot, s.link.segSlot⟩

theorem setFlag_beyond (f : Flag) (s : State) : (setFlag f s).beyond = s.beyond := by
  obtain ⟨_, _, h⟩ := setFlag_eq f s
  rw [h]
  rfl

namespace Acted
variable {s t : State}

theorem beyond (h : Acted s t) : t.beyond = s.beyond :=
  h.same State.beyond (fun _ _ _ => rfl) (fun _ _ _ => rfl) (fun s f => setFlag_beyond f s) (fun _ _ => rfl)

theorem kept (h : Acted s t) : t.kept = s.kept :=
  h.same State.kept (fun _ _ _ => rfl) (fun _ _ _ => rfl) (fun s f => setFlag_kept f s)
    (fun s f => addRecordFlag_kept f s)

theorem cyc (h : Acted s t) : t.cyc = s.cyc := congrArg Beyond.cyc h.beyond

theorem pos (h : Acted s t) : t.pos = s.pos := congrArg Beyond.pos h.beyond

theorem seg (h : Acted s t) : t.seg = s.seg := congrArg Beyond.seg h.beyond

theorem eng (h : Acted s t) : t.eng = s.eng := congrArg Beyond.eng h.beyond

end Acted

end Sys2Proof.Machine
end

section
/-! ### The condition flags -/

namespace Sys2Proof.Machine

theorem flagIn_flagAdd (f g : Flag) (x : FlagSet) : flagIn g (flagAdd f x) = (decide (g = f) || flagIn g x) := by
  have hlt (f : Flag) : f.number - 1 < 20 := by cases f <;> decide
  have hinj : (f.number - 1 = g.number - 1) = (g = f) := by cases f <;> cases g <;> decide
  rw [flagIn, flagAdd, BitVec.getLsbD_or, BitVec.getLsbD_twoPow, Bool.or_comm, flagIn]
  simp only [hlt, hinj, decide_true, Bool.true_and]

/-- The flags after a raising. -/
theorem setFlag_flags (f : Flag) (s : State) :
    (setFlag f s).cond.flags = if flagIn f s.cond.flags then s.cond.flags else flagAdd f s.cond.flags := by
  have harm (t : State) : (armStop f t).cond.flags = t.cond.flags := by unfold armStop; split <;> rfl
  unfold setFlag
  split
  · rfl
  · dsimp only
    rw [harm]
    split <;> rfl

theorem flagIn_setFlag (f g : Flag) (s : State) :
    flagIn g (setFlag f s).cond.flags = (decide (g = f) || flagIn g s.cond.flags) := by
  rw [setFlag_flags]
  split
  · next h =>
    by_cases hg : g = f
    · subst hg
      simp [h]
    · simp [hg]
  · exact flagIn_flagAdd f g _

/-- A set flag stays set while the axes and the units act. -/
theorem Acted.flagIn {s t : State} (h : Acted s t) {g : Flag} (hg : flagIn g s.cond.flags = true) :
    flagIn g t.cond.flags = true := by
  induction h with
  | refl => exact hg
  | axis _ _ _ ih => exact ih
  | head _ _ _ ih => exact ih
  | flag f _ ih => rw [flagIn_setFlag, ih, Bool.or_true]
  | record f _ ih =>
    exact (flagIn_setFlag f g _).trans (Bool.or_eq_true_iff.mpr (.inr ih))

end Sys2Proof.Machine
end


section
/-! #### A set flag stays set (R159) -/

namespace Sys2Proof.Machine

/-- A request that is no CLEAR_FLAGS. -/
def Request.KeepsFlags (r : Request) : Prop := ∀ set, r ≠ .clearFlags set

/-- A flag is set, and no CLEAR_FLAGS waits to be taken. -/
def State.FlagHeld (f : Flag) (s : State) : Prop :=
  flagIn f s.cond.flags = true ∧ ∀ q ∈ s.link.requests, q.progress ≠ .replied → q.request.KeepsFlags

/-- The marking of a request's progress changes no request, and none that has its reply. -/
theorem mem_markNext {p : Progress} {l : List QueuedRequest} {q : QueuedRequest} (h : q ∈ markNext p l) :
    ∃ q' ∈ l, q.request = q'.request ∧ (q.progress ≠ .replied → q'.progress ≠ .replied) := by
  induction l with
  | nil => exact ⟨q, h, rfl, id⟩
  | cons r rest ih =>
    unfold markNext at h
    split at h
    · rcases List.mem_cons.mp h with rfl | h
      · exact ⟨_, List.mem_cons_self, rfl, id⟩
      · obtain ⟨q', hq', heq⟩ := ih h
        exact ⟨q', List.mem_cons_of_mem _ hq', heq⟩
    · next hr =>
      rcases List.mem_cons.mp h with rfl | h
      · exact ⟨r, List.mem_cons_self, rfl, fun _ => hr⟩
      · exact ⟨q, List.mem_cons_of_mem _ h, rfl, id⟩

namespace State.FlagHeld

variable {f : Flag} {s t : State}

theorem of_eq (h : s.FlagHeld f) (hf : t.cond.flags = s.cond.flags) (hq : t.link.requests = s.link.requests) :
    t.FlagHeld f := by
  unfold State.FlagHeld at h ⊢
  rwa [hf, hq]

theorem after_acted (h : s.FlagHeld f) (ha : Acted s t) : t.FlagHeld f :=
  ⟨ha.flagIn h.1, by rw [requests_of_fixed (Kept.fixed_eq ha.kept)]; exact h.2⟩

theorem after_rideDrive (h : s.FlagHeld f) : (rideDrive s).FlagHeld f := by
  have hstopped : (s.modPos fun p =>
    { p with drive := .riding, target := none, output := .stop, holdLost := false, strokeEnd := false }).FlagHeld f := h
  refine ⟨?_, by rw [requests_of_fixed (Kept.fixed_eq (rideDrive_kept s))]; exact h.2⟩
  unfold rideDrive refreshDemand
  dsimp only
  split
  · rw [flagIn_setFlag, Bool.or_eq_true_iff]
    exact .inr h.1
  · exact h.1

end State.FlagHeld

/-- Every operation keeps a set flag, as long as no CLEAR_FLAGS comes. -/
theorem upheld_flagHeld (f : Flag) : Upheld Request.KeepsFlags (State.FlagHeld f) (State.FlagHeld f) where
  weaken := id
  of_watched h ht := h.of_eq (flags_of_watched ht) (requests_of_fixed (Kept.fixed_eq (kept_of_watched ht)))
  on_clock _ _ h := h
  on_count _ h := h
  on_position _ h := h
  on_setFlag g h := h.after_acted ((Acted.refl _).flag g)
  on_refreshOutput h := h
  on_rideDrive h := h.after_rideDrive
  on_haltOrders h := h.after_rideDrive.after_acted ((Acted.abortHeads _).trans (Acted.releaseAxes _))
  on_prepareAxis _ h := h
  on_startAxis _ _ h := h.after_acted (.startAxis _ _ _)
  on_judgeAxis _ h := h.after_acted (.judgeAxis _ _)
  on_enterHold _ _ h := h.after_acted (.enterHold _ _ _)
  on_releaseAxis _ h := h.after_acted (.releaseAxis _ _)
  on_settleReleases h := h.after_acted (.settleReleases _)
  on_judgeGate _ h := h.after_acted (.judgeGate _ _)
  on_arrivalOrder _ _ h := h.after_acted (.arrivalOrder _ _ _)
  on_loseDepth _ h := h.after_acted (.loseDepth _ _)
  on_restoreHead _ h := h.after_acted (.restoreHead _ _)
  on_changeDepth _ h := h.after_acted (.changeDepth _ _)
  on_changeDepth_same _ _ h := h.after_acted (.changeDepth _ _)
  on_seePressure _ h := h.after_acted (.seePressure _ _)
  on_seePressure_same _ _ h := h.after_acted (.seePressure _ _)
  on_endTilt _ _ h := h.after_acted (.endTilt _ _)
  on_blockHead _ _ h := h.after_acted (.blockHead _ _)
  on_endPhase _ _ h := h.after_acted (.endPhase _ _)
  on_endOpening _ _ h := h.after_acted (.endOpening _ _)
  on_enterUp _ h := h.after_acted (.enterUp _ _)
  on_enterStuck _ _ _ h := h
  on_enterFaulted _ _ h := h
  on_appendRecord _ _ _ _ _ _ _ h := h
  on_depart h := h
  on_clearRecords h := h
  on_clearHighWater _ h := h
  on_put _ h := h
  on_headSet _ h := h
  on_enables hf h := h.of_eq hf rfl
  on_clearFlags set hset _ := absurd rfl (hset set)
  on_store _ _ h := h
  on_port _ hq _ h := h.of_eq rfl hq
  on_markNext p _ hq _ h := by
    refine ⟨h.1, fun q hq' hq'' => ?_⟩
    rw [State.modLink_link, hq] at hq'
    obtain ⟨q', hmem, heq, hwaits⟩ := mem_markNext hq'
    exact heq ▸ h.2 q' hmem (hwaits hq'')
  on_push kind tag r hr _ h := by
    refine ⟨h.1, fun q hq hwaits => ?_⟩
    rcases List.mem_append.mp hq with hq | hq
    · exact h.2 q hq hwaits
    · obtain rfl := List.mem_singleton.mp hq
      exact hr
  on_overflow _ _ _ h := h.of_eq rfl rfl
  on_fullSent h := h.of_eq rfl rfl
  on_replySent h := ⟨h.1, fun q hq => h.2 q (List.mem_of_mem_tail hq)⟩
  on_losePower {s} h := by unfold losePower; split <;> exact ⟨h.1, fun q hq => nomatch hq⟩
  admitted h hq hwaits := h.2 _ hq hwaits

/-- Settles O12: a flag leaves the set at a CLEAR_FLAGS or a reset alone, and neither can come. -/
theorem flagsStaySet : Obligations.FlagsStaySet := by
  intro c s t f hpower hclear hrestart hwaiting hbytes ht hf
  have hup := upheld_flagHeld f
  refine (hup.on_exec hup (fun h => ?_) (.inr hbytes) (fun dt tag r hrow => ?_) ht ⟨hf, fun q hq _ => hwaiting q hq⟩).1
  · rcases h with h | h
    · exact absurd h hpower
    · rw [hrestart] at h
      cases h
  · rintro set rfl
    cases c <;> simp only [requestOf, Option.some.injEq, Prod.mk.injEq, reduceCtorEq, and_false] at hrow
    obtain ⟨rfl, rfl, heq⟩ := hrow
    exact hclear _ _ _ rfl

end Sys2Proof.Machine
end

section
/-! ### The transmit arbitration serves at once (R175, R177) -/

namespace Sys2Proof.Machine

theorem earliest_none {l : List (NoticeKind × Nat)} (h : earliest l = none) : l = [] := by
  cases l with
  | nil => rfl
  | cons x xs =>
    unfold earliest at h
    split at h
    · cases h
    · split at h <;> cases h

/-- The earliest of the pending slots is one of them. -/
theorem earliest_mem {l : List (NoticeKind × Nat)} {x : NoticeKind × Nat} (h : earliest l = some x) : x ∈ l := by
  induction l generalizing x with
  | nil => cases h
  | cons y ys ih =>
    unfold earliest at h
    split at h
    · obtain rfl := Option.some.inj h
      exact List.mem_cons_self
    · next z hz =>
      split at h
      · obtain rfl := Option.some.inj h
        exact List.mem_cons_of_mem _ (ih hz)
      · obtain rfl := Option.some.inj h
        exact List.mem_cons_self

/-- A pending slot's notice is sent. -/
theorem sendNotice_busy {k : NoticeKind} {n : Nat} {s : State} (h : (k, n) ∈ pendingSlots s.link) :
    (sendNotice k s).link.tx ≠ none := by
  have hpending : match k with
      | .mode => s.link.modeSlot ≠ none
      | .condition => s.link.condSlot ≠ none
      | .wanted => s.link.segSlot ≠ none := by
    simp only [pendingSlots, List.mem_append, List.mem_map, Option.mem_toList, Prod.mk.injEq] at h
    rcases h with (⟨x, hx, rfl, -⟩ | ⟨x, hx, rfl, -⟩) | ⟨x, hx, rfl, -⟩
    all_goals simp [hx]
  unfold sendNotice
  cases k <;> dsimp only at hpending ⊢ <;> split
  all_goals first
    | exact Option.some_ne_none _
    | contradiction

/-- After the arbitration nothing eligible waits for an idle transmitter. -/
theorem arbitrate_lineBusy (s : State) : (arbitrate s).LineBusyOrDone := by
  by_cases hidle : (s.powered && s.link.tx.isNone) = true
  · unfold arbitrate
    rw [if_pos hidle]
    split
    · exact fun _ h => nomatch h
    · exact fun _ h => nomatch h
    · next hfull hreplies =>
      split
      · next hrestart => exact fun _ _ => ⟨hfull, hreplies, fun h => by rw [hrestart] at h; cases h⟩
      · unfold sendOwn
        split
        · exact fun _ h => nomatch h
        · next hfront =>
          split
          · next hearliest => exact fun _ h => absurd h (sendNotice_busy (earliest_mem hearliest))
          · next hearliest =>
            refine fun _ _ => ⟨hfull, hreplies, fun _ => ⟨fun r hr => ?_, ?_⟩⟩
            · simpa [hr] using hfront
            · have hnil := earliest_none hearliest
              simp only [pendingSlots, List.append_eq_nil_iff, List.map_eq_nil_iff, Option.toList_eq_nil_iff] at hnil
              obtain ⟨⟨hmode, hcond⟩, hseg⟩ := hnil
              exact ⟨hmode, hcond, hseg⟩
  · intro hpowered htx
    rw [arbitrate, if_neg hidle] at hpowered htx
    simp [hpowered, htx] at hidle

/-- Without power nothing is eligible. -/
theorem lineBusy_of_unpowered {s : State} (h : s.powered = false) : s.LineBusyOrDone := fun hp => by
  rw [h] at hp
  cases hp

theorem driftLines_powered (l : Line) (together : Bool) (s : State) :
    (driftLines l together s).powered = s.powered := by
  unfold driftLines
  split
  · split <;> rfl
  · rfl

theorem losePower_powered (s : State) : (losePower s).powered = false := by unfold losePower; split <;> rfl

/-- A command leaves the state as it was, ends with the arbitration, or finds or leaves the controller without
power. -/
theorem exec_lineBusy {c : Instr} {s t : State} (h : s.LineBusyOrDone) (ht : exec c s = .next t) :
    t.LineBusyOrDone := by
  have hbyte (dt : Nat) (b : Byte) (stopLow : Bool) : (takeByte dt b stopLow s).LineBusyOrDone := by
    unfold takeByte
    dsimp only
    split
    · exact arbitrate_lineBusy _
    · next hoff => exact lineBusy_of_unpowered (Bool.not_eq_true _ ▸ hoff)
  have hrequest (dt : Nat) (tag : Byte) (r : Request) : (request dt tag r s).LineBusyOrDone := by
    unfold request
    dsimp only
    split
    · exact arbitrate_lineBusy _
    · next hoff => exact lineBusy_of_unpowered (Bool.not_eq_true _ ▸ hoff)
  have hexpiry (u : UnitId) (tm : Option Timer) (effect : State → State)
      (ht : onExpiry u tm effect s = .next t) : t.LineBusyOrDone := by
    unfold onExpiry at ht
    split at ht <;> obtain rfl := Host.Outcome.next.inj ht
    exacts [arbitrate_lineBusy _, h]
  cases c with
  | powerOn =>
    obtain rfl := Host.Outcome.next.inj ht
    exact arbitrate_lineBusy _
  | lineLevelChange dt l together =>
    obtain rfl := Host.Outcome.next.inj ht
    split
    · exact arbitrate_lineBusy _
    · next hoff =>
      exact lineBusy_of_unpowered ((driftLines_powered _ _ _).trans (Bool.not_eq_true _ ▸ hoff))
  | filterWindowExpiry l =>
    replace ht : execFilterWindowExpiry l s = .next t := ht
    unfold execFilterWindowExpiry at ht
    split at ht <;> obtain rfl := Host.Outcome.next.inj ht
    exacts [arbitrate_lineBusy _, h]
  | designPassComplete dt =>
    replace ht : execDesignPassComplete dt s = .next t := ht
    unfold execDesignPassComplete at ht
    split at ht <;> obtain rfl := Host.Outcome.next.inj ht
    exacts [arbitrate_lineBusy _, h]
  | targetPassComplete dt =>
    replace ht : execTargetPassComplete dt s = .next t := ht
    unfold execTargetPassComplete at ht
    split at ht <;> obtain rfl := Host.Outcome.next.inj ht
    exacts [arbitrate_lineBusy _, h]
  | axisSettleExpiry a =>
    replace ht : execAxisSettleExpiry a s = .next t := ht
    unfold execAxisSettleExpiry at ht
    split at ht <;> obtain rfl := Host.Outcome.next.inj ht
    exacts [arbitrate_lineBusy _, h]
  | axisMotionTimeout a =>
    replace ht : execAxisMotionTimeout a s = .next t := ht
    unfold execAxisMotionTimeout at ht
    split at ht <;> obtain rfl := Host.Outcome.next.inj ht
    exacts [arbitrate_lineBusy _, h]
  | tiltExpiry u | lowerTimeout u | squeezeTimerExpiry u | openExpiry u | raiseTimeout u | blindRaiseExpiry u
  | parkingExpiry u => exact hexpiry u _ _ ht
  | receiveHoldDrop dt b stopLow | frameDiscard dt b stopLow | frameArrival dt b stopLow
  | byteReceived dt b stopLow => exact Host.Outcome.next.inj ht ▸ hbyte dt b stopLow
  | transmitEnd =>
    replace ht : execTransmitEnd s = .next t := ht
    unfold execTransmitEnd at ht
    split at ht <;> obtain rfl := Host.Outcome.next.inj ht
    exacts [arbitrate_lineBusy _, h]
  | supervisionTimeout =>
    replace ht : execSupervisionTimeout s = .next t := ht
    unfold execSupervisionTimeout at ht
    split at ht <;> obtain rfl := Host.Outcome.next.inj ht
    exacts [arbitrate_lineBusy _, h]
  | saveComplete dt matched =>
    replace ht : execSaveComplete dt matched s = .next t := ht
    unfold execSaveComplete at ht
    split at ht <;> obtain rfl := Host.Outcome.next.inj ht
    exacts [arbitrate_lineBusy _, h]
  | powerFailure dt =>
    obtain rfl := Host.Outcome.next.inj ht
    split
    · exact lineBusy_of_unpowered (losePower_powered _)
    · next hoff => exact lineBusy_of_unpowered (Bool.not_eq_true _ ▸ hoff)
  | status dt tag | snapshot dt tag | nullChannels dt tag _ | setChainage dt tag _ | segmentAppend dt tag _
  | segmentTruncate dt tag _ | headSet dt tag _ | start dt tag | pause dt tag | stop dt tag | clearHalt dt tag
  | jobClear dt tag | setEnables dt tag _ _ | clearFlags dt tag _ | configure dt tag _ _ | readParam dt tag _
  | saveSettings dt tag | restart dt tag => exact Host.Outcome.next.inj ht ▸ hrequest dt tag _

/-- Settles O11: every command that may change what is eligible ends with the arbitration. -/
theorem transmitterServesAtOnce : Obligations.TransmitterServesAtOnce := by
  intro s t h ht
  unfold step at ht
  split at ht
  · exact Host.Outcome.next.inj ht ▸ h
  · next c rest _ => exact exec_lineBusy (s := { s with pending := rest }) h ht

end Sys2Proof.Machine
end


section
/-! ### The condition unit and the transmit arbitration -/

namespace Sys2Proof.Machine

/-- The arming of a stop, as R162 has it. -/
theorem armStop_eq (f : Flag) (s : State) : armStop f s = { s with cond := { s.cond with
    armed := if flagIn f s.cond.stop = true ∧ s.cyc.mode = .work ∧ s.cond.armed = none then some f
      else s.cond.armed } } := by
  unfold armStop
  simp only [Bool.and_eq_true, decide_eq_true_eq, Option.isNone_iff_eq_none, and_assoc]
  split <;> rfl

/-- The filling of the CONDITION slot: the flags as they stand, and the risings gathered (R160, R161). -/
theorem fillCondition_eq (f : Flag) (s : State) : fillCondition f s = { s with link := { s.link with
    condSlot := some ⟨⟨s.cond.flags, flagAdd f ((s.link.condSlot.map (·.content.raised)).getD 0)⟩,
      (s.link.condSlot.map (·.age)).getD s.eventNo⟩ } } := by
  unfold fillCondition fillSlot State.modLink
  cases hslot : s.link.condSlot <;> simp only [hslot] <;> rfl

/-- Settles O19: the two branches of a raising, with the slot and the armed stop of a rising. -/
theorem risingFlagActs : Obligations.RisingFlagActs := by
  intro f s
  refine ⟨fun hset => by rw [setFlag, if_pos hset], fun hclear => ?_⟩
  refine ⟨flagAdd f s.cond.flags, flagAdd f ((s.link.condSlot.map (·.content.raised)).getD 0),
    fun g => flagIn_flagAdd f g _, fun g => ?_, ?_⟩
  · rw [flagIn_flagAdd]
    cases s.link.condSlot with
    | none => simp [flagIn]
    | some x => rfl
  · rw [setFlag, if_neg (by simp [hclear])]
    dsimp only
    rw [armStop_eq, fillCondition_eq]
    split <;> rfl

/-! #### Which notice slot is the earliest -/

/-- The first of a list is the earliest where no other is of an earlier age. -/
theorem earliest_first {x : NoticeKind × Nat} {l : List (NoticeKind × Nat)} (h : ∀ y ∈ l, x.2 ≤ y.2) :
    earliest (x :: l) = some x := by
  unfold earliest
  split
  · rfl
  · next y hy => rw [if_neg (Nat.not_lt.mpr (h y (earliest_mem hy)))]

/-- A later one before the earliest is passed over. -/
theorem earliest_skip {x y : NoticeKind × Nat} {l : List (NoticeKind × Nat)} (hy : earliest l = some y)
    (h : y.2 < x.2) : earliest (x :: l) = some y := by
  rw [earliest, hy]
  exact if_pos h

/-- The MODE slot is the earliest where no other is of an earlier age. -/
theorem earliest_mode {l : Link} {x : Slot ModeNotice} (hx : l.modeSlot = some x)
    (hy : ∀ y, l.condSlot = some y → x.age ≤ y.age) (hz : ∀ z, l.segSlot = some z → x.age ≤ z.age) :
    earliest (pendingSlots l) = some (.mode, x.age) := by
  have hrest : ∀ n ∈ (l.condSlot.toList.map fun y => (NoticeKind.condition, y.age))
      ++ l.segSlot.toList.map fun z => (NoticeKind.wanted, z.age), x.age ≤ n.2 := fun n hn => by
    simp only [List.mem_append, List.mem_map, Option.mem_toList] at hn
    rcases hn with ⟨y, hmem, rfl⟩ | ⟨z, hmem, rfl⟩
    exacts [hy y hmem, hz z hmem]
  unfold pendingSlots
  rw [hx]
  exact earliest_first (x := (.mode, x.age)) hrest

/-- The CONDITION slot is the earliest where MODE is later and SEGMENTS_WANTED no earlier. -/
theorem earliest_condition {l : Link} {y : Slot ConditionNotice} (hy : l.condSlot = some y)
    (hx : ∀ x, l.modeSlot = some x → y.age < x.age) (hz : ∀ z, l.segSlot = some z → y.age ≤ z.age) :
    earliest (pendingSlots l) = some (.condition, y.age) := by
  have hrest : earliest ((.condition, y.age) :: l.segSlot.toList.map fun z => (.wanted, z.age))
      = some (.condition, y.age) := by
    refine earliest_first fun n hn => ?_
    simp only [List.mem_map, Option.mem_toList] at hn
    obtain ⟨z, hmem, rfl⟩ := hn
    exact hz z hmem
  unfold pendingSlots
  rw [hy]
  cases hm : l.modeSlot with
  | none => exact hrest
  | some x => exact earliest_skip hrest (hx x hm)

/-- The SEGMENTS_WANTED slot is the earliest where both others are later. -/
theorem earliest_wanted {l : Link} {z : Slot SegmentsNotice} (hz : l.segSlot = some z)
    (hx : ∀ x, l.modeSlot = some x → z.age < x.age) (hy : ∀ y, l.condSlot = some y → z.age < y.age) :
    earliest (pendingSlots l) = some (.wanted, z.age) := by
  have hrest : earliest ((l.condSlot.toList.map fun y => (.condition, y.age)) ++ [(.wanted, z.age)])
      = some (.wanted, z.age) := by
    cases hc : l.condSlot with
    | none => rfl
    | some y => exact earliest_skip rfl (hy y hc)
  unfold pendingSlots
  rw [hz]
  cases hm : l.modeSlot with
  | none => exact hrest
  | some x => exact earliest_skip hrest (hx x hm)

/-- With no reply to send and no RESTART waiting the controller sends of its own accord. -/
theorem arbitrate_own {s : State} (hpower : s.powered = true) (htx : s.link.tx = none) (hfull : s.link.full = [])
    (hreplies : s.link.replies = []) (hrestart : s.link.restart = false) : arbitrate s = sendOwn s := by
  rw [arbitrate, if_pos (by simp [hpower, htx]), hfull, hreplies]
  simp [hrestart]

/-- With no finished front record the earliest notice is sent. -/
theorem sendOwn_notice {s : State} (hfront : ∀ r rest, s.slp.records = r :: rest → r.state.finished = false)
    {k : NoticeKind} {n : Nat} (h : earliest (pendingSlots s.link) = some (k, n)) : sendOwn s = sendNotice k s := by
  have hnone : s.slp.records.head?.filter (·.state.finished) = none := by
    cases hr : s.slp.records with
    | nil => rfl
    | cons r rest => simp [hfront r rest hr]
  rw [sendOwn, hnone, h]

/-- Settles O20: the arbitration's branches in their order. -/
theorem arbitrationOrder : Obligations.ArbitrationOrder := by
  intro s
  refine ⟨fun hbusy => ?_, fun hpower htx => ⟨fun kind tag rest hfull => ?_, fun hfull => ⟨fun r rest hreplies => ?_,
    fun hreplies hrestart => ?_, fun hreplies hrestart => ⟨fun r rest hrecords hdone => ?_, fun hfront =>
      ⟨fun x hx hy hz => ?_, fun y hy hx hz => ?_, fun z hz hx hy => ?_⟩⟩⟩⟩⟩
  · rw [arbitrate, if_neg (by simp [hbusy])]
  · rw [arbitrate, if_pos (by simp [hpower, htx]), hfull]
    rfl
  · rw [arbitrate, if_pos (by simp [hpower, htx]), hfull, hreplies]
    rfl
  · rw [arbitrate, if_pos (by simp [hpower, htx]), hfull, hreplies]
    simp [hrestart]
  · rw [arbitrate_own hpower htx hfull hreplies hrestart, sendOwn, hrecords]
    simp only [List.head?_cons, Option.filter_some, hdone, if_true]
    rfl
  · rw [arbitrate_own hpower htx hfull hreplies hrestart, sendOwn_notice hfront (earliest_mode hx hy hz), sendNotice, hx]
    rfl
  · rw [arbitrate_own hpower htx hfull hreplies hrestart, sendOwn_notice hfront (earliest_condition hy hx hz),
      sendNotice, hy]
    rfl
  · rw [arbitrate_own hpower htx hfull hreplies hrestart, sendOwn_notice hfront (earliest_wanted hz hx hy),
      sendNotice, hz]
    rfl

end Sys2Proof.Machine
end


section
/-! ### Requests taken and answered -/

namespace Sys2Proof.Machine

/-! #### The request queue -/

theorem find?_unreplied_none {l : List QueuedRequest} (h : ∀ q ∈ l, q.progress = .replied) :
    (l.find? fun q => decide (q.progress ≠ .replied)) = none :=
  List.find?_eq_none.mpr fun q hq => by simp [h q hq]

/-- With every request replied to, none is taken. -/
theorem takeRequests_settled {s : State} (h : ∀ q ∈ s.link.requests, q.progress = .replied) : takeRequests s = s := by
  have hnone : nextRequest s = none := find?_unreplied_none h
  rw [takeRequests, takeLoop, hnone]

theorem nextRequest_append {s : State} {before : List QueuedRequest} {q : QueuedRequest}
    (hr : s.link.requests = before ++ [q]) (hbefore : ∀ p ∈ before, p.progress = .replied)
    (hq : q.progress ≠ .replied) : nextRequest s = some q := by
  rw [nextRequest, hr, List.find?_append, find?_unreplied_none hbefore]
  simp [hq]

theorem markNext_append (p : Progress) {before : List QueuedRequest} {q : QueuedRequest}
    (hbefore : ∀ r ∈ before, r.progress = .replied) (hq : q.progress ≠ .replied) :
    markNext p (before ++ [q]) = before ++ [{ q with progress := p }] := by
  induction before with
  | nil => simp [markNext, hq]
  | cons r rest ih =>
    have hr := hbefore r List.mem_cons_self
    have hrest := ih fun x hx => hbefore x (List.mem_cons_of_mem _ hx)
    simp [markNext, hr, hrest]

/-- A request that is being taken keeps those behind it waiting. -/
theorem takeRequests_taking {s : State} {q : QueuedRequest} (h : nextRequest s = some q) (hq : q.progress = .taking) :
    takeRequests s = s := by
  rw [takeRequests, takeLoop, h]
  simp [hq]

/-- The reply made for a last request leaves every request replied to. -/
theorem makeReply_settled {before : List QueuedRequest} {q : QueuedRequest} {t : State} (status : Status)
    (content : List Byte) (hr : t.link.requests = before ++ [q]) (hbefore : ∀ p ∈ before, p.progress = .replied)
    (hq : q.progress ≠ .replied) : ∀ p ∈ (makeReply q status content t).link.requests, p.progress = .replied := by
  intro p hp
  rw [makeReply, State.modLink_link, hr, markNext_append _ hbefore hq] at hp
  rcases List.mem_append.mp hp with hp | hp
  · exact hbefore p hp
  · obtain rfl := List.mem_singleton.mp hp
    rfl

/-- The only request waiting is taken by its owner, and its reply made. -/
theorem takeRequests_one {s t : State} {before : List QueuedRequest} {q : QueuedRequest} {status : Status}
    {content : List Byte} (hr : s.link.requests = before ++ [q]) (hbefore : ∀ p ∈ before, p.progress = .replied)
    (hq : q.progress = .waiting) (hrestart : s.link.restart = false)
    (htaken : takeRequest q.request s = ⟨t, some (status, content)⟩) (ht : t.link.requests = before ++ [q]) :
    takeRequests s = makeReply q status content t := by
  have hunreplied : q.progress ≠ .replied := by rw [hq]; decide
  have hone : takeOne q s = makeReply q status content t := by
    rw [takeOne, if_neg (by simp [hrestart]), htaken]
  have hnone : nextRequest (makeReply q status content t) = none :=
    find?_unreplied_none (makeReply_settled status content ht hbefore hunreplied)
  have hloop (n : Nat) : takeLoop n (makeReply q status content t) = makeReply q status content t := by
    cases n with
    | zero => rfl
    | succ n => rw [takeLoop, hnone]
  rw [takeRequests, takeLoop, nextRequest_append hr hbefore hunreplied]
  dsimp only
  rw [if_pos hq, hone, hloop]

/-- With a reply in the queue the transmitter is busy or sends a reply. -/
theorem arbitrate_reply {s : State} (hpower : s.powered = true) (hreplies : s.link.replies ≠ []) :
    arbitrate s = { s with link := { s.link with
      tx := sendingReply s.link.tx s.link.full s.link.replies s.clock } } := by
  obtain ⟨hbusy, hidle⟩ := arbitrationOrder s
  cases htx : s.link.tx with
  | some x =>
    have hsame : sendingReply (some x) s.link.full s.link.replies s.clock = s.link.tx := htx.symm
    rw [hbusy (by simp [htx]), hsame]
  | none =>
    obtain ⟨hlist, hreply⟩ := hidle hpower htx
    cases hfull : s.link.full with
    | cons f rest => rw [hlist f.1 f.2 rest hfull]; rfl
    | nil =>
      cases hr : s.link.replies with
      | nil => exact absurd hr hreplies
      | cons r rest => rw [(hreply hfull).1 r rest hr]; rfl

/-! #### The arrival of a frame at a port that answers -/

/-- The state in which a frame that comes `dt` µs later has been queued and heard. -/
def State.arriving (s : State) (dt : Nat) (kind tag : Byte) (r : Request) : State :=
  { s.beginAt dt with
    link := { s.link with
      assembler := .hunt
      lastByte := s.clock + dt
      requests := s.link.requests ++ [⟨kind, tag, r, .waiting⟩]
      supervision := heardAt s.params (s.clock + dt) } }

/-- The port without its notice slots. -/
def Link.sansSlots (l : Link) : Link := { l with modeSlot := none, condSlot := none, segSlot := none }

theorem sansSlots_of_fixed {s t : State} (h : t.kept.fixed = s.kept.fixed) : t.link.sansSlots = s.link.sansSlots := by
  simp only [Link.sansSlots, assembler_of_fixed h, lastByte_of_fixed h, hold_of_fixed h, requests_of_fixed h,
    replies_of_fixed h, full_of_fixed h, tx_of_fixed h, restart_of_fixed h, supervision_of_fixed h]

section answered
variable {s t : State} {dt : Nat} {kind tag : Byte} {r : Request} {status : Status} {content : List Byte}

/-- A request taken at once, its reply made and the transmission begun, whatever its owner has done with the
state. -/
theorem takeRequests_arriving (hs : s.Answers)
    (htaken : takeRequest r (s.arriving dt kind tag r) = ⟨t, some (status, content)⟩)
    (hrequests : t.link.requests = s.link.requests ++ [⟨kind, tag, r, .waiting⟩]) (hpower : t.powered = true) :
    arbitrate (takeRequests (s.arriving dt kind tag r)) = { t with link := { t.link with
      requests := s.link.requests ++ [⟨kind, tag, r, .replied⟩]
      replies := t.link.replies ++ [⟨kind, tag, status, content⟩]
      tx := sendingReply t.link.tx t.link.full (t.link.replies ++ [⟨kind, tag, status, content⟩]) t.clock } } := by
  rw [takeRequests_one (s := s.arriving dt kind tag r) (q := ⟨kind, tag, r, .waiting⟩) rfl hs.settled rfl hs.running htaken hrequests,
    arbitrate_reply (s := makeReply _ _ _ t) hpower (by simp [makeReply]), makeReply, State.modLink, hrequests,
    markNext_append _ hs.settled (by simp)]

/-- The same where the owner changes nothing of the port but the notice slots. -/
theorem takeRequests_answering (hs : s.Answers)
    (htaken : takeRequest r (s.arriving dt kind tag r) = ⟨t, some (status, content)⟩)
    (hport : t.link.sansSlots = (s.arriving dt kind tag r).link.sansSlots) (hpower : t.powered = true)
    (hclock : t.clock = s.clock + dt) :
    arbitrate (takeRequests (s.arriving dt kind tag r)) = { t with link := { s.answeringFrame dt kind tag r status content with
      modeSlot := t.link.modeSlot
      condSlot := t.link.condSlot
      segSlot := t.link.segSlot } } := by
  simp only [Link.sansSlots, State.arriving, Link.mk.injEq] at hport
  obtain ⟨hassembler, hlast, hhold, hrequests, hreplies, hfull, -, -, -, htx, hrestart, hsupervision⟩ := hport
  rw [takeRequests_arriving hs htaken hrequests hpower, State.answeringFrame, hreplies, htx, hfull, hclock]
  rcases t with ⟨_, _, _, _, _, _, _, _, _, _, _, _, _, _, _, _, _, link⟩
  dsimp only at *
  rw [hassembler, hlast, hhold, hfull, hrestart, hsupervision]

/-- The port with a frame's request queued is the arriving state. -/
theorem arriveFrame_arriving (hroom : s.link.requests.length < 4) {a : Assembler} (ha : a = .hunt) :
    arriveFrame kind tag r { s.beginAt dt with link := { s.link with assembler := a, lastByte := s.clock + dt } }
      = takeRequests (s.arriving dt kind tag r) := by
  subst ha
  unfold arriveFrame
  dsimp only
  exact if_pos hroom

/-- A request's row at a port that listens. -/
theorem request_eq (hs : s.Listens) : request dt tag r s = arbitrate (takeRequests (s.arriving dt r.kind tag r)) := by
  have hhunt : (s.beginAt dt).link.assembler = .hunt := hs.hunting
  have hstamped : (s.beginAt dt).modLink (fun l => { l with lastByte := (s.beginAt dt).clock })
      = { s.beginAt dt with link := { s.link with assembler := .hunt, lastByte := s.clock + dt } } := by
    rw [← hs.hunting]
    rfl
  have hoff : (s.beginAt dt).link.restart = false := hs.running
  have hhear : (s.beginAt dt).link.hold = false := hs.hearing
  have hpower : (s.beginAt dt).powered = true := hs.powered
  rw [request, if_pos hpower, receiveRequest, hoff, hhear]
  simp only [Bool.false_eq_true, if_false]
  rw [if_pos hhunt, hstamped, arriveFrame_arriving hs.room rfl]

/-- A request's row at a port that listens, answered at once: what the owner made of the state, with the reply in
the port. -/
theorem request_answered (hs : s.Listens)
    (htaken : takeRequest r (s.arriving dt r.kind tag r) = ⟨t, some (status, content)⟩)
    (hport : t.link.sansSlots = (s.arriving dt r.kind tag r).link.sansSlots) (hpower : t.powered = true)
    (hclock : t.clock = s.clock + dt) :
    request dt tag r s = { t with link := { s.answering dt r tag status content with
      modeSlot := t.link.modeSlot
      condSlot := t.link.condSlot
      segSlot := t.link.segSlot } } := by
  rw [request_eq hs, takeRequests_answering hs.toAnswers htaken hport hpower hclock]
  rfl

/-- The same where the owner's work leaves the fixed part alone. -/
theorem request_answered_fixed (hs : s.Listens)
    (htaken : takeRequest r (s.arriving dt r.kind tag r) = ⟨t, some (status, content)⟩)
    (hfixed : t.kept.fixed = (s.arriving dt r.kind tag r).kept.fixed) :
    request dt tag r s = { t with link := { s.answering dt r tag status content with
      modeSlot := t.link.modeSlot
      condSlot := t.link.condSlot
      segSlot := t.link.segSlot } } :=
  request_answered hs htaken (sansSlots_of_fixed hfixed) ((powered_of_fixed hfixed).trans hs.powered)
    (clock_of_fixed hfixed)

/-- A request that changes nothing but is answered. -/
theorem request_unchanged (hs : s.Listens)
    (htaken : takeRequest r (s.arriving dt r.kind tag r) = ⟨s.arriving dt r.kind tag r, some (status, content)⟩) :
    request dt tag r s = { s.beginAt dt with link := s.answering dt r tag status content } :=
  (request_answered_fixed hs htaken rfl).trans rfl

/-- A request refused. -/
theorem request_refused (hs : s.Listens)
    (htaken : takeRequest r (s.arriving dt r.kind tag r) = refusedWith status (s.arriving dt r.kind tag r)) :
    request dt tag r s = { s.beginAt dt with link := s.answering dt r tag status [] } :=
  request_unchanged hs htaken

end answered

end Sys2Proof.Machine
end


section
/-! ### The modes, the demand and the segment queue outside WORK -/

namespace Sys2Proof.Machine

theorem fillSlot_eq {α : Type} (old : Option (Slot α)) (content : α) (age : Nat) :
    fillSlot old content age = some ⟨content, (old.map (·.age)).getD age⟩ := by
  cases old <;> rfl

/-- The travel demand outside WORK (R34). -/
def restingDemand (m : Mode) : Demand := if m = .ready then .go else .stop

/-- Outside WORK the demand follows the mode, and the stroke term is GO (R34, R36). -/
theorem refreshDemand_of_not_work {s : State} (h : s.cyc.mode ≠ .work) :
    refreshDemand s = { s with pos := { s.pos with demand := restingDemand s.cyc.mode, strokeTerm := .go } } := by
  have hstroke : strokeTermOf s = .go := if_neg fun h' => h h'.1
  have hdemand : demandOf s = restingDemand s.cyc.mode := by
    unfold demandOf restingDemand
    cases hm : s.cyc.mode <;> first | rfl | exact absurd hm h
  have hloose : tightened s.pos.strokeTerm .go = false := by cases s.pos.strokeTerm <;> rfl
  unfold refreshDemand
  rw [hstroke, hdemand]
  dsimp only
  rw [if_neg (by simp [hloose])]
  rfl

theorem fillMode_eq (s : State) : fillMode s = { s with link := { s.link with
    modeSlot := some ⟨⟨s.cyc.mode, s.cyc.cause, s.cyc.detail, s.cyc.resetCause⟩,
      (s.link.modeSlot.map (·.age)).getD s.eventNo⟩ } } := by
  simp only [fillMode, State.modLink, fillSlot_eq]

/-- The change to a mode other than WORK, field by field (R140, R158). -/
theorem enterMode_eq {m : Mode} (hm : m ≠ .work) (s : State) : enterMode m s =
    { s with
      cyc := modeCycle m s.cyc
      cond := { s.cond with armed := if m = .paused ∨ m = .halted then none else s.cond.armed }
      slp := if m = .halted then { s.slp with detection := none, held := [] } else s.slp
      seg := { s.seg with starved := false }
      pos := { s.pos with demand := restingDemand m, strokeTerm := .go }
      link := { s.link with
        modeSlot := some ⟨⟨m, s.cyc.cause, s.cyc.detail, s.cyc.resetCause⟩,
          (s.link.modeSlot.map (·.age)).getD s.eventNo⟩ } } := by
  have hfilled := fillMode_eq ((((s.modCyc (modeCycle m)).modCond fun c =>
    { c with armed := if m = .paused ∨ m = .halted then none else c.armed }).modSlp fun q =>
      if m = .halted then { q with detection := none, held := [] } else q).modSeg fun q =>
        { q with starved := if m = .work then q.starved else false })
  have hmode : (modeCycle m s.cyc).mode = m := rfl
  rw [enterMode, hfilled, refreshDemand_of_not_work (by exact hm)]
  simp only [State.modCyc, State.modCond, State.modSlp, State.modSeg, hmode, if_neg hm]
  rfl

theorem actOnStop_of_not_work {s : State} (h : s.cyc.mode ≠ .work) : actOnStop s = s := by
  unfold actOnStop
  split
  · exact if_neg fun h' => h h'.1
  · rfl

theorem judgeStarved_of_not_work {s : State} (h : s.cyc.mode ≠ .work) : judgeStarved s = s := if_neg h

theorem raiseFlag_of_not_work {s : State} (h : s.cyc.mode ≠ .work) (f : Flag) : raiseFlag f s = setFlag f s :=
  actOnStop_of_not_work (by rwa [setFlag_cyc])

theorem seek_of_not_work {s : State} (h : s.cyc.mode ≠ .work) : seek s = s := by
  have hdue : seekDue s = false := by simp [seekDue, h]
  unfold seek seekLoop
  simp [hdue]

theorem hardHalt_of_resting {s : State} (h : s.cyc.mode = .ready ∨ s.cyc.mode = .halted) (cause : HaltCause)
    (detail : Option Detail) : hardHalt cause detail s = s := by
  unfold hardHalt
  rcases h with h | h <;> simp [h]

/-! #### The look-ahead -/

theorem lookAheadHolds_eq (s : State) : lookAheadHolds s = wanting s.seg.segments (wantedReach s) := by
  unfold lookAheadHolds wanting queueEnd maxSegments
  cases s.seg.segments.getLast? <;> rfl

/-- The SEGMENTS_WANTED slot with the content R53 gives it, where it is filled. -/
def slotFilled (segs : List Segment) (reach : Int) (due : Bool) (old : Option (Slot SegmentsNotice)) (age : Nat) :
    Option (Slot SegmentsNotice) :=
  if due then
    some ⟨⟨segs.getLast?.map fun g => g.start + g.length, 32 - segs.length, 192 - (poolOf segs).length,
      min 2000000000 reach⟩, (old.map (·.age)).getD age⟩
  else old

theorem wantedSlot_eq (s : State) (segs : List Segment) (reach : Int) (appended : Bool) :
    s.wantedSlot segs reach appended
      = slotFilled segs reach (wanting segs reach && (appended || !s.seg.lookAhead)) s.link.segSlot (s.eventNo + 1) :=
  rfl

theorem bearersHeld_eq (segs : List Segment) : bearersHeld segs = (poolOf segs).length := by
  simp [bearersHeld, poolOf, List.length_flatMap]

theorem fillWanted_eq (s : State) : fillWanted s = { s with link := { s.link with
    segSlot := some ⟨⟨s.seg.segments.getLast?.map fun g => g.start + g.length, 32 - s.seg.segments.length,
      192 - (poolOf s.seg.segments).length, min 2000000000 (wantedReach s)⟩,
      (s.link.segSlot.map (·.age)).getD s.eventNo⟩ } } := by
  simp only [fillWanted, State.modLink, fillSlot_eq, freeEntries, bearersHeld_eq]
  rfl

/-- The judgement of the look-ahead condition (R52, R53). -/
theorem judgeLookAhead_eq (appended : Bool) (s : State) : judgeLookAhead appended s =
    { s with
      seg := { s.seg with lookAhead := wanting s.seg.segments (wantedReach s) }
      link := { s.link with
        segSlot := slotFilled s.seg.segments (wantedReach s)
          (wanting s.seg.segments (wantedReach s) && (appended || !s.seg.lookAhead)) s.link.segSlot s.eventNo } } := by
  unfold judgeLookAhead slotFilled
  rw [lookAheadHolds_eq]
  dsimp only
  split
  · rw [fillWanted_eq]
    rfl
  · rfl

/-- The leading segments that retire leave the rest of the window (R51). -/
def State.unretired (s : State) : List Segment :=
  s.seg.segments.dropWhile fun g => decide (g.start + g.length ≤ rearBound s)

theorem retireSegments_eq (s : State) :
    retireSegments s = { s with seg := { s.seg with segments := s.unretired } } := rfl

/-- Retirement changes no term of the wanted chainage. -/
theorem wantedReach_congr {s t : State} (hp : t.params = s.params) (hd : t.pos.datum = s.pos.datum)
    (hc : t.pos.countAtDatum = s.pos.countAtDatum) (hq : t.count.odo.count = s.count.odo.count) :
    wantedReach t = wantedReach s := by
  unfold wantedReach detectorChainage frameChainage frameMicrons
  rw [hp, hd, hc, hq]

/-- The judgements of the segment queue outside WORK: retirement and the look-ahead (R51, R52). -/
theorem judgeSegments_of_not_work {s : State} (h : s.cyc.mode ≠ .work) : judgeSegments s =
    { s with
      seg := { s.seg with segments := s.unretired, lookAhead := wanting s.unretired (wantedReach s) }
      link := { s.link with
        segSlot := slotFilled s.unretired (wantedReach s)
          (wanting s.unretired (wantedReach s) && !s.seg.lookAhead) s.link.segSlot s.eventNo } } := by
  rw [judgeSegments, retireSegments_eq, judgeLookAhead_eq, judgeStarved_of_not_work (by exact h),
    actOnStop_of_not_work (by exact h)]
  rfl

end Sys2Proof.Machine
end

section
/-! ### Requests that change one thing -/

namespace Sys2Proof.Machine

theorem takePause_refused {s : State} (h : s.cyc.mode ≠ .work) : takePause s = refusedWith .wrongMode s := if_neg h

theorem takePause_now {s : State} (h : s.cyc.mode = .work) (hp : pausesAtOnce s.cyc.phase = true) :
    takePause s = accepted (enterMode .paused s) [] := by rw [takePause, if_pos h, if_pos hp]

theorem takePause_later {s : State} (h : s.cyc.mode = .work) (hp : ¬ pausesAtOnce s.cyc.phase = true) :
    takePause s = accepted (s.modCyc fun c => { c with pausePending := true }) [] := by
  rw [takePause, if_pos h, if_neg hp]

theorem takeClearHalt_refused {s : State} (h : s.cyc.mode ≠ .halted) :
    takeClearHalt s = refusedWith .wrongMode s := if_neg h

/-- Every unit and every axis is at rest (R144). -/
def State.AtRest (s : State) : Prop :=
  (∀ u, (s.heads.get u).state = .up ∨ (s.heads.get u).state = .faulted) ∧ ∀ a, (s.axes.get a).state = .idle

theorem atRest_iff (s : State) : (headsAtRest s && axesIdle s) = true ↔ s.AtRest := by
  simp only [headsAtRest, axesIdle, Bool.and_eq_true, List.all_eq_true, Bool.or_eq_true, decide_eq_true_eq]
  exact ⟨fun ⟨hu, ha⟩ => ⟨fun u => hu u (by cases u <;> simp [allUnits]), fun a => ha a (by cases a <;> simp [allAxes])⟩,
    fun ⟨hu, ha⟩ => ⟨fun u _ => hu u, fun a _ => ha a⟩⟩

theorem takeClearHalt_busy {s : State} (h : s.cyc.mode = .halted) (hr : ¬ s.AtRest) :
    takeClearHalt s = refusedWith .busy s := by
  rw [takeClearHalt, if_pos h, if_neg fun h' => hr ((atRest_iff s).mp h')]

theorem takeClearHalt_taken {s : State} (h : s.cyc.mode = .halted) (hr : s.AtRest) :
    takeClearHalt s = accepted (enterMode .ready s) [] := by
  rw [takeClearHalt, if_pos h, if_pos ((atRest_iff s).mpr hr)]

/-- Settles O55: PAUSE and CLEAR_HALT are changes of mode, or refused. -/
theorem pauseAndClearHaltTaken : Obligations.PauseAndClearHaltTaken := by
  intro s dt tag hs
  refine ⟨fun hmode => ?_, fun hmode hphase => ?_, fun hmode hseek hwait => ?_, fun hmode => ?_, fun hmode hnot => ?_,
    fun hmode hat => ?_⟩
  · exact congrArg Host.Outcome.next (request_refused (r := .pause) hs (takePause_refused hmode))
  · have hat : pausesAtOnce s.cyc.phase = true := by rcases hphase with h | h <;> rw [h] <;> rfl
    refine congrArg Host.Outcome.next ((request_answered_fixed (r := .pause) hs (takePause_now hmode hat)
      (Kept.fixed_eq (enterMode_kept _ _))).trans ?_)
    rw [enterMode_eq (by decide)]
    rfl
  · have hlater : ¬ pausesAtOnce s.cyc.phase = true := by
      cases h : s.cyc.phase <;> first | decide | exact absurd h hseek | exact absurd h hwait
    exact congrArg Host.Outcome.next
      ((request_answered_fixed (r := .pause) hs (takePause_later hmode hlater) rfl).trans rfl)
  · exact congrArg Host.Outcome.next (request_refused (r := .clearHalt) hs (takeClearHalt_refused hmode))
  · exact congrArg Host.Outcome.next (request_refused (r := .clearHalt) hs (takeClearHalt_busy hmode hnot))
  · refine congrArg Host.Outcome.next ((request_answered_fixed (r := .clearHalt) hs (takeClearHalt_taken hmode hat)
      (Kept.fixed_eq (enterMode_kept _ _))).trans ?_)
    rw [enterMode_eq (by decide)]
    rfl

theorem takeJobClear_refused {s : State} (h : ¬ (s.cyc.mode = .ready ∨ s.cyc.mode = .halted)) :
    takeJobClear s = refusedWith .wrongMode s := if_neg h

/-- The queues emptied at JOB_CLEAR, before they are judged (R57, R76, R91). -/
def State.jobFreed (s : State) : State :=
  (clearSegments (clearRecords s)).modEng fun _ => { activity := .idle, request := none }

theorem takeJobClear_taken {s : State} (h : s.cyc.mode = .ready ∨ s.cyc.mode = .halted) :
    takeJobClear s = accepted (refreshDemand (judgeSegments s.jobFreed)) [] := if_pos h

/-- Outside WORK an accepted JOB_CLEAR, but for the sleeper queue it leaves. -/
theorem exec_jobClear {s : State} (hs : s.Listens) (dt : Nat) (tag : Byte)
    (hmode : s.cyc.mode = .ready ∨ s.cyc.mode = .halted) :
    exec (.jobClear dt tag) s = .next { s.beginAt dt with
      slp := (clearRecords (s.arriving dt 0x0C tag .jobClear)).slp
      seg := ⟨[], true, false⟩
      eng := ⟨.idle, none⟩
      pos := { s.pos with demand := if s.cyc.mode = .ready then .go else .stop, strokeTerm := .go }
      link := { s.answering dt .jobClear tag .ok [] with
        segSlot := s.wantedSlot [] (detectorChainage s + max s.params.p01 s.params.p03 + s.params.p36) false } } := by
  have hwork : s.cyc.mode ≠ .work := by rcases hmode with h | h <;> rw [h] <;> decide
  have hfixed : (refreshDemand (judgeSegments (s.arriving dt 0x0C tag .jobClear).jobFreed)).kept.fixed
      = (s.arriving dt 0x0C tag .jobClear).kept.fixed :=
    (Kept.fixed_eq (refreshDemand_kept _)).trans ((Kept.fixed_eq (judgeSegments_kept _)).trans rfl)
  refine congrArg Host.Outcome.next
    ((request_answered_fixed (r := .jobClear) hs (takeJobClear_taken hmode) hfixed).trans ?_)
  rw [judgeSegments_of_not_work (by exact hwork), refreshDemand_of_not_work (by exact hwork)]
  rfl

/-- Settles O57: JOB_CLEAR empties the queues and has the segment queue and the demand judged outside WORK. -/
theorem jobCleared : Obligations.JobCleared := by
  intro s dt tag hs
  refine ⟨fun hmode => ?_, fun hmode htx => ?_, fun hmode x r rest htx hsource hrecords => ?_⟩
  · have hno : ¬ (s.cyc.mode = .ready ∨ s.cyc.mode = .halted) := by rcases hmode with h | h <;> simp [h]
    exact congrArg Host.Outcome.next (request_refused (r := .jobClear) hs (takeJobClear_refused hno))
  · have hnone : recordInTransmission (s.arriving dt 0x0C tag .jobClear) = none := by
      unfold recordInTransmission
      split
      · next x hx => exact if_neg (htx x hx)
      · rfl
    refine (exec_jobClear hs dt tag hmode).trans ?_
    rw [clearRecords, hnone]
    rfl
  · have hsome : recordInTransmission (s.arriving dt 0x0C tag .jobClear) = some r := by
      have htx' : (s.arriving dt 0x0C tag .jobClear).link.tx = some x := htx
      have hhead : (s.arriving dt 0x0C tag .jobClear).slp.records.head? = some r := congrArg List.head? hrecords
      rw [recordInTransmission, htx']
      exact (if_pos hsource).trans hhead
    refine (exec_jobClear hs dt tag hmode).trans ?_
    rw [clearRecords, hsome]
    rfl

end Sys2Proof.Machine
end


section
/-! ### The sets, the chainage and the settings -/

namespace Sys2Proof.Machine

/-! #### HEAD_SET, SET_ENABLES, CLEAR_FLAGS -/

theorem takeHeadSet_taken {set : Byte} (h : set.toNat < 16) (s : State) :
    takeHeadSet set s = accepted { s with headSet := set.truncate 4 } [set] := if_pos (decide_eq_true h)

theorem takeHeadSet_refused {set : Byte} (h : 16 ≤ set.toNat) (s : State) :
    takeHeadSet set s = refusedWith .outOfRange s := if_neg (by simpa [unitsOnly] using h)

theorem flagsOnly_iff (x : BitVec 24) : flagsOnly x = true ↔ x.toNat < 1048576 := by simp [flagsOnly]

theorem takeSetEnables_taken {notice stop : BitVec 24} (hn : notice.toNat < 1048576) (hs : stop.toNat < 1048576)
    (s : State) : takeSetEnables notice stop s
      = accepted (s.modCond fun c => { c with notice := notice.truncate 20, stop := stop.truncate 20 })
          (flagBytes (notice.truncate 20) ++ flagBytes (stop.truncate 20)) :=
  if_pos (by simp [flagsOnly_iff, hn, hs])

theorem takeSetEnables_refused {notice stop : BitVec 24} (h : 1048576 ≤ notice.toNat ∨ 1048576 ≤ stop.toNat)
    (s : State) : takeSetEnables notice stop s = refusedWith .outOfRange s := by
  refine if_neg fun hboth => ?_
  simp only [Bool.and_eq_true, flagsOnly_iff] at hboth
  omega

theorem takeClearFlags_taken {set : BitVec 24} (h : set.toNat < 1048576) (s : State) :
    takeClearFlags set s = accepted (s.modCond fun c => { c with flags := c.flags &&& ~~~ set.truncate 20 })
      (flagsAndAny (s.cond.flags &&& ~~~ set.truncate 20)) := if_pos ((flagsOnly_iff set).mpr h)

theorem takeClearFlags_refused {set : BitVec 24} (h : 1048576 ≤ set.toNat) (s : State) :
    takeClearFlags set s = refusedWith .outOfRange s :=
  if_neg fun h' => absurd ((flagsOnly_iff set).mp h') (Nat.not_lt.mpr h)

/-- A set of the wire that names flags alone keeps its number in twenty bits. -/
theorem flagBytes_truncate {x : BitVec 24} (h : x.toNat < 1048576) : flagBytes (x.truncate 20) = beBytes 3 x.toNat := by
  rw [flagBytes, BitVec.truncate_eq_setWidth, BitVec.toNat_setWidth, Nat.mod_eq_of_lt h]

theorem flagIn_clear (f : Flag) (flags : FlagSet) (set : BitVec 24) :
    flagIn f (flags &&& ~~~ set.truncate 20) = (flagIn f flags && !set.getLsbD (f.number - 1)) := by
  have hlt : f.number - 1 < 20 := by cases f <;> decide
  simp [flagIn, hlt]

/-- Settles O49: three owners that replace or clear a set, or refuse it. -/
theorem setsReplaced : Obligations.SetsReplaced := by
  refine ⟨fun s dt tag set hs => ⟨fun h => ?_, fun h => ?_⟩, ⟨fun s dt tag notice stop hs => ⟨fun hn hst => ?_, fun h => ?_⟩,
    fun s cause => ⟨rfl, rfl⟩, fun s t dt tag hs ht => ?_⟩, fun s dt tag set hs => ⟨fun h => ?_, fun h => ?_⟩⟩
  · exact congrArg Host.Outcome.next
      ((request_answered (r := .headSet set) hs (takeHeadSet_taken h _) rfl hs.powered rfl).trans rfl)
  · exact congrArg Host.Outcome.next (request_refused (r := .headSet set) hs (takeHeadSet_refused h _))
  · refine congrArg Host.Outcome.next ((request_answered (r := .setEnables notice stop) hs
      (takeSetEnables_taken hn hst _) rfl hs.powered rfl).trans ?_)
    rw [flagBytes_truncate hn, flagBytes_truncate hst]
    rfl
  · exact congrArg Host.Outcome.next
      (request_refused (r := .setEnables notice stop) hs (takeSetEnables_refused h _))
  · by_cases hmode : s.cyc.mode = .ready ∨ s.cyc.mode = .halted
    · rw [exec_jobClear hs dt tag hmode] at ht
      obtain rfl := Host.Outcome.next.inj ht
      exact ⟨rfl, rfl⟩
    · have href := request_refused (r := .jobClear) (dt := dt) (tag := tag) hs (takeJobClear_refused hmode)
      obtain rfl := Host.Outcome.next.inj ((congrArg Host.Outcome.next href).symm.trans ht)
      exact ⟨rfl, rfl⟩
  · refine ⟨s.cond.flags &&& ~~~ set.truncate 20, fun f => flagIn_clear f _ _, ?_⟩
    refine congrArg Host.Outcome.next ((request_answered (r := .clearFlags set) hs
      (takeClearFlags_taken h _) rfl hs.powered rfl).trans ?_)
    have hany (x : FlagSet) : markerByte (x != 0) = [if x = 0 then 0 else 1] := by
      by_cases hx : x = 0
      · rw [hx]
        rfl
      · rw [if_neg hx, bne_iff_ne.mpr hx]
        rfl
    rw [flagsAndAny, hany]
    rfl
  · exact congrArg Host.Outcome.next (request_refused (r := .clearFlags set) hs (takeClearFlags_refused h _))

/-! #### SET_CHAINAGE -/

theorem takeSetChainage_mode {x : Int} {s : State} (h : s.cyc.mode ≠ .ready) :
    takeSetChainage x s = refusedWith .wrongMode s := if_pos h

theorem takeSetChainage_range {x : Int} {s : State} (h : s.cyc.mode = .ready) (hx : ¬ (-2000000000 ≤ x ∧ x ≤ 2000000000)) :
    takeSetChainage x s = refusedWith .outOfRange s := by
  have hbad : chainageOk x = false := decide_eq_false hx
  simp [takeSetChainage, h, hbad]

theorem takeSetChainage_inUse {x : Int} {s : State} (h : s.cyc.mode = .ready) (hx : -2000000000 ≤ x ∧ x ≤ 2000000000)
    (hq : s.slp.records ≠ [] ∨ s.seg.segments ≠ []) : takeSetChainage x s = refusedWith .inUse s := by
  have hok : chainageOk x = true := decide_eq_true hx
  rw [takeSetChainage, if_neg (not_not_intro h), hok, if_neg (by decide), if_pos (by simpa [-not_and] using hq)]

/-- The state with frame chainage set, before the segment queue judges it (R19). -/
def State.chainageSet (x : Int) (s : State) : State :=
  (s.modPos fun p => { p with datum := x * 1000, countAtDatum := s.count.odo.count }).modSlp
    fun q => { q with highWater := none }

theorem takeSetChainage_taken {x : Int} {s : State} (h : s.cyc.mode = .ready) (hx : -2000000000 ≤ x ∧ x ≤ 2000000000)
    (hr : s.slp.records = []) (hg : s.seg.segments = []) :
    takeSetChainage x s = accepted (judgeSegments (s.chainageSet x)) [] := by
  have hok : chainageOk x = true := decide_eq_true hx
  simp [takeSetChainage, h, hok, hr, hg, State.chainageSet]

/-- Where the count at datum is the count of ODO, frame chainage is the datum (R17). -/
theorem frameChainage_of_datum {t : State} {x : Int} (hx : -2000000000 ≤ x ∧ x ≤ 2000000000)
    (hd : t.pos.datum = x * 1000) (hc : t.pos.countAtDatum = t.count.odo.count) : frameChainage t = x := by
  have hmicrons : frameMicrons t = x * 1000 := by rw [frameMicrons, hd, hc, Int.sub_self, Int.zero_mul, Int.add_zero]
  rw [frameChainage, hmicrons, Int.mul_ediv_cancel _ (by decide), holdRange, chainageMax]
  omega

/-- Settles O46: the owner's checks in order, and the look-ahead of the empty queue judged afresh. -/
theorem chainageSet : Obligations.ChainageSet := by
  intro s dt tag x hs
  refine ⟨fun hmode => ?_, fun hmode hx => ?_, fun hmode hlo hhi hq => ?_, fun hmode hlo hhi hr hg => ?_⟩
  · exact congrArg Host.Outcome.next (request_refused (r := .setChainage x) hs (takeSetChainage_mode hmode))
  · exact congrArg Host.Outcome.next
      (request_refused (r := .setChainage x) hs (takeSetChainage_range hmode (by omega)))
  · exact congrArg Host.Outcome.next
      (request_refused (r := .setChainage x) hs (takeSetChainage_inUse hmode ⟨hlo, hhi⟩ hq))
  · have hwork : s.cyc.mode ≠ .work := by rw [hmode]; decide
    have hframe (t : State) (hd : t.pos.datum = x * 1000) (hc : t.pos.countAtDatum = t.count.odo.count) :
        frameChainage t = x := frameChainage_of_datum ⟨hlo, hhi⟩ hd hc
    have hreach : wantedReach ((s.arriving dt (Request.setChainage x).kind tag (.setChainage x)).chainageSet x)
        = max (-2000000000) (min 2000000000 (x + s.params.p08)) + max s.params.p01 s.params.p03 + s.params.p36 := by
      rw [wantedReach, detectorChainage, hframe _ rfl rfl]
      rfl
    have hnone : State.unretired ((s.arriving dt (Request.setChainage x).kind tag (.setChainage x)).chainageSet x) = [] := by
      have hsegs : ((s.arriving dt (Request.setChainage x).kind tag (.setChainage x)).chainageSet x).seg.segments = [] := hg
      rw [State.unretired, hsegs]
      rfl
    have hjudged := judgeSegments_of_not_work
      (s := (s.arriving dt (Request.setChainage x).kind tag (.setChainage x)).chainageSet x) hwork
    have hfixed := Kept.fixed_eq (judgeSegments_kept ((s.arriving dt (Request.setChainage x).kind tag (.setChainage x)).chainageSet x))
    have hsegs : s.seg = { s.seg with segments := [] } := by rw [← hg]
    refine ⟨_, congrArg Host.Outcome.next ((request_answered (r := .setChainage x) hs
      (takeSetChainage_taken hmode ⟨hlo, hhi⟩ hr hg) ((sansSlots_of_fixed hfixed).trans rfl)
      ((powered_of_fixed hfixed).trans hs.powered) ((clock_of_fixed hfixed).trans rfl)).trans ?_), rfl, ?_, ?_, ?_⟩
    · rw [hjudged, hnone, hreach, wantedSlot_eq, hsegs]
      rfl
    · exact hframe _ rfl rfl
    · exact congrArg (fun f : Int => (satOffset s).map fun o => holdRange (f + o)) (hframe _ rfl rfl)
    · exact congrArg (fun f : Int => holdRange (f + s.params.p08)) (hframe _ rfl rfl)

end Sys2Proof.Machine
end


section
/-! ### Numbers on the wire, and the receive assembler -/

namespace Sys2Proof.Machine

/-! #### Numbers and bytes -/

@[simp] theorem beBytes_length (w n : Nat) : (beBytes w n).length = w := by
  induction w with
  | zero => rfl
  | succ w ih => rw [beBytes, List.length_cons, ih]

theorem foldl_beNat (bytes : List Byte) (acc : Nat) :
    bytes.foldl (fun acc b => acc * 256 + b.toNat) acc = acc * 256 ^ bytes.length + beNat bytes := by
  induction bytes generalizing acc with
  | nil => simp [beNat]
  | cons b rest ih =>
    have hone : beNat (b :: rest) = (0 * 256 + b.toNat) * 256 ^ rest.length + beNat rest := ih _
    rw [List.foldl_cons, ih, hone, List.length_cons, Nat.pow_succ]
    ring

theorem beNat_cons (b : Byte) (rest : List Byte) : beNat (b :: rest) = b.toNat * 256 ^ rest.length + beNat rest := by
  rw [beNat, List.foldl_cons, foldl_beNat]
  simp

/-- A number written is read back, as far as it fits. -/
theorem beNat_beBytes_mod (w n : Nat) : beNat (beBytes w n) = n % 256 ^ w := by
  induction w with
  | zero => simp [beBytes, beNat, Nat.mod_one]
  | succ w ih =>
    have hbyte : (2 : Nat) ^ 8 = 256 := rfl
    rw [beBytes, beNat_cons, ih, beBytes_length, BitVec.toNat_ofNat, hbyte, Nat.pow_succ 256 w, Nat.mod_mul,
      Nat.mul_comm, Nat.add_comm]

theorem beNat_beBytes {w n : Nat} (h : n < 256 ^ w) : beNat (beBytes w n) = n := by
  rw [beNat_beBytes_mod, Nat.mod_eq_of_lt h]

theorem crcShift_lt (k : Nat) {r : Nat} (h : r < 65536) : crcShift k r < 65536 := by
  induction k generalizing r with
  | zero => exact h
  | succ k ih =>
    refine ih ?_
    split
    · omega
    · exact Nat.xor_lt_two_pow (n := 16) (Nat.mod_lt _ (by decide)) (by decide)

theorem crc16_lt (bytes : List Byte) : crc16 bytes < 65536 := by
  have hstep (r : Nat) (b : Byte) (h : r < 65536) : crcByte r b < 65536 := by
    have hb : b.toNat * 256 < 2 ^ 16 := by have := b.isLt; omega
    rw [crcByte]
    exact crcShift_lt 8 (Nat.xor_lt_two_pow (n := 16) h hb)
  have hfold (l : List Byte) (r : Nat) (h : r < 65536) : l.foldl crcByte r < 65536 := by
    induction l generalizing r with
    | nil => exact h
    | cons b rest ih =>
      rw [List.foldl_cons]
      exact ih (crcByte r b) (hstep r b h)
  rw [crc16]
  exact hfold bytes 0xFFFF (by decide)

/-! #### Bytes that come at one instant -/

/-- The port in an assembly state, its last byte of this instant. -/
def State.hearing (s : State) (a : Assembler) : State :=
  { s with link := { s.link with assembler := a, lastByte := s.clock } }

section oneInstant
variable {s : State} (hrestart : s.link.restart = false) (hhold : s.link.hold = false)
include hrestart hhold

/-- In a frame a byte with its stop bit high is assembled. -/
theorem receiveByte_hearing {a : Assembler} (ha : a ≠ .hunt) (b : Byte) :
    receiveByte b false (s.hearing a) = assembleByte b (s.hearing a) := by
  have hlate : byteLate (s.hearing a) = false := decide_eq_false (Nat.not_lt.mpr (Nat.le_add_right _ _))
  have hoff : (s.hearing a).link.restart = false := hrestart
  have hhear : (s.hearing a).link.hold = false := hhold
  have hin : (s.hearing a).link.assembler ≠ .hunt := ha
  rw [receiveByte, hoff, hhear]
  simp only [Bool.false_eq_true, if_false]
  rw [assemblerByte, if_neg hin, hlate]
  rfl

theorem receiveByte_sync (ha : s.link.assembler = .hunt) : receiveByte 0xA5 false s = s.hearing .length := by
  rw [receiveByte, hrestart, hhold]
  simp only [Bool.false_eq_true, if_false]
  rw [assemblerByte, if_pos ha]
  rfl

theorem receiveByte_length {n : Nat} (hn : n ≤ 240) :
    receiveByte (BitVec.ofNat 8 n) false (s.hearing .length) = s.hearing (.kind n) := by
  have hread : (BitVec.ofNat 8 n : Byte).toNat = n := by rw [BitVec.toNat_ofNat]; omega
  rw [receiveByte_hearing hrestart hhold (by simp)]
  show (if (BitVec.ofNat 8 n : Byte).toNat ≤ 240 then s.hearing (.kind (BitVec.ofNat 8 n : Byte).toNat) else _) = _
  rw [hread, if_pos hn]

theorem receiveByte_kind (n : Nat) (kind : Byte) : receiveByte kind false (s.hearing (.kind n)) = s.hearing (.tag n kind) := by
  rw [receiveByte_hearing hrestart hhold (by simp)]
  rfl

theorem receiveByte_tag (n : Nat) (kind tag : Byte) :
    receiveByte tag false (s.hearing (.tag n kind)) = s.hearing (afterTag n kind tag) := by
  rw [receiveByte_hearing hrestart hhold (by simp)]
  rfl

/-- The bytes of a body are gathered until it has its length. -/
theorem foldl_receiveByte_body (kind tag : Byte) {done rest : List Byte} (hrest : rest ≠ []) :
    rest.foldl (fun t b => receiveByte b false t) (s.hearing (.body (done ++ rest).length kind tag done))
      = s.hearing (.checkHigh kind tag (done ++ rest)) := by
  induction rest generalizing done with
  | nil => exact absurd rfl hrest
  | cons b rest ih =>
    rw [List.foldl_cons, receiveByte_hearing hrestart hhold (by simp)]
    cases rest with
    | nil =>
      show (if done.length + 1 < (done ++ [b]).length then _ else s.hearing (.checkHigh kind tag (done ++ [b]))) = _
      rw [if_neg (by simp)]
    | cons c rest =>
      have hmore : assembleByte b (s.hearing (.body (done ++ b :: c :: rest).length kind tag done))
          = s.hearing (.body (done ++ b :: c :: rest).length kind tag (done ++ [b])) := by
        show (if done.length + 1 < (done ++ b :: c :: rest).length then
          s.hearing (.body (done ++ b :: c :: rest).length kind tag (done ++ [b])) else _) = _
        rw [if_pos (by simp)]
      have hnext := ih (done := done ++ [b]) (by simp)
      rw [List.append_assoc, List.singleton_append] at hnext
      rw [hmore, hnext]

theorem foldl_receiveByte_afterTag (kind tag : Byte) (body : List Byte) :
    body.foldl (fun t b => receiveByte b false t) (s.hearing (afterTag body.length kind tag))
      = s.hearing (.checkHigh kind tag body) := by
  cases body with
  | nil => rfl
  | cons b rest => exact foldl_receiveByte_body hrestart hhold kind tag (done := []) (by simp)

/-- The two CHECK bytes of an intact frame complete it. -/
theorem foldl_receiveByte_check (kind tag : Byte) (body : List Byte) :
    (beBytes 2 (crc16 (checkedBytes kind tag body))).foldl (fun t b => receiveByte b false t)
        (s.hearing (.checkHigh kind tag body))
      = arriveFrame kind tag (Request.parse kind body) (s.hearing .hunt) := by
  have hcheck := beNat_beBytes (w := 2) (crc16_lt (checkedBytes kind tag body))
  simp only [beBytes] at hcheck ⊢
  rw [List.foldl_cons, receiveByte_hearing hrestart hhold (by simp), List.foldl_cons, List.foldl_nil]
  show receiveByte _ false (s.hearing (.checkLow kind tag body _)) = _
  rw [receiveByte_hearing hrestart hhold (by simp)]
  exact if_pos hcheck

end oneInstant

/-- Settles O14: the assembler's states, one after another along the frame. -/
theorem intactFrameArrives : Obligations.IntactFrameArrives := by
  intro s kind tag body hlen hrestart hhold hhunt
  rw [frameBytes, List.cons_append, List.foldl_cons, List.foldl_append]
  rw [show checkedBytes kind tag body = BitVec.ofNat 8 body.length :: kind :: tag :: body from rfl, List.foldl_cons,
    List.foldl_cons, List.foldl_cons,  syncByte, receiveByte_sync hrestart hhold hhunt,
    receiveByte_length hrestart hhold hlen, receiveByte_kind hrestart hhold, receiveByte_tag hrestart hhold,
    foldl_receiveByte_afterTag hrestart hhold, ← checkedBytes, foldl_receiveByte_check hrestart hhold, State.hearing, ← hhunt]

end Sys2Proof.Machine
end


section
/-! ### The bodies of the requests, read back -/

namespace Sys2Proof.Machine

/-! #### Fields of a body -/

theorem drop_append_past {xs ys : List Byte} {n : Nat} (h : xs.length ≤ n) : (xs ++ ys).drop n = ys.drop (n - xs.length) := by
  rw [List.drop_append, List.drop_eq_nil_of_le h, List.nil_append]

/-- A field past the first part of a body is one of the rest. -/
theorem field_append_past {xs ys : List Byte} {off w : Nat} (h : xs.length ≤ off) :
    field (xs ++ ys) off w = field ys (off - xs.length) w := by rw [field, drop_append_past h, field]

theorem sfield_append_past {xs ys : List Byte} {off w : Nat} (h : xs.length ≤ off) :
    sfield (xs ++ ys) off w = sfield ys (off - xs.length) w := by rw [sfield, field_append_past h, sfield]

theorem bfield_append_past {xs ys : List Byte} {off : Nat} (h : xs.length ≤ off) :
    bfield (xs ++ ys) off = bfield ys (off - xs.length) := by
  simp only [bfield, List.getD_eq_getElem?_getD, List.getElem?_append_right h]

theorem field_beBytes {w n : Nat} (h : n < 256 ^ w) (rest : List Byte) : field (beBytes w n ++ rest) 0 w = n := by
  rw [field, List.drop_zero, List.take_left' (beBytes_length w n), beNat_beBytes h]

@[simp] theorem putSigned_length (w : Nat) (x : Int) : (putSigned w x).length = w := beBytes_length _ _

theorem fitsSigned_iff {w : Nat} {x : Int} : fitsSigned w x = true ↔ -(256 ^ w : Nat) ≤ 2 * x ∧ 2 * x < (256 ^ w : Nat) :=
  decide_eq_true_iff

theorem fitsUnsigned_iff {w x : Nat} : fitsUnsigned w x = true ↔ x < 256 ^ w := decide_eq_true_iff

/-- A number in two's complement is read back. -/
theorem signedOf_emod {w : Nat} {x : Int} (h : fitsSigned w x = true) : signedOf w (x % (256 ^ w : Nat)).toNat = x := by
  obtain ⟨hlo, hhi⟩ := fitsSigned_iff.mp h
  have hpos : (0 : Int) < (256 ^ w : Nat) := by exact_mod_cast Nat.pow_pos (by decide)
  generalize hm : (256 ^ w : Nat) = m at *
  rw [signedOf, hm]
  rcases le_or_gt 0 x with hx | hx
  · rw [Int.emod_eq_of_lt hx (by omega), if_pos (by omega), Int.toNat_of_nonneg hx]
  · have hmod : x % (m : Int) = x + m := by
      rw [← Int.add_emod_right, Int.emod_eq_of_lt (by omega) (by omega)]
    rw [hmod, if_neg (by omega), Int.toNat_of_nonneg (by omega)]
    omega

theorem sfield_putSigned {w : Nat} {x : Int} (h : fitsSigned w x = true) (rest : List Byte) :
    sfield (putSigned w x ++ rest) 0 w = x := by
  have hpos : (0 : Int) < (256 ^ w : Nat) := by exact_mod_cast Nat.pow_pos (by decide)
  have hlt : (x % (256 ^ w : Nat)).toNat < 256 ^ w := by
    have h0 := Int.emod_nonneg x (ne_of_gt hpos)
    have h1 := Int.emod_lt_of_pos x hpos
    omega
  rw [sfield, putSigned, field_beBytes hlt, signedOf_emod h]

theorem bfield_cons (b : Byte) (rest : List Byte) : bfield (b :: rest) 0 = b := rfl

/-- The same fields alone in a body. -/
theorem sfield_putSigned_alone {w : Nat} {x : Int} (h : fitsSigned w x = true) : sfield (putSigned w x) 0 w = x := by
  simpa using sfield_putSigned h []

theorem field_beBytes_alone {w n : Nat} (h : n < 256 ^ w) : field (beBytes w n) 0 w = n := by
  simpa using field_beBytes h []

/-! #### The entries of NULL_CHANNELS -/

/-- One entry of a NULL_CHANNELS body as it is written. -/
def putNull (e : Nat × Int) : List Byte := beBytes 1 e.1 ++ putSigned 4 e.2

theorem readNulls_putNull {entries : List (Nat × Int)}
    (h : ∀ e ∈ entries, fitsUnsigned 1 e.1 = true ∧ fitsSigned 4 e.2 = true) :
    readNulls entries.length (entries.flatMap putNull) = entries := by
  induction entries with
  | nil => rfl
  | cons e rest ih =>
    obtain ⟨hchannel, hreference⟩ := h e List.mem_cons_self
    have hrest := ih fun x hx => h x (List.mem_cons_of_mem _ hx)
    have hone : field ((e :: rest).flatMap putNull) 0 1 = e.1 := by
      rw [List.flatMap_cons, putNull, List.append_assoc, field_beBytes (fitsUnsigned_iff.mp hchannel)]
    have htwo : sfield ((e :: rest).flatMap putNull) 1 4 = e.2 := by
      rw [List.flatMap_cons, putNull, List.append_assoc, sfield_append_past (by simp), beBytes_length,
        sfield_putSigned hreference]
    have hdrop : ((e :: rest).flatMap putNull).drop 5 = rest.flatMap putNull := by
      rw [List.flatMap_cons, drop_append_past (by simp [putNull])]
      simp [putNull]
    rw [List.length_cons, readNulls, hone, htwo, hdrop, hrest]

theorem putNulls_length (entries : List (Nat × Int)) : (entries.flatMap putNull).length = 5 * entries.length := by
  induction entries with
  | nil => rfl
  | cons e rest ih =>
    rw [List.flatMap_cons, List.length_append, ih, putNull, List.length_append, beBytes_length, putSigned_length,
      List.length_cons]
    omega

theorem readNullRequest_body {entries : List (Nat × Int)} (h : nullEntriesFit entries = true) :
    readNullRequest (Request.nullChannels entries).body = .nullChannels entries := by
  simp only [nullEntriesFit, Bool.and_eq_true, decide_eq_true_eq, List.all_eq_true] at h
  obtain ⟨hlen, hfit⟩ := h
  have hbody : (Request.nullChannels entries).body = beBytes 1 entries.length ++ entries.flatMap putNull := rfl
  have hcount : field (Request.nullChannels entries).body 0 1 = entries.length := by
    rw [hbody, field_beBytes (by omega)]
  have hlist : (Request.nullChannels entries).body.drop 1 = entries.flatMap putNull := by
    rw [hbody, drop_append_past (by simp), beBytes_length]
    rfl
  have hsize : (Request.nullChannels entries).body.length = 1 + 5 * entries.length := by
    rw [hbody, List.length_append, beBytes_length, putNulls_length]
  rw [readNullRequest, hcount, hlist, hsize, if_pos ⟨rfl, by omega⟩, readNulls_putNull hfit]

/-! #### The segment body -/

theorem putBearer_length (b : BearerBody) : (putBearer b).length = 8 := by simp [putBearer]

theorem readBearers_putBearer {bs : List BearerBody} (h : ∀ b ∈ bs, b.fits = true) :
    readBearers bs.length (bs.flatMap putBearer) = bs := by
  induction bs with
  | nil => rfl
  | cons b rest ih =>
    have hb := h b List.mem_cons_self
    simp only [BearerBody.fits, Bool.and_eq_true, fitsUnsigned_iff] at hb
    obtain ⟨⟨hoffset, hinsertions⟩, hdepth⟩ := hb
    have hdrop : ((b :: rest).flatMap putBearer).drop 8 = rest.flatMap putBearer := by
      rw [List.flatMap_cons, drop_append_past (by rw [putBearer_length]), putBearer_length]
      rfl
    have hbytes : (b :: rest).flatMap putBearer = beBytes 4 b.offset ++ ([b.tamp, b.tilt] ++ (beBytes 1 b.insertions
        ++ (putSigned 1 b.depthOffset ++ rest.flatMap putBearer))) := by
      simp only [List.flatMap_cons, putBearer, List.append_assoc]
    have hread : BearerBody.mk (field ((b :: rest).flatMap putBearer) 0 4) (bfield ((b :: rest).flatMap putBearer) 4)
        (bfield ((b :: rest).flatMap putBearer) 5) (field ((b :: rest).flatMap putBearer) 6 1)
        (sfield ((b :: rest).flatMap putBearer) 7 1) = b := by
      rw [hbytes]
      simp only [field_append_past, sfield_append_past, bfield_append_past, beBytes_length, List.length_cons,
        List.length_nil, Nat.reduceAdd, Nat.reduceSub, Nat.reduceLeDiff, Nat.le_refl, field_beBytes hoffset, field_beBytes hinsertions, sfield_putSigned hdepth]
      rfl
    rw [List.length_cons, readBearers, hread, hdrop, ih fun x hx => h x (List.mem_cons_of_mem _ hx)]

/-- The presence byte tells which parts are there. -/
theorem presence_bits (b : SegmentBody) :
    (BitVec.ofNat 8 (presence b)).getLsbD 0 = b.start.isSome ∧ (BitVec.ofNat 8 (presence b)).getLsbD 1 = b.survey.isSome
      ∧ (BitVec.ofNat 8 (presence b)).getLsbD 2 = b.bearers.isSome ∧ (BitVec.ofNat 8 (presence b)).toNat < 8 := by
  rw [presence]
  cases b.start.isSome <;> cases b.survey.isSome <;> cases b.bearers.isSome <;> decide

/-- The fixed fields of a segment body, read back. -/
theorem putSegment_fields {b : SegmentBody} (h : b.fits = true) :
    bfield (putSegment b) 0 = BitVec.ofNat 8 (presence b) ∧ field (putSegment b) 1 1 = (b.bearers.getD []).length
      ∧ field (putSegment b) 2 2 = b.id ∧ sfield (putSegment b) 4 4 = b.length
      ∧ sfield (putSegment b) 8 2 = b.kh0 ∧ sfield (putSegment b) 10 2 = b.kh1
      ∧ sfield (putSegment b) 12 2 = b.kv0 ∧ sfield (putSegment b) 14 2 = b.kv1
      ∧ sfield (putSegment b) 16 2 = b.cant0 ∧ sfield (putSegment b) 18 2 = b.cant1
      ∧ bfield (putSegment b) 20 = b.grade := by
  simp only [SegmentBody.fits, Bool.and_eq_true, decide_eq_true_eq, fitsUnsigned_iff] at h
  obtain ⟨⟨⟨⟨⟨⟨⟨⟨⟨⟨⟨hid, hlength⟩, hkh0⟩, hkh1⟩, hkv0⟩, hkv1⟩, hcant0⟩, hcant1⟩, -⟩, -⟩, -⟩, hsize⟩ := h
  have hcount : (b.bearers.getD []).length < 256 ^ 1 := by omega
  have hpresence : bfield (putSegment b) 0 = BitVec.ofNat 8 (presence b / 256 ^ 0) := rfl
  rw [Nat.pow_zero, Nat.div_one] at hpresence
  refine ⟨hpresence, ?_⟩
  simp only [putSegment, List.append_assoc, field_append_past, sfield_append_past, bfield_append_past,
    beBytes_length, Nat.reduceSub, Nat.reduceLeDiff, Nat.le_refl, field_beBytes hcount, field_beBytes hid, putSigned_length,
    sfield_putSigned hlength, sfield_putSigned hkh0, sfield_putSigned hkh1, sfield_putSigned hkv0,
    sfield_putSigned hkv1, sfield_putSigned hcant0, sfield_putSigned hcant1, true_and]
  rfl

/-- Past the fixed fields come the parts that may be absent. -/
theorem putSegment_drop (b : SegmentBody) (n : Nat) : (putSegment b).drop (21 + n) = (putOptional b).drop n := by
  have hlen : (putSegment b).length = 21 + (putOptional b).length := by
    simp only [putSegment, List.length_append, beBytes_length, putSigned_length, List.length_cons, List.length_nil]
  rw [putSegment, drop_append_past (by simp)]
  simp

theorem putBearers_length (bs : List BearerBody) : (bs.flatMap putBearer).length = 8 * bs.length := by
  induction bs with
  | nil => rfl
  | cons b rest ih => rw [List.flatMap_cons, List.length_append, ih, putBearer_length, List.length_cons]; omega

theorem putSegment_length (b : SegmentBody) :
    (putSegment b).length = segmentLength b.start.isSome b.survey.isSome (b.bearers.getD []).length := by
  have hopt : (putOptional b).length = (if b.start.isSome then 4 else 0) + (if b.survey.isSome then 8 else 0)
      + 8 * (b.bearers.getD []).length := by
    rw [putOptional, List.length_append, List.length_append, putBearers_length]
    cases b.start <;> cases b.survey <;> simp [putSurvey]
  simp only [putSegment, List.length_append, beBytes_length, putSigned_length, List.length_cons, List.length_nil, hopt,
    segmentLength]
  omega

theorem segmentShapeOk_putSegment {b : SegmentBody} (h : b.fits = true) : segmentShapeOk (putSegment b) = true := by
  obtain ⟨hpresence, hcount, -⟩ := putSegment_fields h
  obtain ⟨hstart, hsurvey, hbearers, hknown⟩ := presence_bits b
  simp only [segmentShapeOk, hpresence, hcount, hstart, hsurvey, hbearers, hknown, putSegment_length]
  have hlist : b.bearers.isSome = true ∨ (b.bearers.getD []).length = 0 := by cases b.bearers <;> simp
  simp only [segmentLength, Bool.and_eq_true, Bool.or_eq_true, decide_eq_true_eq, and_true]
  exact ⟨decide_eq_true (by omega), hlist⟩

/-- The survey part, read back. -/
theorem readSurvey_put {v : Survey} (h : v.fits = true) (rest : List Byte) :
    Survey.mk (sfield (putSurvey v ++ rest) 0 2) (sfield (putSurvey v ++ rest) 2 2) (sfield (putSurvey v ++ rest) 4 2)
      (sfield (putSurvey v ++ rest) 6 2) = v := by
  simp only [Survey.fits, Bool.and_eq_true] at h
  obtain ⟨⟨⟨hlat0, hlat1⟩, hvert0⟩, hvert1⟩ := h
  simp only [putSurvey, List.append_assoc, sfield_append_past, Nat.reduceSub, Nat.reduceLeDiff, Nat.le_refl,
    putSigned_length, sfield_putSigned hlat0, sfield_putSigned hlat1,
    sfield_putSigned hvert0, sfield_putSigned hvert1]

theorem sfield_drop (bytes : List Byte) (m n w : Nat) : sfield (bytes.drop m) n w = sfield bytes (m + n) w := by
  simp only [sfield, field, List.drop_drop]

/-- The survey part as it is written, or nothing. -/
def putSurveyPart (b : SegmentBody) : List Byte :=
  match b.survey with
  | some v => putSurvey v
  | none => []

/-- The list of bearers stands at the end of the body. -/
def putTail (b : SegmentBody) : List Byte := putSurveyPart b ++ (b.bearers.getD []).flatMap putBearer

theorem putOptional_eq (b : SegmentBody) : putOptional b = (match b.start with
    | some x => putSigned 4 x
    | none => []) ++ putTail b := List.append_assoc _ _ _

/-- A segment body that fits is read back whole (segment body table of 11). -/
theorem readSegment_putSegment {b : SegmentBody} (h : b.fits = true) : readSegment (putSegment b) = b := by
  obtain ⟨hpresence, hcount, hid, hlength, hkh0, hkh1, hkv0, hkv1, hcant0, hcant1, hgrade⟩ := putSegment_fields h
  obtain ⟨hbit0, hbit1, hbit2, -⟩ := presence_bits b
  simp only [SegmentBody.fits, Bool.and_eq_true, decide_eq_true_eq] at h
  obtain ⟨⟨⟨⟨-, hstart⟩, hsurvey⟩, hbearers⟩, -⟩ := h
  have htail : (putSegment b).drop (if b.start.isSome then 25 else 21) = putTail b := by
    have hfrom : (if b.start.isSome then 25 else 21) = 21 + (if b.start.isSome then 4 else 0) := by split <;> rfl
    rw [hfrom, putSegment_drop, putOptional_eq]
    cases b.start with
    | none => rfl
    | some x => exact (drop_append_past (by simp)).trans (by simp)
  have hfirst : (if b.start.isSome then some (sfield (putSegment b) 21 4) else none) = b.start := by
    have hat : sfield (putSegment b) 21 4 = sfield (putOptional b) 0 4 := by
      rw [← sfield_drop _ 21 0, putSegment_drop b 0, List.drop_zero]
    rw [hat, putOptional_eq]
    cases hx : b.start with
    | none => rfl
    | some x =>
      rw [hx] at hstart
      exact congrArg some (sfield_putSigned hstart _)
  have hsurveyed : (if b.survey.isSome then some (Survey.mk (sfield (putTail b) 0 2) (sfield (putTail b) 2 2)
      (sfield (putTail b) 4 2) (sfield (putTail b) 6 2)) else none) = b.survey := by
    rw [putTail, putSurveyPart]
    cases hv : b.survey with
    | none => rfl
    | some v =>
      rw [hv] at hsurvey
      exact congrArg some (readSurvey_put hsurvey _)
  have hlist : (if b.survey.isSome then (putTail b).drop 8 else putTail b) = (b.bearers.getD []).flatMap putBearer := by
    rw [putTail, putSurveyPart]
    cases b.survey with
    | none => rfl
    | some v => exact (drop_append_past (by simp [putSurvey])).trans (by simp [putSurvey])
  have hread : (if b.bearers.isSome then
      some (readBearers (b.bearers.getD []).length ((b.bearers.getD []).flatMap putBearer)) else none) = b.bearers := by
    rw [readBearers_putBearer fun x hx => List.all_eq_true.mp hbearers x hx]
    cases b.bearers <;> rfl
  rw [readSegment, hpresence, hbit0, hbit1, hbit2, hcount, hid, hlength, hkh0, hkh1, hkv0, hkv1, hcant0, hcant1, hgrade]
  rw [htail, hfirst, hlist, hsurveyed, hread]

/-! #### Every request -/

theorem ofNat_field_beBytes (w : Nat) (x : BitVec (8 * w)) (rest : List Byte) :
    BitVec.ofNat (8 * w) (field (beBytes w x.toNat ++ rest) 0 w) = x := by
  have hlt : x.toNat < 256 ^ w := by
    have := x.isLt
    rwa [Nat.pow_mul] at this
  rw [field_beBytes hlt, BitVec.ofNat_toNat, BitVec.setWidth_eq]

theorem body_length_le {r : Request} (h : r.fits = true) : r.body.length ≤ 240 := by
  cases r
  case nullChannels entries =>
    simp only [Request.fits, nullEntriesFit, Bool.and_eq_true, decide_eq_true_eq] at h
    have hsize : (entries.flatMap putNull).length = _ := putNulls_length entries
    show (beBytes 1 entries.length ++ entries.flatMap putNull).length ≤ 240
    rw [List.length_append, beBytes_length, hsize]
    omega
  case segmentAppend b =>
    simp only [Request.fits, SegmentBody.fits, Bool.and_eq_true, decide_eq_true_eq] at h
    rw [Request.body, putSegment_length, segmentLength]
    exact h.2
  all_goals simp [Request.body]

/-- A request of a fixed length of body. -/
theorem sized_eq {bytes : List Byte} {n : Nat} {r r' : Request} (hlen : bytes.length = n) (hr : r = r') :
    sized bytes n r = r' := (if_pos hlen).trans hr

/-- Settles O13, request by request. -/
theorem requestReadsBack : Obligations.RequestReadsBack := by
  intro r h
  refine ⟨?_, body_length_le h⟩
  cases r
  case unknownKind => exact absurd h (by decide)
  case badLength => exact absurd h (by decide)
  case nullChannels entries => exact readNullRequest_body h
  case setChainage x =>
    exact sized_eq (putSigned_length 4 x) (congrArg Request.setChainage (sfield_putSigned_alone h))
  case segmentTruncate x =>
    exact sized_eq (putSigned_length 4 x) (congrArg Request.segmentTruncate (sfield_putSigned_alone h))
  case segmentAppend b =>
    exact (if_pos (segmentShapeOk_putSegment h)).trans (congrArg Request.segmentAppend (readSegment_putSegment h))
  case setEnables notices stops =>
    have hnotices := ofNat_field_beBytes 3 notices (beBytes 3 stops.toNat)
    have hstops : BitVec.ofNat 24 (field (beBytes 3 notices.toNat ++ beBytes 3 stops.toNat) 3 3) = stops := by
      rw [field_append_past (by simp), beBytes_length]
      simpa using ofNat_field_beBytes 3 stops []
    exact sized_eq (by simp [Request.body]) (congrArg₂ Request.setEnables hnotices hstops)
  case clearFlags set =>
    have hread : BitVec.ofNat 24 (field (beBytes 3 set.toNat) 0 3) = set := by simpa using ofNat_field_beBytes 3 set []
    exact sized_eq (beBytes_length 3 _) (congrArg Request.clearFlags hread)
  case configure id value =>
    have hread : BitVec.ofNat 32 (field ([id] ++ beBytes 4 value.toNat) 1 4) = value := by
      rw [field_append_past (by simp)]
      simpa using ofNat_field_beBytes 4 value []
    exact sized_eq (by simp [Request.body]) (congrArg₂ Request.configure rfl hread)
  all_goals rfl

end Sys2Proof.Machine
end


section
/-! ### The image of the store -/

namespace Sys2Proof.Machine

/-! #### Every value of a legal set lies within its range, and fits four bytes -/

theorem within_of {lo hi v : Nat} (h : lo ≤ v ∧ v ≤ hi) : within lo hi v = true := decide_eq_true h

theorem within_toNat {lo hi : Nat} {x : Int} (h : (lo : Int) ≤ x ∧ x ≤ hi) : within lo hi x.toNat = true :=
  within_of (by omega)

theorem inRange_widths {lo hi : Int} (hmin : 80 ≤ lo ∧ lo ≤ 400) (hmax : 150 ≤ hi ∧ hi ≤ 600) :
    inRange 34 (65536 * lo.toNat + hi.toNat) = true :=
  Bool.and_eq_true_iff.mpr ⟨within_of (by omega), within_of (by omega)⟩

theorem inRange_polarity (x : ChannelSet) (low : Bool) :
    inRange 39 (x.toNat + (if low then 1024 else 0)) = true := by
  have hx := x.isLt
  refine decide_eq_true ?_
  cases low <;> simp <;> omega

/-- The range check of CONFIGURE and of the image is met by every value of a set within its ranges. -/
theorem Params.Ranged.inRange {p : Params} (h : p.Ranged) {id : Nat} (hid : 1 ≤ id ∧ id ≤ 39) :
    inRange id (p.value id) = true := by
  unfold Params.value
  split
  · exact within_toNat h.p01
  · exact within_toNat h.p02
  · exact within_toNat h.p03
  · exact within_toNat h.p04
  · exact within_toNat h.p05
  · exact within_toNat h.p06
  · exact within_toNat h.p07
  · exact within_toNat h.p08
  · exact within_toNat h.p09
  · exact within_toNat h.p10
  · exact within_toNat h.p11
  · exact within_toNat h.p12
  · exact within_toNat h.p13
  · exact within_toNat h.p14
  · exact within_toNat h.p15
  · exact within_toNat h.p16
  · exact within_toNat h.p17
  · exact within_toNat h.p18
  · exact within_toNat h.p19
  · exact within_toNat h.p20
  · exact within_of h.p21
  · exact within_of h.p22
  · exact within_of ⟨Nat.zero_le _, h.p23⟩
  · exact within_toNat h.p24
  · exact within_toNat h.p25
  · exact within_toNat h.p26
  · exact within_of h.p27
  · exact within_of h.p28
  · exact within_of h.p29
  · exact within_of h.p30
  · cases p.p31 <;> decide
  · exact within_of h.p32
  · exact within_toNat h.p33
  · exact inRange_widths h.p34min h.p34max
  · exact within_toNat h.p35
  · exact within_toNat h.p36
  · exact Bool.or_eq_true_iff.mpr (h.p37.imp decide_eq_true within_of)
  · exact within_of ⟨Nat.zero_le _, h.p38⟩
  · exact inRange_polarity _ _
  · exfalso
    simp only [imp_false] at *
    omega

/-- A value that fits its range fits four bytes. -/
theorem lt_of_inRange {id v : Nat} (h : inRange id v = true) : v < 256 ^ 4 := by
  unfold inRange at h
  split at h <;> simp [within] at h <;> omega

/-! #### The values stand in the image one after another -/

theorem flatMap_length_four {f : Nat → List Byte} (hf : ∀ id, (f id).length = 4) (ids : List Nat) :
    (ids.flatMap f).length = 4 * ids.length := by
  induction ids with
  | nil => rfl
  | cons id rest ih => rw [List.flatMap_cons, List.length_append, hf, ih, List.length_cons]; omega

theorem flatMap_four {f : Nat → List Byte} (hf : ∀ id, (f id).length = 4) {ids : List Nat} {i id : Nat}
    (h : ids[i]? = some id) (rest : List Byte) : ((ids.flatMap f ++ rest).drop (4 * i)).take 4 = f id := by
  induction ids generalizing i with
  | nil => exact absurd h (by simp)
  | cons x xs ih =>
    rw [List.flatMap_cons, List.append_assoc]
    cases i with
    | zero =>
      obtain rfl := Option.some.inj h
      rw [Nat.mul_zero, List.drop_zero, List.take_left' (hf x)]
    | succ i =>
      rw [drop_append_past (by rw [hf]; omega), hf, Nat.mul_succ, Nat.add_sub_cancel]
      exact ih h

theorem allIds_get {id : Nat} (h : 1 ≤ id ∧ id ≤ 39) : allIds[id - 1]? = some id := by
  have hlt : id - 1 < 39 := by omega
  simp only [allIds, List.getElem?_map, List.getElem?_range hlt, Option.map_some]
  rw [Nat.sub_add_cancel h.1]

theorem mem_allIds {id : Nat} (h : id ∈ allIds) : 1 ≤ id ∧ id ≤ 39 := by
  simp only [allIds, List.mem_map, List.mem_range] at h
  omega

theorem valueBytes_length (p : Params) : (valueBytes p).length = 156 := flatMap_length_four (fun _ => beBytes_length 4 _) _

theorem imageOf_length (p : Params) : (imageOf p).length = 158 := by
  rw [imageOf, List.length_append, valueBytes_length, beBytes_length]

theorem imageValue_imageOf {p : Params} (h : p.Ranged) {id : Nat} (hid : 1 ≤ id ∧ id ≤ 39) :
    imageValue (imageOf p) id = p.value id := by
  rw [imageValue, imageOf, valueBytes, flatMap_four (fun _ => beBytes_length 4 _) (allIds_get hid),
    beNat_beBytes (lt_of_inRange (h.inRange hid))]

/-! #### The values put back -/

/-- A parameter set as its own values give it. -/
def Params.reread (p : Params) : Params where
  p01 := p.p01.toNat
  p02 := p.p02.toNat
  p03 := p.p03.toNat
  p04 := p.p04.toNat
  p05 := p.p05.toNat
  p06 := p.p06.toNat
  p07 := p.p07.toNat
  p08 := p.p08.toNat
  p09 := p.p09.toNat
  p10 := p.p10.toNat
  p11 := p.p11.toNat
  p12 := p.p12.toNat
  p13 := p.p13.toNat
  p14 := p.p14.toNat
  p15 := p.p15.toNat
  p16 := p.p16.toNat
  p17 := p.p17.toNat
  p18 := p.p18.toNat
  p19 := p.p19.toNat
  p20 := p.p20.toNat
  p21 := p.p21
  p22 := p.p22
  p23 := p.p23
  p24 := p.p24.toNat
  p25 := p.p25.toNat
  p26 := p.p26.toNat
  p27 := p.p27
  p28 := p.p28
  p29 := p.p29
  p30 := p.p30
  p31 := if squeezeCode p.p31 = 0 then .time else .pressure
  p32 := p.p32
  p33 := p.p33.toNat
  p34min := ((65536 * p.p34min.toNat + p.p34max.toNat) / 65536 : Nat)
  p34max := ((65536 * p.p34min.toNat + p.p34max.toNat) % 65536 : Nat)
  p35 := p.p35.toNat
  p36 := p.p36.toNat
  p37 := p.p37
  p38 := p.p38
  p39polarity := BitVec.ofNat 10 ((p.p39polarity.toNat + (if p.p39low then 1024 else 0)) % 1024)
  p39low := decide (1024 ≤ p.p39polarity.toNat + (if p.p39low then 1024 else 0))

theorem foldl_put_value (p : Params) : allIds.foldl (fun q id => q.put id (p.value id)) .defaults = p.reread := by
  have hids : allIds = [1, 2, 3, 4, 5, 6, 7, 8, 9, 10, 11, 12, 13, 14, 15, 16, 17, 18, 19, 20, 21, 22, 23, 24, 25, 26,
    27, 28, 29, 30, 31, 32, 33, 34, 35, 36, 37, 38, 39] := rfl
  rw [hids]
  simp only [List.foldl_cons, List.foldl_nil, Params.put, Params.value, Params.reread]

theorem reread_eq {p : Params} (h : p.Ranged) : p.reread = p := by
  have hint {lo hi x : Int} (hlo : 0 ≤ lo) (hx : lo ≤ x ∧ x ≤ hi) : (x.toNat : Int) = x :=
    Int.toNat_of_nonneg (hlo.trans hx.1)
  have hmin : (((65536 * p.p34min.toNat + p.p34max.toNat) / 65536 : Nat) : Int) = p.p34min := by
    have := h.p34min
    have := h.p34max
    omega
  have hmax : (((65536 * p.p34min.toNat + p.p34max.toNat) % 65536 : Nat) : Int) = p.p34max := by
    have := h.p34min
    have := h.p34max
    omega
  have hmode : (if squeezeCode p.p31 = 0 then .time else .pressure) = p.p31 := by cases p.p31 <;> rfl
  have hpolarity : BitVec.ofNat 10 ((p.p39polarity.toNat + (if p.p39low then 1024 else 0)) % 1024)
      = p.p39polarity := by
    refine BitVec.eq_of_toNat_eq ?_
    have hlt := p.p39polarity.isLt
    rw [BitVec.toNat_ofNat]
    split <;> omega
  have hlow : decide (1024 ≤ p.p39polarity.toNat + (if p.p39low then 1024 else 0)) = p.p39low := by
    have hlt := p.p39polarity.isLt
    cases p.p39low
    · exact decide_eq_false (by simpa using hlt)
    · exact decide_eq_true (Nat.le_add_left _ _)
  rw [Params.reread, hmin, hmax, hmode, hpolarity, hlow,
    hint (by decide) h.p01, hint (by decide) h.p02, hint (by decide) h.p03, hint (by decide) h.p04, hint (by
    decide) h.p05, hint (by decide) h.p06, hint (by decide) h.p07, hint (by decide) h.p08, hint (by decide)
    h.p09, hint (by decide) h.p10, hint (by decide) h.p11, hint (by decide) h.p12, hint (by decide) h.p13,
    hint (by decide) h.p14, hint (by decide) h.p15, hint (by decide) h.p16, hint (by decide) h.p17, hint (by
    decide) h.p18, hint (by decide) h.p19, hint (by decide) h.p20, hint (by decide) h.p24, hint (by decide)
    h.p25, hint (by decide) h.p26, hint (by decide) h.p33, hint (by decide) h.p35, hint (by decide) h.p36]

theorem imageParams_imageOf {p : Params} (h : p.Ranged) : imageParams (imageOf p) = p := by
  have hfold : imageParams (imageOf p) = allIds.foldl (fun q id => q.put id (p.value id)) .defaults :=
    List.foldl_ext _ _ _ fun q id hid => by rw [imageValue_imageOf h (mem_allIds hid)]
  rw [hfold, foldl_put_value, reread_eq h]

/-- Settles O15: the image's values are the set's, so that it is valid and gives the set back. -/
theorem savedImageLoads : Obligations.SavedImageLoads := by
  intro p h
  refine ⟨imageOf_length p, ?_⟩
  have hvalid : imageValid (imageOf p) = true := by
    have hword : beNat ((imageOf p).drop 156) = crc16 ((imageOf p).take 156) := by
      rw [imageOf, drop_append_past (by rw [valueBytes_length]), valueBytes_length,
        List.take_left' (valueBytes_length p), Nat.sub_self, List.drop_zero, beNat_beBytes (crc16_lt _)]
    simp only [imageValid, imageOf_length, hword, imageParams_imageOf h.ranged, (Params.crossOk_iff p).mpr h.crossed,
      Bool.and_true, decide_true, Bool.true_and, List.all_eq_true]
    intro id hid
    rw [imageValue_imageOf h.ranged (mem_allIds hid)]
    exact h.ranged.inRange (mem_allIds hid)
  rw [loadImage, if_pos hvalid, imageParams_imageOf h.ranged]

end Sys2Proof.Machine
end


section
/-! ### Power, the store and the port's own rows -/

namespace Sys2Proof.Machine

/-! #### POWER_FAILURE and SAVE_COMPLETE -/

theorem tornImage_length (s : State) : s.tornImage.length = 158 := by rw [State.tornImage, List.length_map, List.length_range]

/-- The reply of a SAVE_SETTINGS that is being taken, with no request behind it. -/
theorem answerSave_last {s : State} {before : List QueuedRequest} {q : QueuedRequest} (status : Status)
    (hr : s.link.requests = before ++ [q]) (hbefore : ∀ r ∈ before, r.progress = .replied) (hq : q.progress = .taking)
    (hpower : s.powered = true) : arbitrate (answerSave status s) = { s with link := { s.link with
      requests := before ++ [{ q with progress := .replied }]
      replies := s.link.replies ++ [⟨q.kind, q.tag, status, []⟩]
      tx := sendingReply s.link.tx s.link.full (s.link.replies ++ [⟨q.kind, q.tag, status, []⟩]) s.clock } } := by
  have hunreplied : q.progress ≠ .replied := by rw [hq]; decide
  rw [answerSave, nextRequest_append hr hbefore hunreplied]
  dsimp only
  rw [takeRequests_settled (makeReply_settled status [] hr hbefore hunreplied),
    arbitrate_reply (s := makeReply q status [] s) hpower (by simp [makeReply]), makeReply, State.modLink, hr,
    markNext_append _ hbefore hunreplied]

/-- Settles O22: the loss of power with and without a save, and the two ends of a save. -/
theorem storeWritesEnd : Obligations.StoreWritesEnd := by
  refine ⟨fun s dt => ⟨fun hpower hidle => ?_, fun hpower image hsaving => ?_⟩, ?_⟩
  · have hnone : (s.beginAt dt).store.saving = none := hidle
    show Host.Outcome.next (if (s.beginAt dt).powered then losePower (s.beginAt dt) else _) = _
    rw [if_pos (by exact hpower), losePower, hnone]
    rfl
  · have hsome : (s.beginAt dt).store.saving = some image := hsaving
    refine ⟨(s.beginAt dt).tornImage, s.freeNext + 1, tornImage_length _, ?_⟩
    show Host.Outcome.next (if (s.beginAt dt).powered then losePower (s.beginAt dt) else _) = _
    rw [if_pos (by exact hpower), losePower, hsome]
    rfl
  · intro s dt image before q hpower hsaving hr hbefore hq
    have hexec (matched : Bool) : exec (.saveComplete dt matched) s = .next (arbitrate
        (answerSave (if matched then .ok else .storeFailed) (endSave matched image (s.beginAt dt)))) := by
      show execSaveComplete dt matched s = _
      rw [execSaveComplete, hpower, hsaving]
    refine ⟨?_, (s.beginAt dt).tornImage, s.freeNext + 1, tornImage_length _, ?_⟩
    · rw [hexec, answerSave_last (s := endSave true image (s.beginAt dt)) _ hr hbefore hq hpower]
      rfl
    · rw [hexec, answerSave_last (s := endSave false image (s.beginAt dt)) _ hr hbefore hq hpower]
      rfl

/-! #### TRANSMIT_END -/

theorem exec_transmitEnd {s : State} {x : Transmission} (hpower : s.powered = true) (htx : s.link.tx = some x) :
    exec .transmitEnd s = .next (arbitrate (restartIfDue (frameSent x.source (s.beginBy x.ends)))) := by
  show execTransmitEnd s = _
  rw [execTransmitEnd, hpower, htx]

/-- Nothing restarts while no RESTART waits. -/
theorem restartIfDue_running {s : State} (h : s.link.restart = false) : restartIfDue s = s :=
  if_neg (by simp [restartDue, h])

/-- Settles O42: what each kind of transmission takes out of its place. -/
theorem transmissionEnds : Obligations.TransmissionEnds := by
  intro s x hpower hrestart htx
  have hexec (source : TxSource) (hsource : x.source = source) : exec .transmitEnd s
      = .next (arbitrate (frameSent source (s.beginBy x.ends))) := by
    rw [exec_transmitEnd hpower htx, hsource,
      restartIfDue_running (s := frameSent source (s.beginBy x.ends)) ((frameSent_restart _ _).trans hrestart)]
  refine ⟨fun h => hexec _ h, fun h => hexec _ h, fun h => ?_, fun h => hexec _ h⟩
  rw [hexec _ h]
  show Host.Outcome.next (arbitrate (departRecord ((s.beginBy x.ends).modLink fun l => { l with tx := none }))) = _
  rw [departRecord]
  simp only [Bool.and_eq_true, List.isEmpty_iff]
  rfl

/-! #### The assembler is the port's own -/

/-- An operation neither reads nor changes the receive assembler. -/
def SkipsAssembler (f : State → State) : Prop := ∀ (a : Assembler) (s : State), f (assemble a s) = assemble a (f s)

theorem modAxis_assemble (b : Assembler) (s : State) (a : AxisId) (f : Axis → Axis) :
    (assemble b s).modAxis a f = assemble b (s.modAxis a f) := rfl

theorem modHead_assemble (b : Assembler) (s : State) (u : UnitId) (f : Head → Head) :
    (assemble b s).modHead u f = assemble b (s.modHead u f) := rfl

theorem modCyc_assemble (b : Assembler) (s : State) (f : Cycle → Cycle) :
    (assemble b s).modCyc f = assemble b (s.modCyc f) := rfl

namespace SkipsAssembler

theorem comp {f g : State → State} (hf : SkipsAssembler f) (hg : SkipsAssembler g) : SkipsAssembler fun s => f (g s) :=
  fun a s => (congrArg f (hg a s)).trans (hf a (g s))

theorem fold {α : Type} {f : State → α → State} (h : ∀ x, SkipsAssembler fun s => f s x) (l : List α) :
    SkipsAssembler fun s => l.foldl f s := by
  intro a s
  induction l generalizing s with
  | nil => rfl
  | cons x xs ih => exact (congrArg (fun t => xs.foldl f t) (h x a s)).trans (ih (f s x))

/-- A branch whose condition does not read the assembler. -/
theorem ite {c : State → Prop} [DecidablePred c] {f g : State → State} (hc : ∀ a s, c (assemble a s) ↔ c s)
    (hf : SkipsAssembler f) (hg : SkipsAssembler g) : SkipsAssembler fun s => if c s then f s else g s := by
  intro a s
  dsimp only
  by_cases h : c s
  · rw [if_pos h, if_pos ((hc a s).mpr h), hf]
  · rw [if_neg h, if_neg fun h' => h ((hc a s).mp h'), hg]

theorem id : SkipsAssembler fun s => s := fun _ _ => rfl

theorem fillCondition (f : Flag) : SkipsAssembler (fillCondition f) := fun a s => by
  rw [fillCondition_eq, fillCondition_eq]
  rfl

theorem armStop (f : Flag) : SkipsAssembler (armStop f) := ite (fun _ _ => Iff.rfl) (fun _ _ => rfl) id

theorem setFlag (f : Flag) : SkipsAssembler (setFlag f) :=
  ite (fun _ _ => Iff.rfl) id ((armStop f).comp
    (ite (f := fun s => Machine.fillCondition f (s.modCond fun c => { c with flags := flagAdd f c.flags }))
      (fun _ _ => Iff.rfl) ((fillCondition f).comp fun _ _ => rfl) fun _ _ => rfl))

theorem recordFlag (f : Flag) : SkipsAssembler (recordFlag f) := (setFlag f).comp fun _ _ => rfl

theorem refreshDemand : SkipsAssembler refreshDemand :=
  ite (fun _ _ => Iff.rfl) ((setFlag .strokeLow).comp fun _ _ => rfl) fun _ _ => rfl

theorem rideDrive : SkipsAssembler rideDrive := refreshDemand.comp fun _ _ => rfl

theorem enterMode (m : Mode) : SkipsAssembler (enterMode m) := refreshDemand.comp fun a s => by
  rw [fillMode_eq, fillMode_eq]
  rfl

theorem measureOvershoot (a : AxisId) : SkipsAssembler (measureOvershoot a) := by
  intro b s
  have hreading : axisReading a (assemble b s) = axisReading a s := rfl
  have haxes : (assemble b s).axes = s.axes := rfl
  unfold Machine.measureOvershoot
  rw [hreading, haxes]
  cases a
  case line => rfl
  all_goals
    cases axisReading _ s with
    | none => rfl
    | some vm =>
      dsimp only
      split_ifs
      · rw [modAxis_assemble, recordFlag]
      · rfl

theorem takeRelease (a : AxisId) : SkipsAssembler (takeRelease a) := by
  intro b s
  have haxes : (assemble b s).axes = s.axes := rfl
  unfold Machine.takeRelease
  rw [haxes]
  split
  · rw [modAxis_assemble, measureOvershoot]
    rfl
  · rfl
  · rfl

theorem releaseAxes : SkipsAssembler releaseAxes :=
  fold (fun a => ite (c := fun s => anySqueezing s = true) (fun _ _ => Iff.rfl) (fun _ _ => rfl) (takeRelease a)) allAxes

theorem endPhase (u : UnitId) : SkipsAssembler (endPhase u) :=
  ite (fun _ _ => Iff.rfl) (fun _ _ => rfl) ((recordFlag .lowPressure).comp fun _ _ => rfl)

theorem seePressure (u : UnitId) : SkipsAssembler (seePressure u) :=
  ite (fun _ _ => Iff.rfl) (ite (c := fun s => (s.heads.get u).squeezeMode = .pressure) (fun _ _ => Iff.rfl)
    ((endPhase u).comp fun _ _ => rfl) fun _ _ => rfl) id

theorem enterSqueezing (u : UnitId) : SkipsAssembler (enterSqueezing u) :=
  ite (fun _ _ => Iff.rfl) ((seePressure u).comp fun _ _ => rfl) fun _ _ => rfl

theorem judgeGate (u : UnitId) : SkipsAssembler (judgeGate u) := ite (fun _ _ => Iff.rfl) (enterSqueezing u) id

theorem enterInserted (u : UnitId) : SkipsAssembler (enterInserted u) := (judgeGate u).comp fun _ _ => rfl

theorem judgeLowering (u : UnitId) : SkipsAssembler (judgeLowering u) := by
  intro a s
  have hdepth : depthOf u (assemble a s) = depthOf u s := rfl
  have hheads : (assemble a s).heads = s.heads := rfl
  unfold Machine.judgeLowering
  rw [hdepth, hheads]
  split
  · split_ifs
    exacts [enterInserted u a s, rfl]
  · rfl

theorem enterLowering (u : UnitId) : SkipsAssembler (enterLowering u) := (judgeLowering u).comp fun _ _ => rfl

theorem takeLower (u : UnitId) (p : HeadPlan) : SkipsAssembler (takeLower u p) :=
  ite (fun _ _ => Iff.rfl) ((enterLowering u).comp fun _ _ => rfl) fun _ _ => rfl

theorem enterUp (u : UnitId) : SkipsAssembler (enterUp u) := by
  intro a s
  have hheads : (assemble a s).heads = s.heads := rfl
  unfold Machine.enterUp
  dsimp only
  rw [hheads]
  split
  · split_ifs
    · rw [modHead_assemble, takeLower]
    · rfl
  · rfl

theorem judgeRaising (u : UnitId) : SkipsAssembler (judgeRaising u) := by
  intro a s
  have hdepth : depthOf u (assemble a s) = depthOf u s := rfl
  have hheads : (assemble a s).heads = s.heads := rfl
  unfold Machine.judgeRaising
  rw [hdepth, hheads]
  split
  · split_ifs
    exacts [enterUp u a s, rfl]
  · rfl

theorem enterRaising (u : UnitId) : SkipsAssembler (enterRaising u) := (judgeRaising u).comp fun _ _ => rfl

theorem abortHead (u : UnitId) : SkipsAssembler (abortHead u) := by
  intro a s
  have hheads : (assemble a s).heads = s.heads := rfl
  unfold Machine.abortHead
  rw [hheads]
  split
  case h_1 | h_2 => exact enterRaising u a s
  all_goals rfl

theorem abortHeads : SkipsAssembler abortHeads := fold abortHead allUnits

theorem orderlyHalt (f : Flag) : SkipsAssembler (orderlyHalt f) := fun a s => by
  rw [Machine.orderlyHalt, Machine.orderlyHalt, haltOrders, haltOrders, enterHalted, enterHalted, modCyc_assemble,
    enterMode, rideDrive, abortHeads, releaseAxes]

theorem actOnStop : SkipsAssembler actOnStop := by
  intro a s
  have harmed : (assemble a s).cond = s.cond := rfl
  have hcyc : (assemble a s).cyc = s.cyc := rfl
  unfold Machine.actOnStop
  rw [harmed, hcyc]
  split
  · split_ifs
    exacts [orderlyHalt _ a s, rfl]
  · rfl

theorem raiseFlag (f : Flag) : SkipsAssembler (raiseFlag f) := actOnStop.comp (setFlag f)

end SkipsAssembler

/-! #### The bytes -/

section bytes
variable {s : State} {dt : Nat} {b : Byte}

theorem takeByte_powered (hpower : s.powered = true) (low : Bool) :
    takeByte dt b low s = arbitrate (receiveByte b low (s.beginAt dt)) := if_pos hpower

/-- The state in which a byte has come, the assembler in a state. -/
def State.stamped (s : State) (dt : Nat) (a : Assembler) : State :=
  { s.beginAt dt with link := { s.link with assembler := a, lastByte := s.clock + dt } }

theorem receiveByte_heard (hrestart : s.link.restart = false) (hhold : s.link.hold = false) (low : Bool) :
    receiveByte b low (s.beginAt dt) = assemblerByte b low (s.beginAt dt) := by
  have hoff : (s.beginAt dt).link.restart = false := hrestart
  have hhear : (s.beginAt dt).link.hold = false := hhold
  rw [receiveByte, hoff, hhear]
  rfl

/-- A byte in HUNT. -/
theorem assemblerByte_hunt (h : s.link.assembler = .hunt) (low : Bool) : assemblerByte b low (s.beginAt dt)
    = s.stamped dt (if b = 0xA5 ∧ low = false then .length else .hunt) := by
  have hhunt : (s.beginAt dt).link.assembler = .hunt := h
  rw [assemblerByte, if_pos hhunt, huntByte, syncByte]
  split
  · rfl
  · rw [State.stamped, ← h]
    rfl

/-- A byte in a frame, in time and with its stop bit high. -/
theorem assemblerByte_frame (h : s.link.assembler ≠ .hunt) (htime : s.clock + dt ≤ s.link.lastByte + 5043) :
    assemblerByte b false (s.beginAt dt) = assembleByte b (s.stamped dt s.link.assembler) := by
  have hin : (s.beginAt dt).link.assembler ≠ .hunt := h
  have hlate : byteLate (s.beginAt dt) = false := decide_eq_false (Nat.not_lt.mpr htime)
  rw [assemblerByte, if_neg hin, hlate]
  rfl

theorem discardFrame_stamped (a : Assembler) :
    discardFrame (s.stamped dt a) = raiseFlag .linkError (s.stamped dt .hunt) := rfl

/-- A byte in a frame with its stop bit low. -/
theorem assemblerByte_low (h : s.link.assembler ≠ .hunt) (htime : s.clock + dt ≤ s.link.lastByte + 5043) :
    assemblerByte b true (s.beginAt dt) = raiseFlag .linkError (s.stamped dt .hunt) := by
  have hin : (s.beginAt dt).link.assembler ≠ .hunt := h
  have hlate : byteLate (s.beginAt dt) = false := decide_eq_false (Nat.not_lt.mpr htime)
  rw [assemblerByte, if_neg hin, hlate]
  rfl

end bytes

end Sys2Proof.Machine
end


section
/-! ### The bytes and the frames that come -/

namespace Sys2Proof.Machine

/-- A late byte in a frame discards it and is taken in HUNT. -/
theorem assemblerByte_late {s : State} {dt : Nat} {b : Byte} (h : s.link.assembler ≠ .hunt)
    (hlate : s.link.lastByte + 5043 < s.clock + dt) (low : Bool) : assemblerByte b low (s.beginAt dt)
      = raiseFlag .linkError (s.stamped dt (if b = 0xA5 ∧ low = false then .length else .hunt)) := by
  have hin : (s.beginAt dt).link.assembler ≠ .hunt := h
  have hafter : byteLate (s.beginAt dt) = true := decide_eq_true hlate
  have hdiscard : assemblerByte b low (s.beginAt dt) = huntByte b low (raiseFlag .linkError (s.stamped dt .hunt)) := by
    rw [assemblerByte, if_neg hin, if_pos hafter]
    rfl
  rw [hdiscard, huntByte, syncByte]
  split
  · exact (SkipsAssembler.raiseFlag .linkError .length (s.stamped dt .hunt)).symm
  · rfl

/-- Settles O40: the assembler's states, and the bytes that are dropped or discard a frame. -/
theorem bytesTaken : Obligations.BytesTaken := by
  refine ⟨fun s dt b hpower hrestart hhold => ?_, fun s dt b low hpower => ⟨fun hrestart => ?_,
    fun hrestart hhold => ?_, fun hrestart hhold hframe => ?_⟩⟩
  · have hexec : exec (.byteReceived dt b false) s = .next (arbitrate (assemblerByte b false (s.beginAt dt))) := by
      rw [← receiveByte_heard hrestart hhold, ← takeByte_powered hpower]
      rfl
    have hstep {a : Assembler} (ha : assemblerByte b false (s.beginAt dt) = s.stamped dt a) :
        exec (.byteReceived dt b false) s = .next (arbitrate (s.stamped dt a)) := by rw [hexec, ha]
    refine ⟨fun hhunt hb => hstep ?_, fun hhunt hb => hstep ?_, fun htime => ?_⟩
    · rw [assemblerByte_hunt hhunt, if_pos ⟨hb, rfl⟩]
    · rw [assemblerByte_hunt hhunt, if_neg fun h => hb h.1]
    have hin {now next : Assembler} (hnow : s.link.assembler = now) (hne : now ≠ .hunt)
        (hnext : assembleByte b (s.stamped dt now) = s.stamped dt next) :
        exec (.byteReceived dt b false) s = .next (arbitrate (s.stamped dt next)) := by
      refine hstep ?_
      rw [assemblerByte_frame (hnow ▸ hne) htime, hnow, hnext]
    refine ⟨fun h hb => hin h (by simp) (if_pos hb), fun len h => hin h (by simp) rfl,
      fun kind h => hin h (by simp) rfl, fun len kind h => hin h (by simp) rfl,
      fun len kind tag bytes h hmore => hin h (by simp) (if_pos hmore),
      fun len kind tag bytes h hlast => hin h (by simp) (if_neg (Nat.not_lt.mpr hlast.ge)),
      fun kind tag body h => hin h (by simp) rfl⟩
  · have hoff : (s.beginAt dt).link.restart = true := hrestart
    show Host.Outcome.next (takeByte dt b low s) = _
    rw [takeByte_powered hpower, receiveByte, if_pos hoff]
  · have hoff : (s.beginAt dt).link.restart = false := hrestart
    have hon : (s.beginAt dt).link.hold = true := hhold
    show Host.Outcome.next (takeByte dt b low s) = _
    rw [takeByte_powered hpower, receiveByte, hoff, hon]
    rfl
  · have hexec : exec (.frameDiscard dt b low) s = .next (arbitrate (assemblerByte b low (s.beginAt dt))) := by
      rw [← receiveByte_heard hrestart hhold, ← takeByte_powered hpower]
      rfl
    refine ⟨fun htime => ⟨fun hlow => ?_, fun hhigh hlength hlong => ?_, fun hhigh kind tag body high hcheck hbad => ?_⟩,
      fun hlate => ?_⟩
    · rw [hexec, hlow, assemblerByte_low hframe htime]
      rfl
    · rw [hexec, hhigh, assemblerByte_frame hframe htime, hlength]
      exact congrArg (fun t => Host.Outcome.next (arbitrate t)) (if_neg (Nat.not_le.mpr hlong))
    · rw [hexec, hhigh, assemblerByte_frame hframe htime, hcheck]
      exact congrArg (fun t => Host.Outcome.next (arbitrate t)) (if_neg hbad)
    · rw [hexec, assemblerByte_late hframe hlate]
      rfl

/-! #### FRAME_ARRIVAL -/

/-- The port with a frame heard: the supervision timer runs afresh (R178). -/
def State.heard (s : State) (dt : Nat) : State :=
  { s.beginAt dt with
    link := { s.link with
      assembler := .hunt, lastByte := s.clock + dt, supervision := heardAt s.params (s.clock + dt) } }

/-- With four requests unanswered the tag of a frame joins the QUEUE_FULL list. -/
theorem arriveFrame_full {s : State} {dt : Nat} {kind tag : Byte} {r : Request} (hfull : s.link.requests.length = 4)
    (hhold : s.link.hold = false) : arriveFrame kind tag r (s.stamped dt .hunt)
      = { s.beginAt dt with link := { (s.heard dt).link with
          full := s.link.full ++ [(kind, tag)], hold := decide (16 ≤ s.link.full.length + 1) } } := by
  have hmany : ¬ (s.stamped dt .hunt).link.requests.length < maxUnanswered := by
    show ¬ s.link.requests.length < 4
    omega
  have hoff : (s.stamped dt .hunt).link.hold = false := hhold
  rw [arriveFrame, if_neg hmany]
  show State.modLink _ _ = _
  rw [State.modLink]
  show { s.beginAt dt with link := { (s.heard dt).link with
    full := s.link.full ++ [(kind, tag)], hold := s.link.hold || decide (16 ≤ s.link.full.length + 1) } } = _
  rw [hhold, Bool.false_or]

/-- A frame that a port that answers takes and answers at once. -/
theorem arriveFrame_answered {s : State} {dt : Nat} {kind tag : Byte} {r : Request} {status : Status}
    {content : List Byte} (hs : s.Answers)
    (htaken : takeRequest r (s.arriving dt kind tag r) = ⟨s.arriving dt kind tag r, some (status, content)⟩) :
    arbitrate (arriveFrame kind tag r (s.stamped dt .hunt))
      = { s.beginAt dt with link := s.answeringFrame dt kind tag r status content } := by
  have harrive : arriveFrame kind tag r (s.stamped dt .hunt) = takeRequests (s.arriving dt kind tag r) :=
    arriveFrame_arriving hs.room rfl
  rw [harrive, takeRequests_answering hs htaken rfl hs.powered rfl]
  rfl

/-- The row of a request is the frame of that request coming whole. -/
theorem exec_requestOf {c : Instr} {dt : Nat} {tag : Byte} {r : Request} (h : requestOf c = some (dt, tag, r))
    {s : State} (hpower : s.powered = true) :
    exec c s = .next (arbitrate (receiveRequest r tag (s.beginAt dt))) := by
  have hrow : exec c s = .next (request dt tag r s) := by
    cases c
    all_goals first
      | (obtain ⟨rfl, rfl, rfl⟩ : _ ∧ _ ∧ _ := by simpa [requestOf] using h
         rfl)
      | exact absurd h (by simp [requestOf])
  rw [hrow, request, if_pos (by exact hpower)]

theorem takeReadParam_known {id : Byte} (h : idOk id.toNat = true) (s : State) :
    takeReadParam id s = accepted s ([id] ++ beBytes 4 (s.params.value id.toNat)) := if_pos h

theorem idOk_iff (n : Nat) : idOk n = true ↔ 1 ≤ n ∧ n ≤ 39 := decide_eq_true_iff

/-- A request's frame while another is assembled discards that one (R171). -/
theorem receiveRequest_discarding {s : State} {dt : Nat} {tag : Byte} {r : Request} (hrestart : s.link.restart = false)
    (hhold : s.link.hold = false) (hframe : s.link.assembler ≠ .hunt) : receiveRequest r tag (s.beginAt dt)
      = arriveFrame r.kind tag r (raiseFlag .linkError (s.stamped dt .hunt)) := by
  have hoff : (s.beginAt dt).link.restart = false := hrestart
  have hhear : (s.beginAt dt).link.hold = false := hhold
  have hin : (s.beginAt dt).link.assembler ≠ .hunt := hframe
  rw [receiveRequest, hoff, hhear]
  simp only [Bool.false_eq_true, if_false]
  rw [if_neg hin]
  rfl

/-- A request's frame in HUNT. -/
theorem receiveRequest_hunt {s : State} {dt : Nat} {tag : Byte} {r : Request} (hrestart : s.link.restart = false)
    (hhold : s.link.hold = false) (hhunt : s.link.assembler = .hunt) : receiveRequest r tag (s.beginAt dt)
      = arriveFrame r.kind tag r (s.stamped dt .hunt) := by
  have hoff : (s.beginAt dt).link.restart = false := hrestart
  have hhear : (s.beginAt dt).link.hold = false := hhold
  have hin : (s.beginAt dt).link.assembler = .hunt := hhunt
  rw [receiveRequest, hoff, hhear]
  simp only [Bool.false_eq_true, if_false]
  rw [if_pos hin, State.stamped, ← hhunt]
  rfl

/-- Settles O41: the last byte of an intact frame, and the rows of the requests. -/
theorem frameArrivalAnswered : Obligations.FrameArrivalAnswered := by
  refine ⟨fun s dt kind tag high b body hpower hrestart hhold hcheck htime hword => ?_,
    fun s c dt tag r hpower hrow => ?_⟩
  · have hframe : s.link.assembler ≠ .hunt := by simp [hcheck]
    have hexec : exec (.frameArrival dt b false) s
        = .next (arbitrate (arriveFrame kind tag (Request.parse kind body) (s.stamped dt .hunt))) := by
      show Host.Outcome.next (takeByte dt b false s) = _
      rw [takeByte_powered hpower, receiveByte_heard hrestart hhold, assemblerByte_frame hframe htime, hcheck]
      exact congrArg (fun t => Host.Outcome.next (arbitrate t)) (if_pos hword)
    refine ⟨fun hfull => ?_, fun hs hparse => ?_, fun hs hparse => ?_, fun hs hkind id hbody hlo hhi => ?_⟩
    · rw [hexec, arriveFrame_full hfull hhold]
      rfl
    · rw [hexec, hparse, arriveFrame_answered hs rfl]
    · rw [hexec, hparse, arriveFrame_answered hs rfl]
    · have hparse : Request.parse kind body = .readParam id := by
        rw [hkind, hbody]
        rfl
      rw [hexec, hparse, arriveFrame_answered (r := .readParam id) hs (takeReadParam_known ((idOk_iff _).mpr ⟨hlo, hhi⟩) _)]
      rfl
  · have hexec := exec_requestOf hrow hpower
    refine ⟨fun hrestart => ?_, fun hrestart hhold => ?_, fun hrestart hhold hhunt => ⟨fun hfull => ?_,
      fun before q hqueue hroom hbefore hq => ?_⟩, fun hrestart hhold hframe => ?_⟩
    · rw [hexec, receiveRequest, if_pos (by exact hrestart)]
    · rw [hexec, receiveRequest, if_neg (by simp [hrestart]), if_pos (by exact hhold)]
    · rw [hexec, receiveRequest_hunt hrestart hhold hhunt, arriveFrame_full hfull hhold]
      rfl
    · have hlen : s.link.requests.length < 4 := by
        rw [hqueue, List.length_append, List.length_singleton]
        omega
      have hnext : nextRequest (s.arriving dt r.kind tag r) = some q := by
        have hunreplied : q.progress ≠ .replied := by rw [hq]; decide
        show (s.link.requests ++ [_]).find? _ = some q
        rw [hqueue, List.append_assoc, List.find?_append, find?_unreplied_none hbefore]
        simp [hunreplied]
      have harrive : arriveFrame r.kind tag r (s.stamped dt .hunt) = takeRequests (s.arriving dt r.kind tag r) :=
        arriveFrame_arriving hlen rfl
      rw [hexec, receiveRequest_hunt hrestart hhold hhunt, harrive, takeRequests_taking hnext hq]
      rfl
    · rw [hexec, receiveRequest_discarding hrestart hhold hframe]
      rfl

end Sys2Proof.Machine
end


section
/-! ### The target pass -/

namespace Sys2Proof.Machine

theorem clamp_low {lo hi x : Int} (h : x < lo) : clamp lo hi x = lo := if_pos h

theorem clamp_high {lo hi x : Int} (hle : lo ≤ hi) (h : hi < x) : clamp lo hi x = hi := by
  rw [clamp, if_neg (by omega), if_pos h]

theorem clamp_inside {lo hi x : Int} (hlo : lo ≤ x) (hhi : x ≤ hi) : clamp lo hi x = x := by
  rw [clamp, if_neg (by omega), if_neg (by omega)]

theorem clamp_bounds {lo hi : Int} (hle : lo ≤ hi) (x : Int) : lo ≤ clamp lo hi x ∧ clamp lo hi x ≤ hi := by
  unfold clamp
  split
  · omega
  · split <;> omega

theorem limitShift_high {limit x : Int} (h : limit < x) : limitShift limit x = limit := if_pos h

theorem limitShift_low {limit x : Int} (hlimit : 0 ≤ limit) (h : x < -limit) : limitShift limit x = -limit := by
  rw [limitShift, if_neg (by omega), if_pos h]

theorem limitShift_inside {limit x : Int} (hlo : -limit ≤ x) (hhi : x ≤ limit) : limitShift limit x = x := by
  rw [limitShift, if_neg (by omega), if_neg (by omega)]

theorem limitShift_bounds {limit : Int} (hlimit : 0 ≤ limit) (x : Int) :
    -limit ≤ limitShift limit x ∧ limitShift limit x ≤ limit := by
  unfold limitShift
  split
  · omega
  · split <;> omega

/-- A shift is changed exactly where it is beyond the limit. -/
theorem limitShift_ne_iff {limit x : Int} : limitShift limit x ≠ x ↔ limit < x ∨ x < -limit := by
  unfold limitShift
  split
  · omega
  · split <;> omega

/-- The flags of a target pass, one by one. -/
theorem mem_flags {a b c d : Prop} [Decidable a] [Decidable b] [Decidable c] [Decidable d] {l : List Flag}
    (h : l = (if a then [.highSpot] else if b then [.liftLimit] else []) ++ (if c then [.lineLimit] else [])
      ++ (if d then [.cantUnmet] else [])) :
    (.highSpot ∈ l ↔ a) ∧ (.liftLimit ∈ l ↔ ¬ a ∧ b) ∧ (.lineLimit ∈ l ↔ c) ∧ (.cantUnmet ∈ l ↔ d) := by
  subst h
  simp only [List.mem_append]
  refine ⟨?_, ?_, ?_, ?_⟩ <;> split_ifs <;> simp_all

/-- The lift of the grade rail before its limits (R101). -/
def TargetPass.rawLift (p : TargetPass) : Int :=
  (if p.design.grade = .left then p.readings.vmL else p.readings.vmR) - p.design.dLvl - p.cLvl.rounded + p.baseLift

/-- The lift of the other rail before its limits (R102), from that of the grade rail. -/
def TargetPass.rawOther (p : TargetPass) (grade : Int) : Int :=
  if p.design.grade = .left then grade + p.readings.xl - p.design.cant else grade + p.design.cant - p.readings.xl

/-- The lift of the other rail in a target part. -/
def otherLift (d : DesignPart) (t : TargetPart) : Int := if d.grade = .left then t.liftR else t.liftL

theorem gradeLift_targetPart (p : TargetPass) :
    gradeLift p.design (targetPart p).1 = clamp p.minLift p.liftLimit p.rawLift := by
  by_cases h : p.design.grade = .left <;> simp [gradeLift, targetPart, TargetPass.rawLift, h]

theorem otherLift_targetPart (p : TargetPass) :
    otherLift p.design (targetPart p).1 = clamp 0 p.liftLimit (p.rawOther (gradeLift p.design (targetPart p).1)) := by
  rw [gradeLift_targetPart]
  by_cases h : p.design.grade = .left <;>
    simp [otherLift, targetPart, TargetPass.rawOther, TargetPass.rawLift, h, Int.add_sub_assoc]

/-- The lifts of the left and the right rail are those of the grade rail and the other. -/
theorem targetPart_lifts (p : TargetPass) :
    p.design.grade = .left ∧ (targetPart p).1.liftL = gradeLift p.design (targetPart p).1
        ∧ (targetPart p).1.liftR = otherLift p.design (targetPart p).1
      ∨ p.design.grade ≠ .left ∧ (targetPart p).1.liftR = gradeLift p.design (targetPart p).1
        ∧ (targetPart p).1.liftL = otherLift p.design (targetPart p).1 := by
  by_cases h : p.design.grade = .left <;> simp [gradeLift, otherLift, h]

/-- The flags of a target pass, in terms of its values before and after their limits. -/
theorem targetPart_flags (p : TargetPass) : (targetPart p).2
    = (if p.rawLift < p.minLift then [.highSpot] else if p.liftLimit < p.rawLift then [.liftLimit] else [])
      ++ (if limitShift p.shiftLimit (p.readings.vmLat - (p.design.dLat - p.cLat.rounded))
          ≠ p.readings.vmLat - (p.design.dLat - p.cLat.rounded) then [.lineLimit] else [])
      ++ (if otherLift p.design (targetPart p).1 ≠ p.rawOther (gradeLift p.design (targetPart p).1)
          then [.cantUnmet] else []) := by
  rw [otherLift_targetPart, gradeLift_targetPart]
  by_cases h : p.design.grade = .left <;>
    simp [targetPart, TargetPass.rawOther, TargetPass.rawLift, h, Int.add_sub_assoc]

/-- Settles O17: the limits of the shift and of the two lifts, and the four flags. -/
theorem targetLimitsHold : Obligations.TargetLimitsHold := by
  intro p hmin hle hlimit
  obtain ⟨hhigh, hlift, hline, hcant⟩ := mem_flags (targetPart_flags p)
  have hgrade := gradeLift_targetPart p
  have hother := otherLift_targetPart p
  have hgradeBounds := clamp_bounds hle p.rawLift
  have hotherBounds := clamp_bounds (hmin.trans hle) (p.rawOther (gradeLift p.design (targetPart p).1))
  rw [← hgrade] at hgradeBounds
  rw [← hother] at hotherBounds
  refine ⟨rfl, rfl, rfl, rfl, limitShift_bounds hlimit _, ?_, ?_, hgradeBounds.1, hline.trans limitShift_ne_iff,
    fun h => ?_, limitShift_high, limitShift_low hlimit, hhigh, ?_, ?_, ?_, ?_, ?_, ?_, ?_, ?_⟩
  · rcases targetPart_lifts p with ⟨-, hl, -⟩ | ⟨-, -, hl⟩ <;> rw [hl] <;> omega
  · rcases targetPart_lifts p with ⟨-, -, hr⟩ | ⟨-, hr, -⟩ <;> rw [hr] <;> omega
  · exact not_not.mp fun h' => h (hline.mpr h')
  · exact hlift.trans ⟨fun h => h.2, fun h => ⟨by show ¬ p.rawLift < _; have : p.liftLimit < p.rawLift := h; omega, h⟩⟩
  · exact fun h => hgrade.trans (clamp_low h)
  · exact fun h => hgrade.trans (clamp_high hle h)
  · intro hnohigh hnolift
    have hlow : ¬ p.rawLift < p.minLift := fun h => hnohigh (hhigh.mpr h)
    exact hgrade.trans (clamp_inside (not_lt.mp hlow) (not_lt.mp fun h => hnolift (hlift.mpr ⟨hlow, h⟩)))
  · exact fun h => hother.trans (clamp_low h)
  · exact fun h => hother.trans (clamp_high (hmin.trans hle) h)
  · exact fun hlo hhi => hother.trans (clamp_inside hlo hhi)
  · rw [hcant, not_not]
    rcases targetPart_lifts p with ⟨hside, hl, hr⟩ | ⟨hside, hr, hl⟩
    · rw [hl, hr, TargetPass.rawOther, if_pos hside]
      omega
    · rw [hl, hr, TargetPass.rawOther, if_neg hside]
      omega

end Sys2Proof.Machine
end


section
/-! ### A segment split in two -/

namespace Sys2Proof.Machine

/-! #### Exact sums as rational numbers -/

/-- The number that a ratio stands for. -/
def Ratio.val (r : Ratio) : ℚ := r.num / r.den

theorem Ratio.val_add {a b : Ratio} (ha : 0 < a.den) (hb : 0 < b.den) : (a.add b).val = a.val + b.val := by
  have ha' : (a.den : ℚ) ≠ 0 := by exact_mod_cast ha.ne'
  have hb' : (b.den : ℚ) ≠ 0 := by exact_mod_cast hb.ne'
  unfold Ratio.add
  split
  · next h => rw [Ratio.val, Ratio.val, Ratio.val, ← h, ← add_div]; push_cast; rfl
  · simp only [Ratio.val]
    push_cast
    field_simp

theorem Ratio.add_den_pos {a b : Ratio} (ha : 0 < a.den) (hb : 0 < b.den) : 0 < (a.add b).den := by
  unfold Ratio.add
  split
  exacts [ha, mul_pos ha hb]

/-- The sum of contributions, with its positive denominator. -/
theorem foldl_add_val (x : Int) {pieces : List Piece} (hpieces : ∀ p ∈ pieces, 0 < p.den) {acc : Ratio}
    (hacc : 0 < acc.den) :
    0 < (pieces.foldl (fun acc p => acc.add (contribution x p)) acc).den
      ∧ (pieces.foldl (fun acc p => acc.add (contribution x p)) acc).val
        = acc.val + (pieces.map fun p => (contribution x p).val).sum := by
  induction pieces generalizing acc with
  | nil => exact ⟨hacc, by simp⟩
  | cons p rest ih =>
    have hp : 0 < (contribution x p).den := hpieces p List.mem_cons_self
    obtain ⟨hden, hval⟩ := ih (fun q hq => hpieces q (List.mem_cons_of_mem _ hq)) (Ratio.add_den_pos hacc hp)
    exact ⟨hden, by rw [List.foldl_cons, hval, Ratio.val_add hacc hp, List.map_cons, List.sum_cons]; ring⟩

/-- What the pieces before `x` contribute (R95). -/
def sumBefore (x : Int) (pieces : List Piece) : ℚ :=
  ((pieces.filter fun p => decide (p.hi ≤ x)).map fun p => (contribution x p).val).sum

theorem sumBefore_nil (x : Int) : sumBefore x [] = 0 := rfl

theorem sumBefore_cons (x : Int) (p : Piece) (l : List Piece) :
    sumBefore x (p :: l) = (if p.hi ≤ x then (contribution x p).val else 0) + sumBefore x l := by
  by_cases h : p.hi ≤ x <;> simp [sumBefore, h]

theorem sumBefore_append (x : Int) (l m : List Piece) : sumBefore x (l ++ m) = sumBefore x l + sumBefore x m := by
  rw [sumBefore, List.filter_append, List.map_append, List.sum_append, sumBefore, sumBefore]

theorem sigma_val (x : Int) {pieces : List Piece} (h : ∀ p ∈ pieces, 0 < p.den) :
    0 < (sigma pieces x).den ∧ (sigma pieces x).val = sumBefore x pieces := by
  obtain ⟨hden, hval⟩ := foldl_add_val x (pieces := pieces.filter fun p => decide (p.hi ≤ x)) (acc := ⟨0, 1⟩)
    (fun p hp => h p (List.mem_of_mem_filter hp)) (by decide)
  refine ⟨hden, ?_⟩
  rw [sigma, hval, sumBefore]
  simp [Ratio.val]

/-- A rounded quotient depends on the exact quotient alone. -/
theorem roundDiv_mul_right (n : Int) {d k : Int} (hk : 0 < k) : roundDiv (n * k) (d * k) = roundDiv n d := by
  have hsign : n * k ≥ 0 ↔ n ≥ 0 := ⟨fun h => nonneg_of_mul_nonneg_left h hk, fun h => mul_nonneg h hk.le⟩
  have hcancel (m : Int) : (m * k) / (2 * (d * k)) = m / (2 * d) := by
    rw [← mul_assoc, Int.mul_ediv_mul_of_pos_left _ _ hk]
  have hpos : 2 * (n * k) + d * k = (2 * n + d) * k := by ring
  have hneg : -(2 * (n * k)) + d * k = (-(2 * n) + d) * k := by ring
  simp only [roundDiv, hsign, hpos, hneg, hcancel]

theorem roundDiv_congr {n d n' d' : Int} (hd : 0 < d) (hd' : 0 < d') (h : n * d' = n' * d) :
    roundDiv n d = roundDiv n' d' := by
  rw [← roundDiv_mul_right n (d := d) hd', h, mul_comm d d', roundDiv_mul_right n' hd]

/-- The versine depends on the exact values of the two sums alone (R93). -/
theorem versine_congr {a b : Int} (ha : 0 < a) (hb : 0 < b) {B AB B' AB' : Ratio} (hB : 0 < B.den) (hAB : 0 < AB.den)
    (hB' : 0 < B'.den) (hAB' : 0 < AB'.den) (h : B.val = B'.val) (h' : AB.val = AB'.val) :
    versine a b B AB = versine a b B' AB' := by
  have hcross : B.num * B'.den = B'.num * B.den := by
    rw [Ratio.val, Ratio.val, div_eq_div_iff (by exact_mod_cast hB.ne') (by exact_mod_cast hB'.ne')] at h
    exact_mod_cast h
  have hcross' : AB.num * AB'.den = AB'.num * AB.den := by
    rw [Ratio.val, Ratio.val, div_eq_div_iff (by exact_mod_cast hAB.ne') (by exact_mod_cast hAB'.ne')] at h'
    exact_mod_cast h'
  refine roundDiv_congr (by positivity) (by positivity) ?_
  linear_combination (b * B.den * B'.den * ((a + b) * 60000000)) * hcross'
    - ((a + b) * AB.den * AB'.den * ((a + b) * 60000000)) * hcross

/-! #### The contribution of an interval of one segment -/

/-- The curvature of a segment at a chainage (R38). -/
def curvatureAt (v0 v1 : Segment → Int) (g : Segment) (s : Int) : ℚ := v0 g + (v1 g - v0 g) * (s - g.start) / g.length

/-- The contribution of an interval with a linear curvature to the sum at `x` (R95). -/
def intervalSum (k : Int → ℚ) (x lo hi : Int) : ℚ :=
  (hi - lo) * (3 * k lo * (2 * (x - lo) - (hi - lo)) + (k hi - k lo) * (3 * (x - lo) - 2 * (hi - lo)))

theorem contribution_val (v0 v1 : Segment → Int) {g : Segment} (hg : 0 < g.length) (x lo hi : Int) :
    (contribution x (segmentPiece g (v0 g) (v1 g) lo hi)).val = intervalSum (curvatureAt v0 v1 g) x lo hi := by
  have hlen : (g.length : ℚ) ≠ 0 := by exact_mod_cast hg.ne'
  simp only [contribution, segmentPiece, linearAt, Ratio.val, intervalSum, curvatureAt]
  push_cast
  field_simp

/-- Intervals add up where the curvature is linear. -/
theorem intervalSum_add {k : Int → ℚ} {α β : ℚ} (hk : ∀ s : Int, k s = α + β * s) (x lo mid hi : Int) :
    intervalSum k x lo mid + intervalSum k x mid hi = intervalSum k x lo hi := by
  simp only [intervalSum, hk]
  ring

theorem curvatureAt_linear (v0 v1 : Segment → Int) (g : Segment) : ∃ α β : ℚ, ∀ s : Int,
    curvatureAt v0 v1 g s = α + β * s :=
  ⟨v0 g - (v1 g - v0 g) * g.start / g.length, (v1 g - v0 g) / g.length, fun s => by rw [curvatureAt]; ring⟩

/-- The contribution of an interval that may be empty. -/
def clippedSum (k : Int → ℚ) (x lo hi : Int) : ℚ := if lo < hi then intervalSum k x lo hi else 0

/-- What one segment contributes at the middle or the front point of the chord: the part of it that lies under the
chord and before that point. -/
theorem sumBefore_piecesOf (v0 v1 : Segment → Int) {rear mid front x : Int} (hrear : rear < mid) (hfront : mid < front)
    (hx : x = mid ∨ x = front) {g : Segment} (hg : 0 < g.length) :
    sumBefore x (piecesOf v0 v1 rear mid front g)
      = clippedSum (curvatureAt v0 v1 g) x (max g.start rear) (min g.endAt x) := by
  obtain ⟨α, β, hlinear⟩ := curvatureAt_linear v0 v1 g
  have hadd := intervalSum_add hlinear x (max g.start rear) mid (min g.endAt front)
  have hval (lo hi : Int) := contribution_val v0 v1 hg x lo hi
  have hhi (lo hi : Int) : (segmentPiece g (v0 g) (v1 g) lo hi).hi = hi := rfl
  unfold piecesOf clippedSum
  dsimp only
  split_ifs with hsome hinside hclip hclip hclip
  all_goals simp only [sumBefore_cons, sumBefore_nil, hval, hhi, add_zero]
  · rcases hx with rfl | rfl
    · rw [if_pos le_rfl, if_neg (by omega), add_zero, min_eq_right (by omega)]
    · rw [if_pos (by omega), if_pos (by omega), hadd]
  · omega
  · rcases hx with rfl | rfl
    · rw [if_pos (by omega), show min g.endAt front = min g.endAt x by omega]
    · rw [if_pos (by omega)]
  · rw [if_neg (by omega)]
  · omega

/-- Two neighbouring segments of one linear curvature contribute what they would as one. -/
theorem clippedSum_split {k : Int → ℚ} {α β : ℚ} (hk : ∀ s : Int, k s = α + β * s) {start split finish rear x : Int}
    (hstart : start < split) (hfinish : split < finish) :
    clippedSum k x (max start rear) (min finish x)
      = clippedSum k x (max start rear) (min split x) + clippedSum k x (max split rear) (min finish x) := by
  have hadd := intervalSum_add hk x (max start rear) split (min finish x)
  rcases le_or_gt x split with hbefore | hafter
  · have hempty : clippedSum k x (max split rear) (min finish x) = 0 := if_neg (by omega)
    rw [hempty, add_zero, min_eq_right hbefore, min_eq_right (hbefore.trans hfinish.le)]
  · rcases le_or_gt split rear with hpast | hunder
    · have hempty : clippedSum k x (max start rear) (min split x) = 0 := if_neg (by omega)
      rw [hempty, zero_add, max_eq_right hpast, max_eq_right (hstart.le.trans hpast)]
    · rw [min_eq_left hafter.le, max_eq_left hunder.le, clippedSum, clippedSum, clippedSum, if_pos (by omega),
        if_pos (by omega), if_pos (by omega), hadd]

/-! #### The chord over the track -/

theorem chordPieces_den_pos {v0 v1 : Segment → Int} {rear mid front : Int} {segs : List Segment}
    (h : ∀ g ∈ segs, 0 < g.length) : ∀ p ∈ chordPieces v0 v1 rear mid front segs, 0 < p.den := by
  intro p hp
  obtain ⟨g, hg, hmem⟩ := List.mem_flatMap.mp hp
  have hden : p.den = g.length := by
    unfold piecesOf at hmem
    dsimp only at hmem
    split_ifs at hmem
    all_goals simp only [List.mem_cons, List.not_mem_nil, or_false] at hmem
    · rcases hmem with rfl | rfl <;> rfl
    · rw [hmem]
      rfl
  exact hden ▸ h g hg

section split
variable {v0 v1 : Segment → Int} {before after : List Segment} {g g1 g2 : Segment} {u v : Int}
  (hpos : ∀ h ∈ before ++ g :: after, 0 < h.length) (hu : 0 < u) (hlt : u < g.length)
  (hjoint : v * g.length = v0 g * g.length + (v1 g - v0 g) * u)
  (hstart1 : g1.start = g.start) (hlength1 : g1.length = u) (hfrom1 : v0 g1 = v0 g) (hto1 : v1 g1 = v)
  (hstart2 : g2.start = g.start + u) (hlength2 : g2.length = g.length - u) (hfrom2 : v0 g2 = v) (hto2 : v1 g2 = v1 g)

include hu hlt hjoint

theorem joint_curvature : (v : ℚ) = v0 g + (v1 g - v0 g) * u / g.length := by
  have hlen : (g.length : ℚ) ≠ 0 := by exact_mod_cast (hu.trans hlt).ne'
  have hcast : (v : ℚ) * g.length = v0 g * g.length + (v1 g - v0 g) * u := by exact_mod_cast hjoint
  field_simp
  exact hcast

include hstart1 hlength1 hfrom1 hto1 in
theorem curvatureAt_first (s : Int) : curvatureAt v0 v1 g1 s = curvatureAt v0 v1 g s := by
  have hlen : (g.length : ℚ) ≠ 0 := by exact_mod_cast (hu.trans hlt).ne'
  have hu' : (u : ℚ) ≠ 0 := by exact_mod_cast hu.ne'
  rw [curvatureAt, curvatureAt, hstart1, hlength1, hfrom1, hto1, joint_curvature hu hlt hjoint]
  field_simp
  ring

include hstart2 hlength2 hfrom2 hto2 in
theorem curvatureAt_second (s : Int) : curvatureAt v0 v1 g2 s = curvatureAt v0 v1 g s := by
  have hlen : (g.length : ℚ) ≠ 0 := by exact_mod_cast (hu.trans hlt).ne'
  have hrest : (g.length : ℚ) - u ≠ 0 := by
    have : (u : ℚ) < g.length := by exact_mod_cast hlt
    exact (sub_pos.mpr this).ne'
  rw [curvatureAt, curvatureAt, hstart2, hlength2, hfrom2, hto2, joint_curvature hu hlt hjoint]
  push_cast
  field_simp
  ring

end split

/-- Settles O16: the sums at the middle and the front point are those of the undivided segment. -/
theorem splitTrackSameVersine : Obligations.SplitTrackSameVersine := by
  intro k0 k1 before after g g1 g2 u v a b c ha hb hpos hu hlt hjoint hstart1 hlength1 hfrom1 hto1 hstart2 hlength2
    hfrom2 hto2
  have hpos' : ∀ h ∈ before ++ g1 :: g2 :: after, 0 < h.length := by
    intro h hh
    simp only [List.mem_append, List.mem_cons] at hh hpos
    rcases hh with hh | rfl | rfl | hh
    · exact hpos h (.inl hh)
    · omega
    · omega
    · exact hpos h (.inr (.inr hh))
  have hg1 : 0 < g1.length := hlength1 ▸ hu
  have hg2 : 0 < g2.length := by omega
  have hsame (x : Int) (hx : x = c ∨ x = c + a) : sumBefore x (chordPieces k0 k1 (c - b) c (c + a) (before ++ g :: after))
      = sumBefore x (chordPieces k0 k1 (c - b) c (c + a) (before ++ g1 :: g2 :: after)) := by
    have hpiece {h : Segment} (hh : 0 < h.length) := sumBefore_piecesOf k0 k1 (rear := c - b) (mid := c) (front := c + a)
      (by omega) (by omega) hx hh
    obtain ⟨α, β, hlinear⟩ := curvatureAt_linear k0 k1 g
    have hend1 : g1.endAt = g.start + u := by rw [Segment.endAt, hstart1, hlength1]
    have hend2 : g2.endAt = g.endAt := by rw [Segment.endAt, Segment.endAt, hstart2, hlength2]; ring
    have hsplit := clippedSum_split hlinear (start := g.start) (split := g.start + u) (finish := g.endAt) (rear := c - b)
      (x := x) (by omega) (by rw [Segment.endAt]; omega)
    have hfirst := funext (curvatureAt_first (v0 := k0) (v1 := k1) hu hlt hjoint hstart1 hlength1 hfrom1 hto1)
    have hsecond := funext (curvatureAt_second (v0 := k0) (v1 := k1) hu hlt hjoint hstart2 hlength2 hfrom2 hto2)
    simp only [chordPieces, List.flatMap_append, List.flatMap_cons, sumBefore_append]
    rw [hpiece (hu.trans hlt), hpiece hg1, hpiece hg2, hsplit, hfirst, hsecond, hend1, hend2, hstart1, hstart2]
    ring
  have hsum (x : Int) {segs : List Segment} (hsegs : ∀ h ∈ segs, 0 < h.length) :=
    sigma_val x (chordPieces_den_pos (v0 := k0) (v1 := k1) (rear := c - b) (mid := c) (front := c + a) hsegs)
  refine versine_congr ha hb (hsum c hpos).1 (hsum (c + a) hpos).1 (hsum c hpos').1 (hsum (c + a) hpos').1 ?_ ?_
  · exact (hsum c hpos).2.trans ((hsame c (.inl rfl)).trans (hsum c hpos').2.symm)
  · exact (hsum (c + a) hpos).2.trans ((hsame (c + a) (.inr rfl)).trans (hsum (c + a) hpos').2.symm)

end Sys2Proof.Machine
end


section
/-! ### The parameters configured -/

namespace Sys2Proof.Machine

/-! #### A value put is the value read, and no other changes -/

/-- The values of a parameter set in the order of their ids. -/
def Params.values (p : Params) : List Nat :=
  [p.p01.toNat, p.p02.toNat, p.p03.toNat, p.p04.toNat, p.p05.toNat, p.p06.toNat, p.p07.toNat, p.p08.toNat,
    p.p09.toNat, p.p10.toNat, p.p11.toNat, p.p12.toNat, p.p13.toNat, p.p14.toNat, p.p15.toNat, p.p16.toNat,
    p.p17.toNat, p.p18.toNat, p.p19.toNat, p.p20.toNat, p.p21, p.p22, p.p23, p.p24.toNat, p.p25.toNat,
    p.p26.toNat, p.p27, p.p28, p.p29, p.p30, squeezeCode p.p31, p.p32, p.p33.toNat, 65536 * p.p34min.toNat +
    p.p34max.toNat, p.p35.toNat, p.p36.toNat, p.p37, p.p38, p.p39polarity.toNat + (if p.p39low then 1024 else
    0)]

theorem Params.values_length (p : Params) : p.values.length = 39 := rfl

theorem Params.value_past (p : Params) {id : Nat} (hid : id = 0 ∨ 39 < id) : p.value id = 0 := by
  unfold Params.value
  split
  case h_40 => rfl
  all_goals omega

/-- The value of a parameter is the one at its place. -/
theorem Params.value_succ (p : Params) (i : Nat) : p.value (i + 1) = p.values.getD i 0 := by
  rcases Nat.lt_or_ge i 39 with h | h
  · interval_cases i <;> rfl
  · rw [p.value_past (by omega), List.getD_eq_default _ _ (by rw [p.values_length]; exact h)]

/-- A value within its range, put into a set, stands at its place, and nothing else changes (R181). -/
theorem Params.values_put (p : Params) {id v : Nat} (hid : 1 ≤ id ∧ id ≤ 39) (hv : inRange id v = true) :
    (p.put id v).values = p.values.set (id - 1) v := by
  unfold Params.put
  split
  case h_31 =>
    have hcode : squeezeCode (if v = 0 then .time else .pressure) = v := by
      have : v ≤ 1 := of_decide_eq_true hv
      interval_cases v <;> rfl
    exact congrArg (p.values.set 30) hcode
  case h_34 =>
    have hparts : 65536 * ((v / 65536 : Nat) : Int).toNat + ((v % 65536 : Nat) : Int).toNat = v := by omega
    exact congrArg (p.values.set 33) hparts
  case h_39 =>
    have hlt : v < 2048 := of_decide_eq_true hv
    refine congrArg (p.values.set 38) ?_
    rw [BitVec.toNat_ofNat]
    by_cases h : 1024 ≤ v
    · rw [decide_eq_true h]
      simp only [if_true]
      omega
    · rw [decide_eq_false h]
      simp only [Bool.false_eq_true, if_false]
      omega
  case h_40 =>
    exfalso
    simp only [imp_false] at *
    omega
  all_goals rfl

theorem Params.value_put (p : Params) {id v : Nat} (hid : 1 ≤ id ∧ id ≤ 39) (hv : inRange id v = true) (m : Nat) :
    (p.put id v).value m = if m = id then v else p.value m := by
  cases m with
  | zero => rw [value_past _ (.inl rfl), value_past _ (.inl rfl), if_neg (by omega)]
  | succ i =>
    rw [value_succ, value_succ, values_put p hid hv, List.getD_eq_getElem?_getD, List.getElem?_set,
      List.getD_eq_getElem?_getD, values_length]
    by_cases h : id - 1 = i
    · rw [if_pos h, if_pos (by omega), if_pos (by omega)]
      rfl
    · rw [if_neg h, if_neg (by omega)]

/-- A set within its ranges is what its values say. -/
theorem Params.Ranged.eq_of_value {p q : Params} (hp : p.Ranged) (hq : q.Ranged) (h : ∀ id, p.value id = q.value id) :
    p = q := by
  rw [← reread_eq hp, ← reread_eq hq, ← foldl_put_value, ← foldl_put_value, funext h]

/-- The value already in force put again changes nothing. -/
theorem Params.Ranged.put_same {p : Params} (hp : p.Ranged) {id v : Nat} (hid : 1 ≤ id ∧ id ≤ 39)
    (hv : Machine.inRange id v = true) (hsame : p.value id = v) : p.put id v = p :=
  (hp.put hv).eq_of_value hp fun m => by
    rw [p.value_put hid hv]
    split
    · next h => rw [h, hsame]
    · rfl

/-! #### The checks of CONFIGURE -/

theorem isRest_iff {id : Nat} (hid : 1 ≤ id) :
    isRest id = true ↔ id ≤ 9 ∨ id = 33 ∨ id = 35 ∨ id = 38 ∨ id = 39 := by
  simp [isRest, hid]

section checks
variable {s : State} {id v : Nat}

theorem configureRefusal_unknown (h : ¬ (1 ≤ id ∧ id ≤ 39)) : configureRefusal id v s = some .outOfRange := by
  have hbad : idOk id = false := Bool.eq_false_iff.mpr fun h' => h ((idOk_iff id).mp h')
  rw [configureRefusal, hbad]
  rfl

/-- The checks behind the first. -/
theorem configureRefusal_known (h : 1 ≤ id ∧ id ≤ 39) : configureRefusal id v s
    = if isRest id && decide (s.cyc.mode ≠ .ready) then some .wrongMode
      else if !inRange id v then some .outOfRange
      else if !(s.params.put id v).crossOk then some .outOfRange
      else if id = 33 ∧ s.slp.records.isEmpty = false then some .inUse
      else none := by
  rw [configureRefusal, (idOk_iff id).mpr h]
  rfl

theorem configureRefusal_mode (h : 1 ≤ id ∧ id ≤ 39) (hrest : id ≤ 9 ∨ id = 33 ∨ id = 35 ∨ id = 38 ∨ id = 39)
    (hmode : s.cyc.mode ≠ .ready) : configureRefusal id v s = some .wrongMode := by
  rw [configureRefusal_known h, if_pos (by simp [(isRest_iff h.1).mpr hrest, hmode])]

/-- The checks behind the mode. -/
theorem configureRefusal_timely (h : 1 ≤ id ∧ id ≤ 39)
    (htimely : id ≤ 9 ∨ id = 33 ∨ id = 35 ∨ id = 38 ∨ id = 39 → s.cyc.mode = .ready) : configureRefusal id v s
    = if !inRange id v then some .outOfRange
      else if !(s.params.put id v).crossOk then some .outOfRange
      else if id = 33 ∧ s.slp.records.isEmpty = false then some .inUse
      else none := by
  rw [configureRefusal_known h, if_neg]
  intro hboth
  simp only [Bool.and_eq_true, decide_eq_true_eq, isRest_iff h.1] at hboth
  exact hboth.2 (htimely hboth.1)

theorem configureRefusal_range (h : 1 ≤ id ∧ id ≤ 39)
    (htimely : id ≤ 9 ∨ id = 33 ∨ id = 35 ∨ id = 38 ∨ id = 39 → s.cyc.mode = .ready) (hrange : inRange id v = false) :
    configureRefusal id v s = some .outOfRange := by
  rw [configureRefusal_timely h htimely, hrange]
  rfl

theorem configureRefusal_crossed (h : 1 ≤ id ∧ id ≤ 39)
    (htimely : id ≤ 9 ∨ id = 33 ∨ id = 35 ∨ id = 38 ∨ id = 39 → s.cyc.mode = .ready) (hrange : inRange id v = true)
    (hcross : ¬ (s.params.put id v).Crossed) : configureRefusal id v s = some .outOfRange := by
  have hfalse : (s.params.put id v).crossOk = false := Bool.eq_false_iff.mpr fun h' => hcross ((Params.crossOk_iff _).mp h')
  rw [configureRefusal_timely h htimely, hrange, hfalse]
  rfl

/-- The last check, behind range and cross-conditions. -/
theorem configureRefusal_valid (h : 1 ≤ id ∧ id ≤ 39)
    (htimely : id ≤ 9 ∨ id = 33 ∨ id = 35 ∨ id = 38 ∨ id = 39 → s.cyc.mode = .ready) (hrange : inRange id v = true)
    (hcross : (s.params.put id v).Crossed) : configureRefusal id v s
      = if id = 33 ∧ s.slp.records.isEmpty = false then some .inUse else none := by
  rw [configureRefusal_timely h htimely, hrange, (Params.crossOk_iff _).mpr hcross]
  rfl

end checks

theorem takeConfigure_refused {id : Byte} {v : BitVec 32} {s : State} {status : Status}
    (h : configureRefusal id.toNat v.toNat s = some status) : takeConfigure id v s = refusedWith status s := by
  rw [takeConfigure, h]

theorem takeConfigure_same {id : Byte} {v : BitVec 32} {s : State} (h : configureRefusal id.toNat v.toNat s = none)
    (hsame : s.params.value id.toNat = v.toNat) : takeConfigure id v s = accepted s ([id] ++ beBytes 4 v.toNat) := by
  rw [takeConfigure, h]
  dsimp only
  rw [if_pos hsame, valueReply, hsame]

/-- A value changed: the parameter replaced, and what its change sets off (R181). -/
theorem takeConfigure_changed {id : Byte} {v : BitVec 32} {s : State} (hid : 1 ≤ id.toNat ∧ id.toNat ≤ 39)
    (h : configureRefusal id.toNat v.toNat s = none) (hnew : s.params.value id.toNat ≠ v.toNat) :
    takeConfigure id v s
      = accepted (parameterChanged id.toNat s (s.modParams fun p => p.put id.toNat v.toNat))
          ([id] ++ beBytes 4 v.toNat) := by
  obtain ⟨hrange, -, -⟩ := of_configureRefusal_none h
  rw [takeConfigure, h]
  dsimp only
  rw [if_neg hnew, valueReply, State.modParams_params, Params.value_put _ hid hrange, if_pos rfl]

/-- A parameter that acts at its next use sets nothing off. -/
theorem parameterChanged_later {id : Nat} (h : id = 6 ∨ id = 7 ∨ id = 9 ∨ 15 ≤ id ∧ id ≤ 35) (before s : State) :
    parameterChanged id before s = s := by
  unfold parameterChanged
  split
  case h_16 => rfl
  all_goals omega

theorem takeReadParam_unknown {id : Byte} (h : ¬ (1 ≤ id.toNat ∧ id.toNat ≤ 39)) (s : State) :
    takeReadParam id s = refusedWith .outOfRange s := if_neg fun h' => h ((idOk_iff _).mp h')

/-- Settles O58: the five checks, the value in force, and the changes of parameters that no other block follows. -/
theorem parameterConfigured : Obligations.ParameterConfigured := by
  intro s dt tag id v hs hlegal n rest refused replied known timely inside valid ok
  have hrefused {status : Status}
      (h : configureRefusal id.toNat v.toNat (s.arriving dt 0x0F tag (.configure id v)) = some status) :
      refused status :=
    congrArg Host.Outcome.next (request_refused (r := .configure id v) hs (takeConfigure_refused h))
  have hlast (h : valid) : configureRefusal id.toNat v.toNat (s.arriving dt 0x0F tag (.configure id v))
      = if id.toNat = 33 ∧ s.slp.records.isEmpty = false then some .inUse else none :=
    configureRefusal_valid h.1.1.1 h.1.1.2 h.1.2 h.2
  have hpass (h : ok) : configureRefusal id.toNat v.toNat (s.arriving dt 0x0F tag (.configure id v)) = none := by
    rw [hlast h.1, if_neg]
    rintro ⟨h33, hheld⟩
    rw [h.2 h33] at hheld
    exact absurd hheld (by decide)
  refine ⟨fun h => ?_, fun h hrest hmode => ?_, fun h hrange => ?_, fun h hcross => ?_, fun h h33 hheld => ?_,
    fun h hsame => ?_, fun h hlater => ?_, fun h h5 hnew => ?_, fun h h37 hnew => ?_, fun h => ?_, fun h => ?_⟩
  · exact hrefused (configureRefusal_unknown h)
  · exact hrefused (configureRefusal_mode h hrest hmode)
  · exact hrefused (configureRefusal_range h.1 h.2 hrange)
  · exact hrefused (configureRefusal_crossed h.1.1 h.1.2 h.2 hcross)
  · refine hrefused ?_
    rw [hlast h, if_pos ⟨h33, by simpa using hheld⟩]
  · exact congrArg Host.Outcome.next
      (request_unchanged (r := .configure id v) hs (takeConfigure_same (hpass h) hsame))
  · have hput := s.params.value_put h.1.1.1.1 h.1.1.2
    refine ⟨(hput n).trans (if_pos rfl), fun m hm => (hput m).trans (if_neg hm), ?_⟩
    by_cases hnew : s.params.value id.toNat = v.toNat
    · have hsame : s.params.put n v.toNat = s.params := hlegal.ranged.put_same h.1.1.1.1 h.1.1.2 hnew
      rw [hsame]
      exact congrArg Host.Outcome.next
        (request_unchanged (r := .configure id v) hs (takeConfigure_same (hpass h) hnew))
    · have htaken := takeConfigure_changed h.1.1.1.1 (hpass h) hnew
      rw [parameterChanged_later hlater] at htaken
      exact congrArg Host.Outcome.next
        ((request_answered (r := .configure id v) hs htaken rfl hs.powered rfl).trans rfl)
  · have htaken := takeConfigure_changed h.1.1.1.1 (hpass h) hnew
    have hfive : id.toNat = 5 := h5
    rw [hfive] at htaken
    have hmicrons : s.pos.datum + (s.count.odo.count - s.pos.countAtDatum) * s.params.p05
        + (s.count.odo.count - s.count.odo.count) * v.toNat = frameMicrons s := by
      rw [Int.sub_self, Int.zero_mul, Int.add_zero, frameMicrons]
    exact ⟨_, congrArg Host.Outcome.next
        ((request_answered (r := .configure id v) hs htaken rfl hs.powered rfl).trans rfl), rfl, hmicrons,
      congrArg (fun m : Int => holdRange (m / 1000)) hmicrons⟩
  · have htaken := takeConfigure_changed h.1.1.1.1 (hpass h) hnew
    have hthis : id.toNat = 37 := h37
    rw [hthis] at htaken
    refine congrArg Host.Outcome.next ((request_eq (r := .configure id v) hs).trans
      ((takeRequests_arriving (r := .configure id v) hs.toAnswers htaken rfl hs.powered).trans ?_))
    have hreload : (parameterChanged 37 (s.arriving dt 0x0F tag (.configure id v))
        ((s.arriving dt 0x0F tag (.configure id v)).modParams fun p => p.put 37 v.toNat)).link.supervision
        = if v.toNat = 0 ∨ s.params.p37 = 0 then none else some ⟨v.toNat, s.clock + dt⟩ := by
      show (match heardAt s.params (s.clock + dt) with
        | some _ => if v.toNat = 0 then none else some (Timer.mk v.toNat (s.clock + dt))
        | none => none) = _
      by_cases hoff : s.params.p37 = 0 <;> by_cases hzero : v.toNat = 0 <;> simp [heardAt, hoff, hzero]
    rw [← hreload]
    rfl
  · exact congrArg Host.Outcome.next
      (request_unchanged (r := .readParam id) hs (takeReadParam_known ((idOk_iff _).mpr h) _))
  · exact congrArg Host.Outcome.next (request_refused (r := .readParam id) hs (takeReadParam_unknown h _))

end Sys2Proof.Machine
end


section
/-! ### The store's requests and the reset -/

namespace Sys2Proof.Machine

/-! #### The reset and its first transmission -/

/-- After a reset the MODE notice of start-up is sent at once (R175, R176, R179). -/
theorem arbitrate_resetWith (cause : ResetCause) (s : State) : arbitrate (resetWith cause s)
    = { resetWith cause s with link := { (resetWith cause s).link with
        modeSlot := none
        tx := some ⟨.notice, frameBytes 0xC0 0 (modeBody ⟨.ready, .none, none, cause⟩), s.clock⟩ } } := by
  have hempty : ∀ r rest, (resetWith cause s).slp.records = r :: rest → r.state.finished = false := by
    intro r rest h
    cases h
  have hnone : ∀ y, (resetWith cause s).link.condSlot = some y → s.eventNo ≤ y.age := by
    intro y h
    cases h
  have hwanted : ∀ z, (resetWith cause s).link.segSlot = some z → s.eventNo ≤ z.age := by
    intro z h
    obtain rfl := Option.some.inj h
    exact le_rfl
  exact ((((arbitrationOrder (resetWith cause s)).2 rfl rfl).2 rfl).2.2 rfl rfl).2 hempty |>.1 _ rfl hnone hwanted

theorem Channel.atReset_get (q : CountUnit) (c : ChannelId) : q.atReset.get c = (q.get c).atReset := by
  cases c
  case dep u => cases u <;> rfl
  all_goals rfl

theorem CountUnit.atReset_filter (q : CountUnit) (l : Line) : q.atReset.filter l = (q.filter l).atReset := by
  cases l with
  | channelA c => exact congrArg Channel.a (Channel.atReset_get q c)
  | channelB c => exact congrArg Channel.b (Channel.atReset_get q c)
  | detector => rfl
  | pressure u => cases u <;> rfl

theorem flagIn_atReset (f : Flag) (defaulted : Bool) :
    flagIn f (Conditions.atReset defaulted).flags = (decide (f = .settingsDefaulted) && defaulted) := by
  cases defaulted <;> cases f <;> rfl

/-- Settles O21: the reset field by field, and its first transmission. -/
theorem powerOnResets : Obligations.PowerOnResets := by
  intro s hoff
  have hexec : exec .powerOn s = .next (arbitrate (resetWith .power (s.beginAt 0))) := by
    show Host.Outcome.next (arbitrate (resetWith .power (if s.powered then _ else s.beginAt 0))) = _
    rw [hoff]
    rfl
  rw [hexec, arbitrate_resetWith]
  refine ⟨_, rfl, rfl, rfl, rfl, rfl, rfl, fun f => flagIn_atReset f _, rfl, rfl, rfl, fun l => ?_, fun c => ?_, rfl, rfl,
    rfl, rfl, rfl, fun a => ?_, fun u => ?_, rfl, rfl, rfl, rfl, rfl, rfl, rfl, rfl, rfl, rfl, rfl, rfl, rfl⟩
  · have h : s.count.atReset.filter l = (s.count.filter l).atReset := CountUnit.atReset_filter _ _
    show (s.count.atReset.filter l).accepted = _ ∧ (s.count.atReset.filter l).present = _
      ∧ (s.count.atReset.filter l).since = _
    rw [h]
    exact ⟨rfl, rfl, rfl⟩
  · have h : s.count.atReset.get c = (s.count.get c).atReset := Channel.atReset_get _ _
    exact ⟨congrArg Channel.count h, congrArg Channel.nulled h, congrArg Channel.countAtNull h,
      congrArg Channel.reference h, congrArg Channel.fault h⟩
  · cases a <;> rfl
  · cases u <;> exact ⟨rfl, rfl, rfl, rfl, rfl, rfl, rfl⟩

/-! #### SAVE_SETTINGS and RESTART -/

theorem takeSave_refused {s : State} (h : s.cyc.mode ≠ .ready) : takeSave s = refusedWith .wrongMode s := if_neg h

theorem takeSave_taken {s : State} (h : s.cyc.mode = .ready) :
    takeSave s = ⟨s.modStore fun st => { st with saving := some (imageOf s.params) }, none⟩ := if_pos h

theorem takeRestart_refused {s : State} (h : ¬ (s.cyc.mode = .ready ∨ s.cyc.mode = .halted)) :
    takeRestart s = refusedWith .wrongMode s := if_neg h

theorem takeRestart_taken {s : State} (h : s.cyc.mode = .ready ∨ s.cyc.mode = .halted) :
    takeRestart s = accepted (s.modLink fun l => { l with restart := true, assembler := .hunt }) [] := if_pos h

/-- A request that its owner goes on taking, at a port that takes it at its arrival. -/
theorem takeRequests_open {s t : State} {dt : Nat} {kind tag : Byte} {r : Request} (hs : s.Answers)
    (htaken : takeRequest r (s.arriving dt kind tag r) = ⟨t, none⟩)
    (hrequests : t.link.requests = s.link.requests ++ [⟨kind, tag, r, .waiting⟩]) :
    takeRequests (s.arriving dt kind tag r)
      = { t with link := { t.link with requests := s.link.requests ++ [⟨kind, tag, r, .taking⟩] } } := by
  have hqueue : (s.arriving dt kind tag r).link.requests = s.link.requests ++ [⟨kind, tag, r, .waiting⟩] := rfl
  have hone : takeOne ⟨kind, tag, r, .waiting⟩ (s.arriving dt kind tag r)
      = { t with link := { t.link with requests := s.link.requests ++ [⟨kind, tag, r, .taking⟩] } } := by
    have hoff : (s.arriving dt kind tag r).link.restart = false := hs.running
    rw [takeOne, if_neg (by simp [hoff]), htaken]
    dsimp only
    rw [State.modLink, hrequests, markNext_append .taking hs.settled (by simp)]
  have hnext := nextRequest_append hqueue hs.settled (by simp)
  have htaking := nextRequest_append (s := { t with link := { t.link with
    requests := s.link.requests ++ [⟨kind, tag, r, .taking⟩] } }) rfl hs.settled (by simp)
  have hlen : (s.arriving dt kind tag r).link.requests.length = s.link.requests.length + 1 := by
    rw [hqueue, List.length_append, List.length_singleton]
  rw [takeRequests, hlen, takeLoop, hnext]
  dsimp only
  rw [if_pos rfl, hone, takeLoop, htaking]
  dsimp only
  rw [if_neg (by simp)]

/-- Settles O60: the two owners, and the reset behind the last reply. -/
theorem saveAndRestartTaken : Obligations.SaveAndRestartTaken := by
  refine ⟨fun s dt tag hs => ⟨fun hmode => ?_, fun hmode => ?_, fun hmode => ?_, fun hmode => ?_⟩,
    fun s x hpower hrestart hfull hone htx hsource => ?_⟩
  · exact congrArg Host.Outcome.next (request_refused (r := .saveSettings) hs (takeSave_refused hmode))
  · refine congrArg Host.Outcome.next ((request_eq (r := .saveSettings) hs).trans ?_)
    rw [takeRequests_open (r := .saveSettings) hs.toAnswers (takeSave_taken hmode) rfl]
    rfl
  · have hnot : ¬ (s.cyc.mode = .ready ∨ s.cyc.mode = .halted) := by rcases hmode with h | h <;> simp [h]
    exact congrArg Host.Outcome.next (request_refused (r := .restart) hs (takeRestart_refused hnot))
  · exact congrArg Host.Outcome.next ((request_eq (r := .restart) hs).trans
      ((takeRequests_arriving (r := .restart) hs.toAnswers (takeRestart_taken hmode) rfl hs.powered).trans rfl))
  · have hlast : s.link.replies.tail = [] := List.eq_nil_of_length_eq_zero (by rw [List.length_tail, hone])
    have hsent : frameSent x.source (s.beginBy x.ends)
        = replySent ((s.beginBy x.ends).modLink fun l => { l with tx := none }) := by rw [hsource]; rfl
    have hdue : restartIfDue (frameSent x.source (s.beginBy x.ends))
        = resetWith .restart (frameSent x.source (s.beginBy x.ends)) := by
      refine if_pos ?_
      rw [hsent]
      show (s.link.restart && s.link.full.isEmpty && s.link.replies.tail.isEmpty) = true
      rw [hrestart, hfull, hlast]
      rfl
    rw [exec_transmitEnd hpower htx, hdue, arbitrate_resetWith, hsent]
    refine ⟨_, rfl, rfl, rfl, rfl, rfl, rfl, rfl, rfl, rfl, fun u => ?_, rfl⟩
    cases u <;> rfl

end Sys2Proof.Machine
end


section
/-! ### The bodies of STATUS and SNAPSHOT -/

namespace Sys2Proof.Machine

/-! #### Where a field stands in a body -/

/-- A field stands in a body at an offset. -/
def StandsAt (body : List Byte) (off : Nat) (part : List Byte) : Prop :=
  ∃ before after, body = before ++ (part ++ after) ∧ before.length = off

theorem StandsAt.read {body part : List Byte} {off : Nat} (h : StandsAt body off part) :
    (body.drop off).take part.length = part := by
  obtain ⟨before, after, rfl, rfl⟩ := h
  rw [List.drop_left, List.take_left]

theorem StandsAt.trans {body whole part : List Byte} {m n k : Nat} (h : StandsAt body m whole)
    (h' : StandsAt whole n part) (hk : m + n = k) : StandsAt body k part := by
  obtain ⟨before, after, rfl, rfl⟩ := h
  obtain ⟨before', after', rfl, rfl⟩ := h'
  exact ⟨before ++ before', after' ++ after, by simp only [List.append_assoc], by rw [List.length_append, hk]⟩

/-- The parts of a body stand one after another. -/
theorem standsAt_flatten {parts : List (List Byte)} {i off : Nat} {part : List Byte} (h : parts[i]? = some part)
    (hoff : (parts.take i).flatten.length = off) : StandsAt parts.flatten off part := by
  obtain ⟨hi, rfl⟩ := List.getElem?_eq_some_iff.mp h
  refine ⟨(parts.take i).flatten, (parts.drop (i + 1)).flatten, ?_, hoff⟩
  rw [← List.flatten_cons, List.getElem_cons_drop, ← List.flatten_append, List.take_append_drop]

/-! #### The lengths of the fields -/

theorem codeByte_length (n : Nat) : (codeByte n).length = 1 := rfl

theorem absentField_length (w : Nat) : (absentField w).length = w := by
  unfold absentField
  split
  · next h => rw [h]; rfl
  · exact beBytes_length _ _

theorem signedField_length (w : Nat) (x : Int) : (signedField w x).length = w := by
  unfold signedField
  split <;> exact beBytes_length _ _

theorem optField_length (w : Nat) (x : Option Int) : (optField w x).length = w := by
  cases x with
  | none => exact absentField_length w
  | some x => exact signedField_length w x

theorem optCode_length (x : Option Nat) : (optCode x).length = 1 := by cases x <;> rfl

theorem optCode_eq (x : Option Nat) : optCode x = [BitVec.ofNat 8 (x.getD 0xFF)] := by cases x <;> rfl

/-! #### The sets of channels and of lines -/

theorem channelNumber_lt (c : ChannelId) : channelNumber c < 10 := by
  cases c
  case dep u => cases u <;> decide
  all_goals decide

/-- The number of a set of channels is written with a binary digit for each channel. -/
theorem channelMask_eq (p : ChannelId → Bool) :
    channelMask p = Nat.ofBits fun i : Fin 10 => p (allChannels[i.val]'i.isLt) := by
  have hstep (n k : Nat) (b : Bool) : (if b then n + k else n) = n + k * b.toNat := by cases b <;> simp
  simp only [channelMask, allChannels, List.foldl_cons, List.foldl_nil, hstep, channelNumber, unitNumber]
  simp only [Nat.ofBits_succ, Function.comp_def, Nat.ofBits_zero]
  show _ = 2 * (2 * (2 * (2 * (2 * (2 * (2 * (2 * (2 * (2 * 0 + (p (.dep .RO)).toNat) + (p (.dep .RI)).toNat)
    + (p (.dep .LI)).toNat) + (p (.dep .LO)).toNat) + (p .xl).toNat) + (p .lvlR).toNat) + (p .lvlL).toNat)
    + (p .lat).toNat) + (p .sat).toNat) + (p .odo).toNat
  ring

theorem channelMask_lt (p : ChannelId → Bool) : channelMask p < 2 ^ 10 := by
  rw [channelMask_eq]
  exact Nat.ofBits_lt_two_pow _

/-- A channel is in the set exactly where its digit is 1. -/
theorem channelMask_testBit (p : ChannelId → Bool) (c : ChannelId) :
    (channelMask p).testBit (channelNumber c) = p c := by
  rw [channelMask_eq, Nat.testBit_ofBits_lt _ _ (channelNumber_lt c)]
  cases c
  case dep u => cases u <;> rfl
  all_goals rfl

/-- The lines byte has the detector in bit 0 and the pressure lines behind it. -/
theorem linesByte_eq (s : State) : ∃ b : Byte, linesByte s = [b] ∧ b.getLsbD 0 = detectorActive s
    ∧ (∀ u, b.getLsbD (1 + unitNumber u) = pressureActive u s)
    ∧ b.getLsbD 5 = false ∧ b.getLsbD 6 = false ∧ b.getLsbD 7 = false := by
  have hbits : ∀ d lo li ri ro : Bool,
      let b : Byte := BitVec.ofNat 8 ((if d then 1 else 0) + (if lo then 2 else 0) + (if li then 4 else 0)
        + (if ri then 8 else 0) + (if ro then 16 else 0))
      b.getLsbD 0 = d ∧ b.getLsbD 1 = lo ∧ b.getLsbD 2 = li ∧ b.getLsbD 3 = ri ∧ b.getLsbD 4 = ro
        ∧ b.getLsbD 5 = false ∧ b.getLsbD 6 = false ∧ b.getLsbD 7 = false := by decide
  obtain ⟨h0, h1, h2, h3, h4, hrest⟩ := hbits (detectorActive s) (pressureActive .LO s) (pressureActive .LI s)
    (pressureActive .RI s) (pressureActive .RO s)
  refine ⟨_, rfl, h0, fun u => ?_, hrest⟩
  cases u
  exacts [h1, h2, h3, h4]

/-! #### The STATUS body -/

/-- The parts of the STATUS body, in their order. -/
def statusParts (s : State) : List (List Byte) :=
  [codeByte (modeCode s.cyc.mode) ++ codeByte (phaseCode s.cyc.phase) ++ markerByte s.cyc.pausePending
      ++ codeByte (causeCode s.cyc.cause) ++ optCode (s.cyc.detail.map detailCode)
      ++ codeByte (resetCode s.cyc.resetCause) ++ optCode (s.cond.armed.map Flag.number),
    flagsAndAny s.cond.flags ++ flagBytes s.cond.notice ++ flagBytes s.cond.stop,
    codeByte s.seg.segments.length ++ codeByte (freeEntries s.seg.segments),
    optField 4 (queueEnd s.seg.segments),
    codeByte s.slp.records.length ++ codeByte (s.slp.records.filter (·.state.finished)).length,
    optField 4 s.slp.highWater,
    beBytes 2 s.slp.nextSeq ++ signedField 4 (frameChainage s),
    optField 4 (headChainage s) ++ optField 4 (satOffset s),
    signedField 4 (detectorChainage s) ++ codeByte (driveCode s.pos.drive) ++ codeByte (demandCode s.pos.demand),
    beBytes 2 (channelMask fun c => (s.count.get c).nulled) ++ beBytes 2 (channelMask fun c => (s.count.get c).fault)
      ++ linesByte s,
    unitSetByte s.headSet, unitStatus s.heads.LO, unitStatus s.heads.LI, unitStatus s.heads.RI, unitStatus s.heads.RO,
    axisStatus s.axes.liftL ++ axisStatus s.axes.liftR ++ axisStatus s.axes.line ++ codeByte 0]

theorem statusBody_eq (s : State) : statusBody s = (statusParts s).flatten := by
  unfold statusBody statusParts
  simp only [List.flatten_cons]
  simp only [List.flatten_nil, List.append_nil]
  simp only [List.append_assoc]

theorem linesByte_length (s : State) : (linesByte s).length = 1 := codeByte_length _

theorem flagBytes_length (f : FlagSet) : (flagBytes f).length = 3 := beBytes_length 3 f.toNat

theorem flagsAndAny_length (f : FlagSet) : (flagsAndAny f).length = 4 := by
  rw [flagsAndAny, List.length_append, flagBytes_length, markerByte, codeByte_length]

theorem unitStatus_length (h : Head) : (unitStatus h).length = 3 := by
  simp only [unitStatus, List.length_append, codeByte_length, optCode_length]

theorem axisStatus_length (x : Axis) : (axisStatus x).length = 2 := by
  simp only [axisStatus, List.length_append, codeByte_length, optCode_length]

/-- The lengths of the parts. -/
theorem statusParts_lengths (s : State) :
    (statusParts s).map List.length = [7, 10, 2, 4, 2, 4, 6, 8, 6, 5, 1, 3, 3, 3, 3, 7] := by
  simp only [statusParts, List.map_cons, List.map_nil, List.length_append, codeByte_length, optCode_length,
    flagsAndAny_length, flagBytes_length, optField_length, beBytes_length, signedField_length, linesByte_length,
    unitStatus_length, axisStatus_length, Nat.reduceAdd]
  rfl

theorem statusBody_length (s : State) : (statusBody s).length = 74 := by
  rw [statusBody_eq, List.length_flatten, statusParts_lengths]
  rfl

/-- The part of the STATUS body at an offset of the body table. -/
theorem status_part (s : State) {i off : Nat} {part : List Byte} (h : (statusParts s)[i]? = some part)
    (hoff : (([7, 10, 2, 4, 2, 4, 6, 8, 6, 5, 1, 3, 3, 3, 3, 7] : List Nat).take i).sum = off) :
    StandsAt (statusBody s) off part := by
  rw [statusBody_eq]
  refine standsAt_flatten h ?_
  rw [List.length_flatten, List.map_take, statusParts_lengths, hoff]

/-! #### The SNAPSHOT body -/

theorem channelBody_length (c : ChannelId) (s : State) : (channelBody c s).length = 9 := by
  simp only [channelBody, List.length_append, signedField_length, optField_length, codeByte_length]

/-- The part of a channel stands at nine times its number. -/
theorem snapshot_channel (c : ChannelId) (s : State) : StandsAt (snapshotBody s) (9 * channelNumber c) (channelBody c s) := by
  have hget : allChannels[channelNumber c]? = some c := by
    cases c
    case dep u => cases u <;> rfl
    all_goals rfl
  have hflat : snapshotBody s = ((allChannels.map fun c => channelBody c s) ++ [linesByte s]).flatten := by
    simp only [snapshotBody, List.flatMap_def, List.flatten_append, List.flatten_cons, List.flatten_nil, List.append_nil]
  have hpart : ((allChannels.map fun c => channelBody c s) ++ [linesByte s])[channelNumber c]? = some (channelBody c s) := by
    rw [List.getElem?_append_left, List.getElem?_map, hget]
    · rfl
    · rw [List.length_map]
      exact channelNumber_lt c
  rw [hflat]
  refine standsAt_flatten hpart ?_
  cases c
  case dep u => cases u <;> simp [allChannels, channelNumber, unitNumber, channelBody_length]
  all_goals simp [allChannels, channelNumber, channelBody_length]

theorem snapshotChannels_length (s : State) : (allChannels.flatMap fun c => channelBody c s).length = 90 := by
  simp [allChannels, channelBody_length]

/-! #### The codes -/

theorem optCode_detail (d : Option Detail) : optCode (d.map detailCode) = [BitVec.ofNat 8 (match d with
    | none => 0xFF
    | some (.flag f) => f.number
    | some (.unit u) => unitNumber u
    | some (.channel c) => channelNumber c)] := by
  rcases d with _ | ⟨f⟩ | ⟨u⟩ | ⟨c⟩ <;> rfl

theorem unitStatus_eq (h : Head) : unitStatus h
    = [BitVec.ofNat 8 (headCode h.state)] ++ [BitVec.ofNat 8 (match h.state, h.stage with
        | .raising, some .normal => 0
        | .raising, some .stuck => 1
        | .raising, some .blind => 2
        | _, _ => 0xFF)] ++ [BitVec.ofNat 8 (if h.tilted then 1 else 0)] := by
  have hstage : optCode (if h.state = .raising then h.stage.map stageCode else none)
      = [BitVec.ofNat 8 (match h.state, h.stage with
        | .raising, some .normal => 0
        | .raising, some .stuck => 1
        | .raising, some .blind => 2
        | _, _ => 0xFF)] := by
    cases h.state
    case raising => rcases h.stage with _ | _ | _ | _ <;> rfl
    all_goals rfl
  rw [unitStatus, hstage]
  rfl

theorem axisStatus_eq (x : Axis) : axisStatus x
    = [BitVec.ofNat 8 (axisCode x.state)] ++ [BitVec.ofNat 8 (match x.state, x.outcome with
        | .hold, some .reached => 0
        | .hold, some .timeout => 1
        | .hold, some .hunt => 2
        | .hold, some .cut => 3
        | _, _ => 0xFF)] := by
  have houtcome : optCode (if x.state = .hold then x.outcome.map outcomeCode else none)
      = [BitVec.ofNat 8 (match x.state, x.outcome with
        | .hold, some .reached => 0
        | .hold, some .timeout => 1
        | .hold, some .hunt => 2
        | .hold, some .cut => 3
        | _, _ => 0xFF)] := by
    cases x.state
    case hold => rcases x.outcome with _ | _ | _ | _ | _ <;> rfl
    all_goals rfl
  rw [axisStatus, houtcome]
  rfl

theorem resetCode_eq (c : ResetCause) : resetCode c = if c = .power then 0 else 1 := by cases c <;> rfl

theorem flagsAndAny_eq (f : FlagSet) : flagsAndAny f = beBytes 3 f.toNat ++ [BitVec.ofNat 8 (if f = 0 then 0 else 1)] := by
  rw [flagsAndAny, flagBytes, markerByte, codeByte]
  by_cases h : f = 0
  · rw [if_pos h, h]
    rfl
  · rw [if_neg h, bne_iff_ne.mpr h]
    rfl

/-- Settles O44: the two owners change nothing, and each field stands in its place. -/
theorem statusAndSnapshotReply : Obligations.StatusAndSnapshotReply := by
  intro s dt tag hs
  have part {i off : Nat} {field : List Byte} (h : (statusParts s)[i]? = some field)
      (hoff : (([7, 10, 2, 4, 2, 4, 6, 8, 6, 5, 1, 3, 3, 3, 3, 7] : List Nat).take i).sum = off) :
      ((statusBody s).drop off).take field.length = field := (status_part s h hoff).read
  have channel (c : ChannelId) {n : Nat} {field : List Byte} (h : StandsAt (channelBody c s) n field) :
      ((snapshotBody s).drop (9 * channelNumber c + n)).take field.length = field :=
    ((snapshot_channel c s).trans h rfl).read
  have hreading (c : ChannelId) : StandsAt (channelBody c s) 4 (optField 4 (snapshotReading c s)) :=
    ⟨_, _, List.append_assoc _ _ _, signedField_length _ _⟩
  have hother (c : ChannelId) (hc : c ≠ .odo) : snapshotReading c s = reading c s := by
    cases c
    case odo => exact absurd rfl hc
    all_goals rfl
  have hmask (p : ChannelId → Bool) : (BitVec.ofNat 16 (channelMask p)).toNat = channelMask p := by
    have := channelMask_lt p
    rw [BitVec.toNat_ofNat]
    omega
  have hbit (p : ChannelId → Bool) (i : Nat) (hi : i < 16) :
      (BitVec.ofNat 16 (channelMask p)).getLsbD i = (channelMask p).testBit i := by
    rw [BitVec.getLsbD_ofNat, decide_eq_true hi, Bool.true_and]
  have hclear (p : ChannelId → Bool) (i : Nat) (hi : 10 ≤ i) : (BitVec.ofNat 16 (channelMask p)).getLsbD i = false := by
    have hlt : channelMask p < 2 ^ i := (channelMask_lt p).trans_le (Nat.pow_le_pow_right (by decide) hi)
    rw [BitVec.getLsbD_ofNat, Nat.testBit_lt_two_pow hlt, Bool.and_false]
  obtain ⟨b, hline, hlines⟩ := linesByte_eq s
  refine ⟨?_, ?_, statusBody_length s, ?_, ?_, ?_, ?_, fun e he => ?_, fun he => ?_, ?_, fun x hx => ?_, fun hx => ?_, ?_,
    fun x o hx ho => ?_, fun ho => ?_, ?_, ⟨BitVec.ofNat 16 (channelMask fun c => (s.count.get c).nulled),
      BitVec.ofNat 16 (channelMask fun c => (s.count.get c).fault), b, ?_, hlines, ?_, fun c => ⟨?_, ?_⟩,
      fun i hi => ⟨?_, ?_⟩⟩, ?_, fun u => ?_, ?_, fun c => ⟨?_, fun hc => ?_, fun x hc hx => ?_, fun hc hx => ?_, ?_⟩⟩
  · exact congrArg Host.Outcome.next (request_unchanged (r := .status) hs rfl)
  · exact congrArg Host.Outcome.next (request_unchanged (r := .snapshot) hs rfl)
  · rw [snapshotBody, List.length_append, snapshotChannels_length, linesByte_length]
  · have h := part (i := 0) rfl rfl
    rw [optCode_detail, optCode_eq, resetCode_eq] at h
    exact h
  · have h := part (i := 1) rfl rfl
    rw [flagsAndAny_eq] at h
    exact h
  · have h := part (i := 2) rfl rfl
    rw [freeEntries, bearersHeld_eq] at h
    exact h
  · have h := part (i := 3) rfl rfl
    rw [he] at h
    exact h
  · have h := part (i := 3) rfl rfl
    rw [he] at h
    exact h
  · exact part (i := 4) rfl rfl
  · have h := part (i := 5) rfl rfl
    rw [hx] at h
    exact h
  · have h := part (i := 5) rfl rfl
    rw [hx] at h
    exact h
  · exact part (i := 6) rfl rfl
  · have h := part (i := 7) rfl rfl
    rw [hx, ho] at h
    exact h
  · have h := part (i := 7) rfl rfl
    rw [headChainage, ho] at h
    exact h
  · exact part (i := 8) rfl rfl
  · have h := part (i := 9) rfl rfl
    rw [hline] at h
    rw [hmask, hmask]
    exact h
  · rw [snapshotBody, List.drop_left' (snapshotChannels_length s), hline]
  · exact (hbit _ (channelNumber c) (by have := channelNumber_lt c; omega)).trans (channelMask_testBit _ c)
  · exact (hbit _ (channelNumber c) (by have := channelNumber_lt c; omega)).trans (channelMask_testBit _ c)
  · exact hclear _ i hi
  · exact hclear _ i hi
  · exact part (i := 10) rfl rfl
  · have h := part (i := 11 + unitNumber u) (field := unitStatus (s.heads.get u)) (off := 55 + 3 * unitNumber u)
      (by cases u <;> rfl) (by cases u <;> rfl)
    rw [unitStatus_eq] at h
    exact h
  · have h := part (i := 15) rfl rfl
    rw [axisStatus_eq, axisStatus_eq, axisStatus_eq] at h
    simp only [← List.append_assoc] at h
    exact h
  · exact channel c (n := 0) ⟨[], _, List.append_assoc _ _ _, rfl⟩
  · have h := channel .odo (n := 4) (hreading .odo)
    exact h
  · have h := channel c (hreading c)
    rw [hother c hc, hx] at h
    exact h
  · have h := channel c (hreading c)
    rw [hother c hc, hx] at h
    exact h
  · exact channel c (n := 8) ⟨_, [], by rw [List.append_nil]; rfl, by
      rw [List.length_append, signedField_length, optField_length]⟩

end Sys2Proof.Machine
end


section
/-! ### The channels nulled -/

namespace Sys2Proof.Machine

/-! #### The list of NULL_CHANNELS -/

theorem channelOfNumber_eq {n : Nat} {c : ChannelId} (h : channelOfNumber n = some c) : n = channelNumber c := by
  have hlt : n < 10 := (List.getElem?_eq_some_iff.mp h).1
  interval_cases n <;> (obtain rfl := Option.some.inj h; rfl)

/-- A reference within the range of its channel (R11). -/
theorem referenceOk_iff (c : ChannelId) (x : Int) : referenceOk c x = true ↔ c ≠ .odo
    ∧ ((c = .sat ∨ ∃ u, c = .dep u) → 0 ≤ x ∧ x ≤ 10000)
    ∧ ((c = .lat ∨ c = .lvlL ∨ c = .lvlR ∨ c = .xl) → -50000 ≤ x ∧ x ≤ 50000) := by
  cases c <;> simp [referenceOk]

theorem nullEntryOk_iff (e : Nat × Int) : nullEntryOk e = true ↔ ∃ c, channelOfNumber e.1 = some c ∧ c ≠ .odo
    ∧ ((c = .sat ∨ ∃ u, c = .dep u) → 0 ≤ e.2 ∧ e.2 ≤ 10000)
    ∧ ((c = .lat ∨ c = .lvlL ∨ c = .lvlR ∨ c = .xl) → -50000 ≤ e.2 ∧ e.2 ≤ 50000) := by
  unfold nullEntryOk
  cases h : channelOfNumber e.1 with
  | none => simp
  | some c => simp [referenceOk_iff]

theorem nullListOk_iff (entries : List (Nat × Int)) : nullListOk entries = true
    ↔ entries ≠ [] ∧ (entries.map Prod.fst).Nodup ∧ ∀ e ∈ entries, nullEntryOk e = true := by
  simp only [nullListOk, Bool.and_eq_true, Bool.not_eq_true', List.isEmpty_eq_false_iff, List.all_eq_true,
    decide_eq_true_eq]
  tauto

/-! #### What an entry does -/

/-- A channel nulled with a reference value (R12). -/
def Channel.nulledAt (x : Int) (ch : Channel) : Channel :=
  { ch with countAtNull := ch.count, reference := x, nulled := true, fault := false }

/-- An entry that names no channel changes nothing. -/
theorem nullEntry_none {s : State} {e : Nat × Int} (h : channelOfNumber e.1 = none) : nullEntry s e = s := by
  rw [nullEntry, h]

theorem nullEntry_count {s : State} {e : Nat × Int} {c : ChannelId} (h : channelOfNumber e.1 = some c) :
    (nullEntry s e).count = s.count.set c ((s.count.get c).nulledAt e.2) := by
  have hrestore (u : UnitId) (t : State) : (restoreHead u t).count = t.count := by
    unfold restoreHead
    split <;> rfl
  rw [nullEntry, h]
  cases c
  case dep u => exact hrestore u _
  all_goals rfl

theorem restoreHead_head (u v : UnitId) (s : State) : (restoreHead u s).heads.get v
    = if (s.heads.get v).state = .faulted ∧ v = u then { s.heads.get v with state := .up } else s.heads.get v := by
  unfold restoreHead
  by_cases hv : v = u
  · subst hv
    by_cases hf : (s.heads.get v).state = .faulted
    · rw [if_pos hf, if_pos ⟨hf, rfl⟩, State.modHead_heads, Four.get_set]
    · rw [if_neg hf, if_neg fun h => hf h.1]
  · refine Eq.trans ?_ (if_neg fun h => hv h.2).symm
    split
    · rw [State.modHead_heads, Four.get_set_ne _ _ hv]
    · rfl

/-- A FAULTED unit whose depth channel is nulled returns to UP (R131). -/
theorem nullEntry_head (s : State) (e : Nat × Int) (v : UnitId) : (nullEntry s e).heads.get v
    = if (s.heads.get v).state = .faulted ∧ channelOfNumber e.1 = some (.dep v)
      then { s.heads.get v with state := .up } else s.heads.get v := by
  cases h : channelOfNumber e.1 with
  | none => rw [nullEntry_none h, if_neg (by simp)]
  | some c =>
    rw [nullEntry, h]
    cases c
    case dep u =>
      have hsame : (some (ChannelId.dep u) = some (.dep v)) ↔ v = u := by simp [eq_comm]
      exact (restoreHead_head u v _).trans (if_congr (and_congr_right' hsame.symm) rfl rfl)
    all_goals exact (if_neg (by simp)).symm

/-- An entry changes the count unit and the units alone. -/
theorem nullEntry_eq (s : State) (e : Nat × Int) :
    nullEntry s e = { s with count := (nullEntry s e).count, heads := (nullEntry s e).heads } := by
  have hrestore (u : UnitId) (t : State) : restoreHead u t = { t with heads := (restoreHead u t).heads } := by
    unfold restoreHead
    split <;> rfl
  cases h : channelOfNumber e.1 with
  | none => rw [nullEntry_none h]
  | some c =>
    rw [nullEntry, h]
    cases c
    case dep u => 
      dsimp only
      rw [hrestore]
      rfl
    all_goals rfl

/-! #### What a list of entries does -/

section entries
variable {entries : List (Nat × Int)}

theorem foldl_nullEntry_eq (entries : List (Nat × Int)) (s : State) : entries.foldl nullEntry s
    = { s with count := (entries.foldl nullEntry s).count, heads := (entries.foldl nullEntry s).heads } := by
  induction entries generalizing s with
  | nil => rfl
  | cons e rest ih =>
    rw [List.foldl_cons, ih, nullEntry_eq s e]

/-- A channel that no entry names keeps all its state. -/
theorem foldl_nullEntry_other {c : ChannelId} (h : ∀ e ∈ entries, channelOfNumber e.1 ≠ some c) (s : State) :
    (entries.foldl nullEntry s).count.get c = s.count.get c := by
  induction entries generalizing s with
  | nil => rfl
  | cons e rest ih =>
    rw [List.foldl_cons, ih fun x hx => h x (List.mem_cons_of_mem _ hx)]
    cases hd : channelOfNumber e.1 with
    | none => rw [nullEntry_none hd]
    | some d =>
      have hne : c ≠ d := fun heq => h e List.mem_cons_self (heq ▸ hd)
      rw [nullEntry_count hd, CountUnit.get_set_ne _ _ hne]

/-- A channel that is named once is nulled with its reference. -/
theorem foldl_nullEntry_named (hnodup : (entries.map Prod.fst).Nodup) {e : Nat × Int} (he : e ∈ entries) {c : ChannelId}
    (hc : channelOfNumber e.1 = some c) (s : State) :
    (entries.foldl nullEntry s).count.get c = (s.count.get c).nulledAt e.2 := by
  induction entries generalizing s with
  | nil => cases he
  | cons x rest ih =>
    rw [List.map_cons, List.nodup_cons] at hnodup
    obtain ⟨hfresh, hrest⟩ := hnodup
    rw [List.foldl_cons]
    rcases List.mem_cons.mp he with rfl | he
    · have hother : ∀ y ∈ rest, channelOfNumber y.1 ≠ some c := fun y hy hcy => by
        have hsame : y.1 = e.1 := (channelOfNumber_eq hcy).trans (channelOfNumber_eq hc).symm
        exact hfresh (hsame ▸ List.mem_map_of_mem hy)
      rw [foldl_nullEntry_other hother, nullEntry_count hc, CountUnit.get_set]
    · have hkept : (nullEntry s x).count.get c = s.count.get c := by
        cases hd : channelOfNumber x.1 with
        | none => rw [nullEntry_none hd]
        | some d =>
          have hne : c ≠ d := fun heq => by
            have hsame : e.1 = x.1 := (channelOfNumber_eq hc).trans (heq ▸ (channelOfNumber_eq hd).symm)
            exact hfresh (hsame ▸ List.mem_map_of_mem he)
          rw [nullEntry_count hd, CountUnit.get_set_ne _ _ hne]
      rw [ih hrest he, hkept]

/-- No line's filter is changed. -/
theorem foldl_nullEntry_filter (entries : List (Nat × Int)) (l : Line) (s : State) :
    (entries.foldl nullEntry s).count.filter l = s.count.filter l := by
  induction entries generalizing s with
  | nil => rfl
  | cons e rest ih =>
    rw [List.foldl_cons, ih]
    cases hd : channelOfNumber e.1 with
    | none => rw [nullEntry_none hd]
    | some d =>
      rw [nullEntry_count hd]
      cases l with
      | channelA c =>
        by_cases hc : c = d
        · subst hc
          simp only [CountUnit.filter, CountUnit.get_set, Channel.nulledAt]
        · simp only [CountUnit.filter, CountUnit.get_set_ne _ _ hc]
      | channelB c =>
        by_cases hc : c = d
        · subst hc
          simp only [CountUnit.filter, CountUnit.get_set, Channel.nulledAt]
        · simp only [CountUnit.filter, CountUnit.get_set_ne _ _ hc]
      | detector => cases d <;> rfl
      | pressure u => cases d <;> rfl

theorem foldl_nullEntry_head (entries : List (Nat × Int)) (v : UnitId) (s : State) :
    (entries.foldl nullEntry s).heads.get v
      = if (s.heads.get v).state = .faulted ∧ ∃ e ∈ entries, channelOfNumber e.1 = some (.dep v)
        then { s.heads.get v with state := .up } else s.heads.get v := by
  induction entries generalizing s with
  | nil => exact (if_neg (by simp)).symm
  | cons e rest ih =>
    have hhead := nullEntry_head s e v
    rw [List.foldl_cons, ih]
    by_cases he : channelOfNumber e.1 = some (.dep v)
    · by_cases hf : (s.heads.get v).state = .faulted
      · rw [if_pos ⟨hf, he⟩] at hhead
        rw [hhead, if_neg (by simp), if_pos ⟨hf, e, List.mem_cons_self, he⟩]
      · rw [if_neg fun h => hf h.1] at hhead
        rw [hhead, if_neg fun h => hf h.1, if_neg fun h => hf h.1]
    · rw [if_neg fun h => he h.2] at hhead
      rw [hhead]
      exact if_congr (and_congr_right' (by simp [he])) rfl rfl

end entries

/-- A channel that has just been nulled reads its reference (R7, R8, R12). -/
theorem reading_nulledAt {c : ChannelId} {x : Int} {ch : Channel} {t : State} (h : t.count.get c = ch.nulledAt x) :
    reading c t = some x := by
  unfold reading
  rw [h]
  simp only [Channel.nulledAt, if_true, Int.sub_self, Int.zero_mul, Int.zero_ediv, Int.add_zero]
  cases channelPitch t.params c <;> rfl

theorem takeNull_mode {entries : List (Nat × Int)} {s : State} (h : s.cyc.mode ≠ .ready) :
    takeNull entries s = refusedWith .wrongMode s := if_pos h

theorem takeNull_bad {entries : List (Nat × Int)} {s : State} (h : s.cyc.mode = .ready)
    (hlist : nullListOk entries ≠ true) : takeNull entries s = refusedWith .outOfRange s := by
  rw [takeNull, if_neg (not_not_intro h), if_neg hlist]

theorem takeNull_taken {entries : List (Nat × Int)} {s : State} (h : s.cyc.mode = .ready)
    (hlist : nullListOk entries = true) :
    takeNull entries s = accepted (State.driven { s with
      count := (entries.foldl nullEntry s).count
      heads := (entries.foldl nullEntry s).heads }) [] := by
  rw [takeNull, if_neg (not_not_intro h), if_pos hlist, foldl_nullEntry_eq]
  rfl

/-- Settles O45: the checks in their order, and the entries one by one. -/
theorem channelsNulled : Obligations.ChannelsNulled := by
  intro s dt tag entries hs r inRange listOk
  have hlist : nullListOk entries = true ↔ listOk := by
    rw [nullListOk_iff]
    exact and_congr_right' (and_congr_right' (forall₂_congr fun e _ => nullEntryOk_iff e))
  refine ⟨fun hmode => ?_, fun hmode hbad => ?_, fun hmode hok => ?_⟩
  · exact congrArg Host.Outcome.next (request_refused (r := .nullChannels entries) hs (takeNull_mode hmode))
  · exact congrArg Host.Outcome.next
      (request_refused (r := .nullChannels entries) hs (takeNull_bad hmode fun h => hbad (hlist.mp h)))
  · refine ⟨_, _, congrArg Host.Outcome.next ((request_answered (r := .nullChannels entries) hs
      (takeNull_taken hmode (hlist.mpr hok)) rfl hs.powered rfl).trans rfl), fun l => foldl_nullEntry_filter entries l _,
      fun e c he hc => ?_, fun c hc => foldl_nullEntry_other hc _, fun u => foldl_nullEntry_head entries u _⟩
    have hnulled := foldl_nullEntry_named hok.2.1 he hc (s.arriving dt 0x03 tag (.nullChannels entries))
    exact ⟨hnulled, fun t ht => reading_nulledAt ((congrArg (fun q : CountUnit => q.get c) ht).trans hnulled)⟩

end Sys2Proof.Machine
end


section
/-! ### The accepted changes of the lines -/

namespace Sys2Proof.Machine

/-! #### The transmission of an instant -/

/-- The transmit arbitration changes the port alone. -/
theorem arbitrate_eq (s : State) : arbitrate s = { s with link := (arbitrate s).link } := by
  unfold arbitrate
  split
  · split
    · rfl
    · rfl
    · split
      · rfl
      · unfold sendOwn
        repeat' split
        · rfl
        · unfold sendNotice
          repeat' split
          all_goals rfl
        · rfl
  · rfl

theorem arbitrate_count (s : State) : (arbitrate s).count = s.count := by rw [arbitrate_eq]

theorem arbitrate_cond (s : State) : (arbitrate s).cond = s.cond := by rw [arbitrate_eq]

/-! #### Where no armed stop is acted on at once -/

section quiet
variable {s : State}

theorem State.InWorkOrOut.not_stopsAtOnce (h : s.InWorkOrOut) : ¬ (s.cyc.mode = .work ∧ stopsAtOnce s.cyc.phase = true) := by
  rintro ⟨hmode, hphase⟩
  rcases h hmode with hp | hp | hp <;> rw [hp] at hphase <;> exact absurd hphase (by decide)

theorem State.InWorkOrOut.actOnStop_eq (h : s.InWorkOrOut) : actOnStop s = s := by
  unfold actOnStop
  split
  · exact if_neg h.not_stopsAtOnce
  · rfl

theorem State.InWorkOrOut.of_cyc {t : State} (h : s.InWorkOrOut) (ht : t.cyc = s.cyc) : t.InWorkOrOut := by
  rw [State.InWorkOrOut, ht]
  exact h

theorem State.InWorkOrOut.raiseFlag_eq (h : s.InWorkOrOut) (f : Flag) : raiseFlag f s = setFlag f s :=
  (h.of_cyc (setFlag_cyc f s)).actOnStop_eq

theorem State.InWorkOrOut.seek_eq (h : s.InWorkOrOut) : seek s = s := by
  refine if_neg fun hdue => ?_
  simp only [seekDue, Bool.and_eq_true, decide_eq_true_eq] at hdue
  obtain ⟨⟨hmode, hphase, -⟩, -⟩ := hdue
  exact h.not_stopsAtOnce ⟨hmode, by rw [hphase]; rfl⟩

theorem State.InWorkOrOut.reachAgain_eq (h : s.InWorkOrOut) : reachAgain s = s :=
  if_neg fun h' => h.not_stopsAtOnce ⟨h'.1, by rw [h'.2]; rfl⟩

end quiet

/-! #### The expiry of a filter window -/

theorem exec_filterWindowExpiry {s : State} {l : Line} {t0 : Nat} (hpower : s.powered = true)
    (hsince : (s.count.filter l).since = some t0) :
    exec (.filterWindowExpiry l) s
      = .next (arbitrate (acceptLine l (pairedLine l s) (s.beginBy (t0 + s.params.p38)))) := by
  show execFilterWindowExpiry l s = _
  rw [execFilterWindowExpiry, hpower, hsince]

/-! #### A change of a unit that ends no phase -/

section undisturbed
variable {s t : State} {u : UnitId}

theorem State.Undisturbed.inWorkOrOut (h : s.Undisturbed u) : s.InWorkOrOut := fun hmode => by
  rcases h hmode with hp | ⟨hp, -⟩
  exacts [.inl hp, .inr (.inl hp)]

theorem State.Undisturbed.of_same (h : s.Undisturbed u) (hcyc : t.cyc = s.cyc)
    (hheads : ∀ v, v ≠ u → t.heads.get v = s.heads.get v) : t.Undisturbed u := by
  intro hmode
  rw [hcyc] at hmode ⊢
  rcases h hmode with hp | ⟨hp, v, active, hv, hactive, hin, htrain⟩
  · exact .inl hp
  · exact .inr ⟨hp, v, active, hv, hactive, hin, by rwa [hheads v hv]⟩

theorem State.NoRelease.of_axes (h : s.NoRelease) (haxes : t.axes = s.axes) : t.NoRelease := fun a => by
  rw [haxes]
  exact h a

theorem mem_allUnits (u : UnitId) : u ∈ allUnits := by cases u <;> decide

theorem mem_allAxes (a : AxisId) : a ∈ allAxes := by cases a <;> decide

/-- With no release pending none is taken. -/
theorem State.NoRelease.settleReleases_eq (h : s.NoRelease) : settleReleases s = s := by
  have hfold : allAxes.foldl (fun s a => if (s.axes.get a).releasePending then takeRelease a s else s) s = s := by
    simp only [allAxes, List.foldl_cons, List.foldl_nil, h .liftL, h .liftR, h .line, Bool.false_eq_true, if_false]
  unfold settleReleases
  rw [hfold, ite_self]

/-- A unit of the active set in its insertion train holds the release back (R152). -/
theorem releaseCondition_false {v : UnitId} (hactive : unitIn v (s.cyc.active.getD 0) = true)
    (htrain : inTrain (s.heads.get v).state = true) : releaseCondition s = false := by
  refine Bool.eq_false_iff.mpr fun h => ?_
  have hv := List.all_eq_true.mp h v (mem_allUnits v)
  rw [hactive, htrain] at hv
  exact absurd hv Bool.false_ne_true

theorem State.Undisturbed.judgeRelease_eq (h : s.Undisturbed u) : judgeRelease s = s := by
  refine if_neg fun hdue => ?_
  obtain ⟨hmode, hphase, hcondition⟩ := hdue
  rcases h hmode with hp | ⟨-, v, active, -, hactive, hin, htrain⟩
  · rw [hp] at hphase
    cases hphase
  · rw [releaseCondition_false (v := v) (by rw [hactive]; exact hin) htrain] at hcondition
    cases hcondition

theorem State.Undisturbed.judgeClearing_eq (h : s.Undisturbed u) : judgeClearing s = s := by
  refine if_neg fun hdue => ?_
  obtain ⟨hmode, hphase, -⟩ := hdue
  rcases h hmode with hp | ⟨hp, -⟩ <;> rw [hp] at hphase <;> cases hphase

/-- What follows a change of a unit that ends no phase: the drive's command alone. -/
theorem State.Undisturbed.afterUnit_eq (h : s.Undisturbed u) (hr : s.NoRelease) : afterUnit u s = s.driven := by
  have hout : (refreshOutput s).Undisturbed u := h.of_same rfl fun _ _ => rfl
  unfold afterUnit
  rw [h.inWorkOrOut.actOnStop_eq]
  dsimp only
  rw [hr.settleReleases_eq, hout.judgeRelease_eq, hout.judgeClearing_eq, ite_self]
  rfl

end undisturbed

/-- An event that leaves a unit's state and depth as they were is followed by nothing. -/
theorem followUnit_same {u : UnitId} {before s : State} (hstate : (s.heads.get u).state = (before.heads.get u).state)
    (hdepth : depthOf u s = depthOf u before) : followUnit u before s = s := by
  rw [followUnit, if_neg (not_not_intro hstate), if_neg fun h => h.2 hdepth]

theorem followUnit_changed {u : UnitId} {before s : State}
    (hstate : (s.heads.get u).state ≠ (before.heads.get u).state) : followUnit u before s = afterUnit u s := if_pos hstate

/-! #### The pressure lines -/

theorem Four.set_set {α : Type} (x : Four α) (u : UnitId) (v w : α) : (x.set u v).set u w = x.set u w := by
  cases u <;> rfl

/-- Pressure seen in a squeeze phase in PRESSURE mode ends the phase (R125). -/
theorem seePressure_ends {u : UnitId} {s : State} (hstate : (s.heads.get u).state = .squeezing)
    (hseen : (s.heads.get u).pressureSeen = false) (hmode : (s.heads.get u).squeezeMode = .pressure) :
    seePressure u s = { s with heads := s.heads.set u { s.heads.get u with
      pressureSeen := true
      state := .opening
      timer := some ⟨s.params.p30, s.clock⟩
      report := { (s.heads.get u).report with
        pressureCount := (s.heads.get u).report.pressureCount + 1
        insertions := (s.heads.get u).report.insertions + 1 } } } := by
  rw [seePressure, if_pos ⟨hstate, hseen⟩, if_pos hmode, endPhase, if_pos (by simp)]
  simp only [enterOpening, State.modHead, Four.get_set, Four.set_set, State.loadTimer]

/-- In TIME mode it is counted, and the phase goes on. -/
theorem seePressure_counts {u : UnitId} {s : State} (hstate : (s.heads.get u).state = .squeezing)
    (hseen : (s.heads.get u).pressureSeen = false) (hmode : (s.heads.get u).squeezeMode = .time) :
    seePressure u s = { s with heads := s.heads.set u { s.heads.get u with
      pressureSeen := true
      report := { (s.heads.get u).report with
        pressureCount := (s.heads.get u).report.pressureCount + 1 } } } := by
  rw [seePressure, if_pos ⟨hstate, hseen⟩, if_neg (by simp [hmode])]
  rfl

/-- The state in which a pressure line's change has been accepted. -/
def State.pressureAccepted (s : State) (u : UnitId) (t0 : Nat) : State :=
  { s.beginBy (t0 + s.params.p38) with
    count := { s.count with
      pressure := s.count.pressure.set u
        ⟨(s.count.pressure.get u).present, (s.count.pressure.get u).present, none⟩ } }

theorem pressureActive_accepted (s : State) (u : UnitId) (t0 : Nat) :
    pressureActive u (s.pressureAccepted u t0) = (s.count.pressure.get u).present :=
  congrArg LineFilter.accepted (Four.get_set _ _ _)

theorem acceptLine_pressure (s : State) (u : UnitId) (t0 : Nat) :
    acceptLine (.pressure u) false (s.beginBy (t0 + s.params.p38))
      = if (s.count.pressure.get u).present then
          followUnit u (s.pressureAccepted u t0) (seePressure u (s.pressureAccepted u t0))
        else s.pressureAccepted u t0 := by
  rw [← pressureActive_accepted s u t0]
  rfl

/-- Settles O31: what the unit's state makes of an activation. -/
theorem pressureLineSeen : Obligations.PressureLineSeen := by
  intro s u t0 hpower hsince h level accepted seen
  have hexec : exec (.filterWindowExpiry (.pressure u)) s = .next (arbitrate (if (s.count.pressure.get u).present then
      followUnit u (s.pressureAccepted u t0) (seePressure u (s.pressureAccepted u t0))
      else s.pressureAccepted u t0)) := by
    rw [← acceptLine_pressure]
    exact exec_filterWindowExpiry hpower hsince
  have hactive (hlevel : level = true) : exec (.filterWindowExpiry (.pressure u)) s
      = .next (arbitrate (followUnit u (s.pressureAccepted u t0) (seePressure u (s.pressureAccepted u t0)))) :=
    hexec.trans (congrArg (fun t => Host.Outcome.next (arbitrate t)) (if_pos hlevel))
  refine ⟨fun hlevel => ?_, fun hlevel hstate hseen hmode hund hno => ?_, fun hlevel hstate hseen hmode => ?_,
    fun hlevel hnot => ?_⟩
  · exact hexec.trans (congrArg (fun t => Host.Outcome.next (arbitrate t)) (if_neg (by simp [hlevel, level])))
  · have hopened := seePressure_ends (s := s.pressureAccepted u t0) hstate hseen hmode
    have hsame : (seePressure u (s.pressureAccepted u t0)).Undisturbed u := by
      rw [hopened]
      exact hund.of_same rfl fun v hv => Four.get_set_ne _ _ hv
    rw [hactive hlevel, followUnit_changed, hsame.afterUnit_eq, hopened]
    · rfl
    · rw [hopened]
      exact hno
    · rw [hopened, Four.get_set]
      show HeadState.opening ≠ h.state
      rw [hstate]
      decide
  · have hcounted := seePressure_counts (s := s.pressureAccepted u t0) hstate hseen hmode
    rw [hactive hlevel, hcounted, followUnit_same]
    · rfl
    · rw [Four.get_set]
    · rfl
  · have hsee : seePressure u (s.pressureAccepted u t0) = s.pressureAccepted u t0 := by
      refine if_neg fun hboth => ?_
      obtain ⟨hstate, hseen⟩ := hboth
      rcases hnot with hne | hyes
      · exact hne hstate
      · exact absurd (hyes.symm.trans hseen) (by decide)
    rw [hactive hlevel, hsee, followUnit_same rfl rfl]
    rfl

end Sys2Proof.Machine
end


section
/-! ### The timing of a change, and its acceptance (O23) -/

namespace Sys2Proof.Machine

/-! #### The filters under a change -/

theorem CountUnit.filter_setFilter (q : CountUnit) (l : Line) (f : LineFilter) : (q.setFilter l f).filter l = f := by
  cases l <;> simp [CountUnit.setFilter, CountUnit.filter]

theorem CountUnit.filter_setPaired (q : CountUnit) (l m : Line) (v : Bool) : (q.setPaired m v).filter l = q.filter l := by
  have channel (c : ChannelId) : ((q.set c { q.get c with paired := v }).filter l) = q.filter l := by
    cases l with
    | channelA d =>
      rcases eq_or_ne d c with rfl | hd
      · simp [CountUnit.filter]
      · simp [CountUnit.filter, CountUnit.get_set_ne _ _ hd]
    | channelB d =>
      rcases eq_or_ne d c with rfl | hd
      · simp [CountUnit.filter]
      · simp [CountUnit.filter, CountUnit.get_set_ne _ _ hd]
    | detector => simp [CountUnit.filter]
    | pressure u => simp [CountUnit.filter]
  cases m with
  | channelA c => exact channel c
  | channelB c => exact channel c
  | detector => rfl
  | pressure u => rfl

/-- The count unit after the change of a line alone. -/
def CountUnit.turned (q : CountUnit) (l : Line) (t : Nat) : CountUnit :=
  (q.setFilter l ((q.filter l).toggle t)).setPaired l false

/-- The count unit after the change of both lines of a channel. -/
def CountUnit.turnedBoth (q : CountUnit) (c : ChannelId) (t : Nat) : CountUnit :=
  q.set c { q.get c with
    a := (q.get c).a.toggle t
    b := (q.get c).b.toggle t
    paired := decide ((q.get c).a.accepted = (q.get c).a.present ∧ (q.get c).b.accepted = (q.get c).b.present) }

theorem toggleLines_alone (l : Line) (s : State) :
    toggleLines l false s = { s with count := s.count.turned l s.clock } := by
  cases l <;> rfl

theorem toggle_timed (f : LineFilter) (t : Nat) : (f.toggle t).since.isSome = decide (f.accepted = f.present) := by
  unfold LineFilter.toggle
  by_cases h : f.accepted = f.present <;> simp [h]

theorem toggleLines_both {l : Line} {c : ChannelId} (hl : l = .channelA c ∨ l = .channelB c) (s : State) :
    toggleLines l true s = { s with count := s.count.turnedBoth c s.clock } := by
  have hpaired : (s.count.turnedBoth c s.clock).get c = { s.count.get c with
      a := (s.count.get c).a.toggle s.clock
      b := (s.count.get c).b.toggle s.clock
      paired := ((s.count.get c).a.toggle s.clock).since.isSome && ((s.count.get c).b.toggle s.clock).since.isSome } := by
    rw [CountUnit.turnedBoth, CountUnit.get_set, toggle_timed, toggle_timed, Bool.decide_and]
  have hset : s.count.turnedBoth c s.clock = s.count.set c ((s.count.turnedBoth c s.clock).get c) := by
    rw [CountUnit.turnedBoth, CountUnit.get_set]
  rw [hset, hpaired]
  rcases hl with rfl | rfl
  · simp [toggleLines, linePartner, State.modCount, CountUnit.setFilter, CountUnit.filter, CountUnit.setPaired, lineChannel]
  · simp [toggleLines, linePartner, State.modCount, CountUnit.setFilter, CountUnit.filter, CountUnit.setPaired, lineChannel,
      Bool.and_comm]

theorem pairedLine_turned (l : Line) (t : Nat) (s : State) :
    pairedLine l { s with count := s.count.turned l t } = false := by
  cases l <;> simp [pairedLine, lineChannel, CountUnit.turned, CountUnit.setPaired]

theorem filter_turned (q : CountUnit) (l : Line) (t : Nat) : (q.turned l t).filter l = (q.filter l).toggle t := by
  rw [CountUnit.turned, CountUnit.filter_setPaired, CountUnit.filter_setFilter]

theorem toggle_since {f : LineFilter} (h : f.accepted = f.present) (t : Nat) : (f.toggle t).since = some t := if_pos h

theorem toggle_differs {f : LineFilter} (h : f.accepted = f.present) (t : Nat) :
    ((f.toggle t).present != (f.toggle t).accepted) = true := by
  unfold LineFilter.toggle
  rw [h]
  cases f.present <;> rfl

/-! #### LINE_LEVEL_CHANGE -/

theorem exec_lineLevelChange {s : State} (hpower : s.powered = true) (dt : Nat) (l : Line) (together : Bool) :
    exec (.lineLevelChange dt l together) s = .next (arbitrate (changeLevel l together (s.beginAt dt))) :=
  congrArg Host.Outcome.next (if_pos hpower)

theorem changeLevel_timed {s : State} (hp : s.params.p38 ≠ 0) (l : Line) (together : Bool) :
    changeLevel l together s = toggleLines l together s := if_neg fun h => hp h.1

/-- Under an empty window a change is accepted at its instant, as at the expiry of the window it is timed by. -/
theorem accepted_at_once {s : State} {l : Line} {together : Bool} {count : CountUnit} {dt : Nat}
    (hpower : s.powered = true) (hp : s.params.p38 = 0)
    (htoggled : toggleLines l together (s.beginAt dt) = { s.beginAt dt with count := count })
    (hsince : (count.filter l).since = some (s.clock + dt))
    (hdiffers : ((count.filter l).present != (count.filter l).accepted) = true)
    (hpaired : (together && match linePartner l with
      | some m => differs m { s.beginAt dt with count := count }
      | none => false) = pairedLine l { s with count := count }) :
    exec (.lineLevelChange dt l together) s
      = exec (.filterWindowExpiry l) { s with clock := s.clock + dt, count := count } := by
  have hbegun : ({ s with clock := s.clock + dt, count := count } : State).beginBy (s.clock + dt + s.params.p38)
      = { s.beginAt dt with count := count } := by
    rw [State.beginBy, hp, Nat.add_zero, Nat.max_self]
    rfl
  have hexpiry := exec_filterWindowExpiry (s := { s with clock := s.clock + dt, count := count }) hpower hsince
  rw [exec_lineLevelChange hpower, hexpiry]
  dsimp only
  rw [hbegun, changeLevel, htoggled]
  dsimp only
  rw [if_pos (by exact ⟨hp, hdiffers⟩)]
  exact congrArg (fun both => Host.Outcome.next (arbitrate (acceptLine l both { s.beginAt dt with count := count }))) hpaired

/-- Settles O23: by whether the window is empty. -/
theorem lineChangeTimed : Obligations.LineChangeTimed := by
  intro s dt hpower changed alone both timed atOnce
  refine ⟨fun l => ⟨fun hp => ?_, fun hp hsame => ?_⟩, fun c l hl => ⟨fun hp => ?_, fun hp hA hB => ?_⟩, fun l hl => ?_⟩
  · exact (exec_lineLevelChange hpower dt l false).trans
      (congrArg (fun t => Host.Outcome.next (arbitrate t)) ((changeLevel_timed (s := s.beginAt dt) hp l false).trans (toggleLines_alone l _)))
  · refine accepted_at_once hpower hp (toggleLines_alone l _) ?_ ?_ ?_
    · exact (congrArg LineFilter.since (filter_turned _ l _)).trans (toggle_since hsame _)
    · exact (congrArg (fun f => f.present != f.accepted) (filter_turned _ l _)).trans (toggle_differs hsame _)
    · exact (pairedLine_turned l _ s).symm
  · exact (exec_lineLevelChange hpower dt l true).trans
      (congrArg (fun t => Host.Outcome.next (arbitrate t)) ((changeLevel_timed (s := s.beginAt dt) hp l true).trans (toggleLines_both hl _)))
  · have hget : (s.count.turnedBoth c (s.clock + dt)).get c = { s.count.get c with
        a := (s.count.get c).a.toggle (s.clock + dt), b := (s.count.get c).b.toggle (s.clock + dt), paired := true } := by
      rw [CountUnit.turnedBoth, CountUnit.get_set, decide_eq_true ⟨hA, hB⟩]
    have htoggled := toggleLines_both hl (s.beginAt dt)
    rcases hl with rfl | rfl
    · refine accepted_at_once hpower hp htoggled ?_ ?_ ?_
      · exact (congrArg (fun ch => ch.a.since) hget).trans (toggle_since hA _)
      · exact (congrArg (fun ch => ch.a.present != ch.a.accepted) hget).trans (toggle_differs hA _)
      · exact ((congrArg (fun ch => ch.b.present != ch.b.accepted) hget).trans (toggle_differs hB _)).trans
          (congrArg Channel.paired hget).symm
    · refine accepted_at_once hpower hp htoggled ?_ ?_ ?_
      · exact (congrArg (fun ch => ch.b.since) hget).trans (toggle_since hB _)
      · exact (congrArg (fun ch => ch.b.present != ch.b.accepted) hget).trans (toggle_differs hB _)
      · exact ((congrArg (fun ch => ch.a.present != ch.a.accepted) hget).trans (toggle_differs hA _)).trans
          (congrArg Channel.paired hget).symm
  · rcases hl with rfl | ⟨u, rfl⟩ <;> rfl

end Sys2Proof.Machine
end


section
/-! ### What the acceptance of a channel's change leaves alone -/

namespace Sys2Proof.Machine

/-! #### What the transmission of an instant leaves alone -/

@[simp] theorem arbitrate_clock (s : State) : (arbitrate s).clock = s.clock := by rw [arbitrate_eq]
@[simp] theorem arbitrate_params (s : State) : (arbitrate s).params = s.params := by rw [arbitrate_eq]
@[simp] theorem arbitrate_store (s : State) : (arbitrate s).store = s.store := by rw [arbitrate_eq]
@[simp] theorem arbitrate_headSet (s : State) : (arbitrate s).headSet = s.headSet := by rw [arbitrate_eq]
@[simp] theorem arbitrate_pos (s : State) : (arbitrate s).pos = s.pos := by rw [arbitrate_eq]
@[simp] theorem arbitrate_seg (s : State) : (arbitrate s).seg = s.seg := by rw [arbitrate_eq]
@[simp] theorem arbitrate_slp (s : State) : (arbitrate s).slp = s.slp := by rw [arbitrate_eq]
@[simp] theorem arbitrate_eng (s : State) : (arbitrate s).eng = s.eng := by rw [arbitrate_eq]
@[simp] theorem arbitrate_axes (s : State) : (arbitrate s).axes = s.axes := by rw [arbitrate_eq]
@[simp] theorem arbitrate_heads (s : State) : (arbitrate s).heads = s.heads := by rw [arbitrate_eq]
@[simp] theorem arbitrate_cyc (s : State) : (arbitrate s).cyc = s.cyc := by rw [arbitrate_eq]

theorem CountUnit.set_get (q : CountUnit) (c : ChannelId) : q.set c (q.get c) = q := by
  cases c with
  | dep u => exact congrArg (fun d => { q with depth := d }) (Four.set_get q.depth u)
  | odo => rfl
  | sat => rfl
  | lat => rfl
  | lvlL => rfl
  | lvlR => rfl
  | xl => rfl

/-! #### The loss of a null -/

theorem loseSatellite_kept (s : State) : (loseSatellite s).kept = s.kept := by
  unfold loseSatellite
  split
  · exact refreshOutput_kept s
  · exact (afterDrive_kept _).trans (rideDrive_kept s)
  · exact (afterDrive_kept _).trans (rideDrive_kept s)

theorem loseAxisChannel_kept (a : AxisId) (s : State) : (loseAxisChannel a s).kept = s.kept := by
  unfold loseAxisChannel
  split
  · exact (axisChannelLost_kept _ _).trans (cutAxis_kept a s)
  · rfl

theorem nullLost_kept (c : ChannelId) (s : State) : (nullLost c s).kept = s.kept := by
  cases c with
  | odo => rfl
  | sat => exact loseSatellite_kept s
  | lat => exact loseAxisChannel_kept _ s
  | lvlL => exact loseAxisChannel_kept _ s
  | lvlR => exact loseAxisChannel_kept _ s
  | xl => rfl
  | dep u => exact (afterUnit_kept u _).trans (loseDepth_kept u s)

/-! #### A count -/

/-- What a count leaves alone: the fixed part but for the ODO direction, which a count of ODO turns (R18). -/
def State.undirected (s : State) : Fixed := { s.kept.fixed with direction := .forward }

section undirected
variable {s t : State}

theorem undirected_of_fixed (h : t.kept.fixed = s.kept.fixed) : t.undirected = s.undirected :=
  congrArg (fun x => { x with direction := .forward }) h

theorem clock_of_undirected (h : t.undirected = s.undirected) : t.clock = s.clock := congrArg Fixed.clock h
theorem count_of_undirected (h : t.undirected = s.undirected) : t.count = s.count := congrArg Fixed.count h
theorem params_of_undirected (h : t.undirected = s.undirected) : t.params = s.params := congrArg Fixed.params h
theorem store_of_undirected (h : t.undirected = s.undirected) : t.store = s.store := congrArg Fixed.store h
theorem headSet_of_undirected (h : t.undirected = s.undirected) : t.headSet = s.headSet := congrArg Fixed.headSet h
theorem datum_of_undirected (h : t.undirected = s.undirected) : t.pos.datum = s.pos.datum := congrArg Fixed.datum h
theorem countAtDatum_of_undirected (h : t.undirected = s.undirected) : t.pos.countAtDatum = s.pos.countAtDatum :=
  congrArg Fixed.countAtDatum h

end undirected

theorem setDirection_undirected (up : Bool) (s : State) : (setDirection up s).undirected = s.undirected := by
  unfold setDirection
  split
  · rfl
  · exact congrArg (fun x : Fixed => { x with direction := .forward })
      (abandonDetection_fixed (s.modPos fun p => { p with direction := .backward }))

theorem detectorMoved_fixed (s : State) : (detectorMoved s).kept.fixed = s.kept.fixed := by
  unfold detectorMoved
  rw [seek_kept, judgeEngine_kept, judgeSegments_kept, judgePassing_fixed]

theorem redetermined_kept (s : State) : (afterDrive (redetermine s)).kept = s.kept :=
  (afterDrive_kept _).trans (redetermine_kept s)

theorem odoMoved_undirected (up : Bool) (before s : State) : (odoMoved up before s).undirected = s.undirected := by
  have hmoved : (if detectorChainage s ≠ detectorChainage before then detectorMoved (setDirection up s)
      else setDirection up s).undirected = s.undirected := by
    split
    · exact (undirected_of_fixed (detectorMoved_fixed _)).trans (setDirection_undirected up s)
    · exact setDirection_undirected up s
  have hdriven := (undirected_of_fixed (Kept.fixed_eq (redetermined_kept _))).trans hmoved
  unfold odoMoved
  dsimp only
  split
  · refine (undirected_of_fixed (Kept.fixed_eq ?_)).trans hdriven
    rw [seek_kept, actOnStop_kept, reachAgain_kept]
  · exact hdriven

theorem axisMoved_kept (a : AxisId) (s : State) : (axisMoved a s).kept = s.kept := by
  unfold axisMoved
  dsimp only
  split
  · exact (afterAxis_kept _).trans (judgeAxis_kept a s)
  · exact judgeAxis_kept a s

theorem countMoved_kept {c : ChannelId} (hc : c ≠ .odo) (up : Bool) (before s : State) :
    (countMoved c up before s).kept = s.kept := by
  cases c with
  | odo => exact absurd rfl hc
  | sat => exact redetermined_kept s
  | lat => exact axisMoved_kept _ s
  | lvlL => exact axisMoved_kept _ s
  | lvlR => exact axisMoved_kept _ s
  | xl => rfl
  | dep u => exact (followUnit_kept u before _).trans (changeDepth_kept u s)

theorem countMoved_undirected (c : ChannelId) (up : Bool) (before s : State) :
    (countMoved c up before s).undirected = s.undirected := by
  by_cases hc : c = .odo
  · subst hc
    exact odoMoved_undirected up before s
  · exact undirected_of_fixed (Kept.fixed_eq (countMoved_kept hc up before s))

/-! #### One step of a channel -/

/-- The state at the end of the window of a change timed from `t0`, with a channel as its acceptance leaves it. -/
def State.accepting (s : State) (c : ChannelId) (ch : Channel) (t0 : Nat) : State :=
  { s.beginBy (t0 + s.params.p38) with count := s.count.set c ch }

section accepting
variable {s : State} {c : ChannelId} {t0 : Nat}

/-- A channel whose line A has taken its present level. -/
def Channel.acceptedA (ch : Channel) : Channel := { ch with a := ⟨ch.a.present, ch.a.present, none⟩ }

/-- A channel whose line B has taken its present level. -/
def Channel.acceptedB (ch : Channel) : Channel := { ch with b := ⟨ch.b.present, ch.b.present, none⟩ }

/-- Which way the acceptance of line A counts (R3). -/
def State.upA (s : State) (c : ChannelId) : Bool :=
  ((s.count.get c).a.present != (s.count.get c).b.accepted) != channelIn c s.params.p39polarity

/-- Which way the acceptance of line B counts (R3). -/
def State.upB (s : State) (c : ChannelId) : Bool :=
  ((s.count.get c).b.present == (s.count.get c).a.accepted) != channelIn c s.params.p39polarity

theorem acceptLine_channelA (hpaired : (s.count.get c).paired = false) (t0 : Nat) :
    acceptLine (.channelA c) (pairedLine (.channelA c) s) (s.beginBy (t0 + s.params.p38))
      = countStep c (s.upA c) (s.accepting c (s.count.get c).acceptedA t0) := by
  have hflag : pairedLine (.channelA c) s = false := hpaired
  have hch : { s.count.get c with a := (s.count.get c).a.accept, paired := false } = (s.count.get c).acceptedA := by
    rw [← hpaired]
    rfl
  rw [hflag, State.accepting, ← hch]
  rfl

theorem acceptLine_channelB (hpaired : (s.count.get c).paired = false) (t0 : Nat) :
    acceptLine (.channelB c) (pairedLine (.channelB c) s) (s.beginBy (t0 + s.params.p38))
      = countStep c (s.upB c) (s.accepting c (s.count.get c).acceptedB t0) := by
  have hflag : pairedLine (.channelB c) s = false := hpaired
  have hch : { s.count.get c with b := (s.count.get c).b.accept, paired := false } = (s.count.get c).acceptedB := by
    rw [← hpaired]
    rfl
  have hup : s.upB c = upOnB (channelIn c s.params.p39polarity) (s.count.get c).a.accepted (s.count.get c).b.present := by
    rw [State.upB, upOnB, Bool.beq_comm]
  rw [hflag, State.accepting, ← hch, hup]
  rfl

/-- A channel both of whose lines have taken their present levels. -/
def Channel.acceptedBoth (ch : Channel) : Channel :=
  { ch with a := ⟨ch.a.present, ch.a.present, none⟩, b := ⟨ch.b.present, ch.b.present, none⟩, paired := false }

theorem acceptLine_bothA (hpaired : (s.count.get c).paired = true) (t0 : Nat) :
    acceptLine (.channelA c) (pairedLine (.channelA c) s) (s.beginBy (t0 + s.params.p38))
      = channelFault c (s.accepting c (s.count.get c).acceptedBoth t0) := by
  have hflag : pairedLine (.channelA c) s = true := hpaired
  rw [hflag]
  rfl

theorem acceptLine_bothB (hpaired : (s.count.get c).paired = true) (t0 : Nat) :
    acceptLine (.channelB c) (pairedLine (.channelB c) s) (s.beginBy (t0 + s.params.p38))
      = channelFault c (s.accepting c (s.count.get c).acceptedBoth t0) := by
  have hflag : pairedLine (.channelB c) s = true := hpaired
  rw [hflag]
  rfl

/-- A legal step of a channel whose count stays in its range (R3). -/
theorem countStep_legal {ch : Channel} {up : Bool} {n : Int} (hn : n = if up = true then ch.count + 1 else ch.count - 1)
    (hlo : -2147483648 ≤ n) (hhi : n ≤ 2147483647) :
    countStep c up (s.accepting c ch t0)
      = countMoved c up (s.accepting c ch t0) (s.accepting c { ch with count := n } t0) := by
  have hstep : stepCount up ch.count = some n := by
    unfold stepCount countMin countMax
    cases up with
    | true =>
      rw [if_pos rfl] at hn ⊢
      rw [if_pos (by omega), hn]
    | false =>
      simp only [Bool.false_eq_true, if_false] at hn ⊢
      rw [if_pos (by omega), hn]
  unfold countStep
  rw [show ((s.accepting c ch t0).count.get c) = ch from CountUnit.get_set _ _ _, hstep]
  dsimp only
  congr 1
  simp [State.modCount, State.accepting]

/-- A step out of the count's range is a fault (R6). -/
theorem countStep_outOfRange {ch : Channel} {up : Bool}
    (h : up = true ∧ ch.count = 2147483647 ∨ up = false ∧ ch.count = -2147483648) :
    countStep c up (s.accepting c ch t0) = channelFault c (s.accepting c ch t0) := by
  have hstep : stepCount up ch.count = none := by
    rcases h with ⟨rfl, hcount⟩ | ⟨rfl, hcount⟩ <;> rw [hcount] <;> rfl
  unfold countStep
  rw [show ((s.accepting c ch t0).count.get c) = ch from CountUnit.get_set _ _ _, hstep]

/-- The acceptance of line A alone, with its count in range. -/
theorem exec_countA {n : Int} (hpower : s.powered = true) (hpaired : (s.count.get c).paired = false)
    (hsince : (s.count.get c).a.since = some t0)
    (hn : n = if s.upA c = true then (s.count.get c).count + 1 else (s.count.get c).count - 1)
    (hlo : -2147483648 ≤ n) (hhi : n ≤ 2147483647) :
    exec (.filterWindowExpiry (.channelA c)) s = .next (arbitrate
      (countMoved c (s.upA c) (s.accepting c (s.count.get c).acceptedA t0)
        (s.accepting c { (s.count.get c).acceptedA with count := n } t0))) := by
  rw [exec_filterWindowExpiry (l := .channelA c) hpower hsince, acceptLine_channelA hpaired,
    countStep_legal (ch := (s.count.get c).acceptedA) hn hlo hhi]

/-- The acceptance of line B alone, with its count in range. -/
theorem exec_countB {n : Int} (hpower : s.powered = true) (hpaired : (s.count.get c).paired = false)
    (hsince : (s.count.get c).b.since = some t0)
    (hn : n = if s.upB c = true then (s.count.get c).count + 1 else (s.count.get c).count - 1)
    (hlo : -2147483648 ≤ n) (hhi : n ≤ 2147483647) :
    exec (.filterWindowExpiry (.channelB c)) s = .next (arbitrate
      (countMoved c (s.upB c) (s.accepting c (s.count.get c).acceptedB t0)
        (s.accepting c { (s.count.get c).acceptedB with count := n } t0))) := by
  rw [exec_filterWindowExpiry (l := .channelB c) hpower hsince, acceptLine_channelB hpaired,
    countStep_legal (ch := (s.count.get c).acceptedB) hn hlo hhi]

end accepting

/-- What a counted step leaves behind it. -/
theorem countMoved_leaves (c : ChannelId) (up : Bool) (before counted : State) :
    let t := arbitrate (countMoved c up before counted)
    t.clock = counted.clock ∧ t.count = counted.count ∧ t.params = counted.params ∧ t.store = counted.store
      ∧ t.headSet = counted.headSet ∧ t.pos.datum = counted.pos.datum ∧ t.pos.countAtDatum = counted.pos.countAtDatum := by
  have h := countMoved_undirected c up before counted
  simp only [arbitrate_clock, arbitrate_count, arbitrate_params, arbitrate_store, arbitrate_headSet, arbitrate_pos]
  exact ⟨clock_of_undirected h, count_of_undirected h, params_of_undirected h, store_of_undirected h,
    headSet_of_undirected h, datum_of_undirected h, countAtDatum_of_undirected h⟩

/-- Settles O24: the step itself is `countStep_legal`; what the blocks then do leaves the counts alone. -/
theorem quadratureStepCounted : Obligations.QuadratureStepCounted := by
  intro s c t0 hpower hpaired ch inverted
  refine ⟨fun hsince n hn hlo hhi => ?_, fun hsince n hn hlo hhi => ?_, fun hxl hsince n hn hlo hhi => ?_⟩
  · exact ⟨_, exec_countA hpower hpaired hsince hn hlo hhi, countMoved_leaves c _ _ _⟩
  · exact ⟨_, exec_countB hpower hpaired hsince hn hlo hhi, countMoved_leaves c _ _ _⟩
  · subst hxl
    exact exec_countA hpower hpaired hsince hn hlo hhi

/-! #### A fault of a channel -/

theorem flagIn_refreshDemand {f : Flag} {s : State} (h : flagIn f s.cond.flags = true) :
    flagIn f (refreshDemand s).cond.flags = true := by
  unfold refreshDemand
  dsimp only
  split
  · exact (flagIn_setFlag _ f _).trans (Bool.or_eq_true_iff.mpr (.inr h))
  · exact h

theorem flagIn_enterMode {f : Flag} {s : State} (m : Mode) (h : flagIn f s.cond.flags = true) :
    flagIn f (enterMode m s).cond.flags = true := flagIn_refreshDemand h

theorem flagIn_haltOrders {f : Flag} {s : State} (h : flagIn f s.cond.flags = true) :
    flagIn f (haltOrders s).cond.flags = true := by
  have hridden : flagIn f (rideDrive s).cond.flags = true := flagIn_refreshDemand h
  exact ((Acted.abortHeads (rideDrive s)).trans (Acted.releaseAxes _)).flagIn hridden

theorem flagIn_orderlyHalt {f : Flag} {s : State} (g : Flag) (h : flagIn f s.cond.flags = true) :
    flagIn f (orderlyHalt g s).cond.flags = true :=
  flagIn_haltOrders (flagIn_enterMode .halted
    (s := s.modCyc fun c => { c with cause := .flagStop, detail := some (.flag g) }) h)

theorem flagIn_actOnStop {f : Flag} {s : State} (h : flagIn f s.cond.flags = true) :
    flagIn f (actOnStop s).cond.flags = true := by
  unfold actOnStop
  split
  · split
    exacts [flagIn_orderlyHalt _ h, h]
  · exact h

theorem flagIn_raiseFlag (f : Flag) (s : State) : flagIn f (raiseFlag f s).cond.flags = true :=
  flagIn_actOnStop ((flagIn_setFlag f f s).trans (by simp))

/-- The null of a channel is gone, and nothing else of the count unit changes. -/
theorem clearNull_count (c : ChannelId) (s : State) :
    (clearNull c s).count = s.count.set c { s.count.get c with nulled := false } := by
  unfold clearNull
  split
  · exact count_of_fixed (Kept.fixed_eq (nullLost_kept c _))
  · next h =>
    have hsame : { s.count.get c with nulled := false } = s.count.get c := by
      rw [← Bool.eq_false_iff.mpr h]
    rw [hsame]
    exact (CountUnit.set_get s.count c).symm

theorem channelFault_count (s : State) (c : ChannelId) (ch : Channel) (t0 : Nat) :
    (channelFault c (s.accepting c ch t0)).count = s.count.set c { ch with fault := true, nulled := false } := by
  unfold channelFault
  rw [count_of_fixed (Kept.fixed_eq (raiseFlag_kept _ _)), clearNull_count]
  simp [State.modCount, State.accepting]

/-- What a fault of a channel does, whichever line found it. -/
theorem channelFault_leaves (s : State) (c : ChannelId) (ch : Channel) (t0 : Nat) :
    (arbitrate (channelFault c (s.accepting c ch t0))).count = s.count.set c { ch with fault := true, nulled := false }
      ∧ flagIn .channelFault (arbitrate (channelFault c (s.accepting c ch t0))).cond.flags = true := by
  rw [arbitrate_count, arbitrate_cond]
  exact ⟨channelFault_count s c ch t0, flagIn_raiseFlag _ _⟩

/-- Settles O25: each of the four ends in the fault of the channel. -/
theorem illegalTransitionFaults : Obligations.IllegalTransitionFaults := by
  intro s c t0 hpower _ ch inverted upA upB outOfRange faults both
  refine ⟨fun hpaired hsince => ?_, fun hpaired hsince => ?_, fun hpaired hsince hout => ?_, fun hpaired hsince hout => ?_⟩
  · refine ⟨_, exec_filterWindowExpiry hpower hsince, ?_⟩
    rw [acceptLine_bothA hpaired]
    exact channelFault_leaves s c _ t0
  · refine ⟨_, exec_filterWindowExpiry hpower hsince, ?_⟩
    rw [acceptLine_bothB hpaired]
    exact channelFault_leaves s c _ t0
  · refine ⟨_, exec_filterWindowExpiry hpower hsince, ?_⟩
    rw [acceptLine_channelA hpaired, countStep_outOfRange (ch := (s.count.get c).acceptedA) (up := s.upA c) hout]
    exact channelFault_leaves s c _ t0
  · refine ⟨_, exec_filterWindowExpiry hpower hsince, ?_⟩
    rw [acceptLine_channelB hpaired, countStep_outOfRange (ch := (s.count.get c).acceptedB) (up := s.upB c) hout]
    exact channelFault_leaves s c _ t0

end Sys2Proof.Machine
end


section
/-! ### What each entry of a unit into a phase does -/

namespace Sys2Proof.Machine

/-- A state with the part of one unit replaced. -/
def State.setHead (s : State) (u : UnitId) (h : Head) : State := { s with heads := s.heads.set u h }

section entries
variable {s : State} {u : UnitId} {h : Head}

@[simp] theorem State.setHead_get : (s.setHead u h).heads.get u = h := Four.get_set _ _ _

theorem State.modHead_eq (f : Head → Head) : s.modHead u f = s.setHead u (f (s.heads.get u)) := rfl

@[simp] theorem State.setHead_modHead (f : Head → Head) : (s.setHead u h).modHead u f = s.setHead u (f h) := by
  simp [State.modHead, State.setHead, Four.set_set]

@[simp] theorem State.setHead_setHead (h' : Head) : (s.setHead u h).setHead u h' = s.setHead u h' := by
  simp [State.setHead, Four.set_set]

theorem gateOpen_setHead : gateOpen (s.setHead u h) = gateOpen s := rfl

/-- The gate by the axes' states, where no release is pending (R124). -/
theorem State.NoRelease.gateOpen_of_hold (hno : s.NoRelease) (h : ∀ a, (s.axes.get a).state = .hold) :
    gateOpen s = true := (gateOpen_iff s).mpr fun a => ⟨h a, hno a⟩

theorem gateOpen_of_not_hold (h : ∃ a, (s.axes.get a).state ≠ .hold) : gateOpen s = false := by
  obtain ⟨a, ha⟩ := h
  exact Bool.eq_false_iff.mpr fun hopen => ha ((gateOpen_iff s).mp hopen a).1

/-! #### Down into the ballast -/

/-- A unit that enters LOWERING short of its target goes on lowering (R123). -/
theorem enterLowering_short (hshort : ∀ d p, depthOf u s = some d → (s.heads.get u).plan = some p → d < p.depth) :
    enterLowering u s
      = s.setHead u { s.heads.get u with state := .lowering, timer := some ⟨s.params.p27, s.clock⟩ } := by
  unfold enterLowering
  rw [State.modHead_eq]
  unfold judgeLowering
  rw [State.setHead_get]
  dsimp only
  split
  · next d p hd hp => exact if_neg (Int.not_le.mpr (hshort d p hd hp))
  · rfl

/-- A unit that enters INSERTED behind a closed gate waits there (R124). -/
theorem enterInserted_waits (hgate : gateOpen s = false) :
    enterInserted u s = s.setHead u { s.heads.get u with state := .inserted, timer := none } :=
  if_neg fun h => Bool.false_ne_true (hgate.symm.trans h.2)

/-- A unit that enters INSERTED with the gate open squeezes at once (R124, R125). -/
theorem enterInserted_squeezes (hgate : gateOpen s = true) (hpressure : (s.count.pressure.get u).accepted = false) :
    enterInserted u s = s.setHead u { s.heads.get u with
      state := .squeezing
      timer := some ⟨s.params.p29, s.clock⟩
      squeezeMode := s.params.p31
      pressureSeen := false } := by
  have hgated : ((s.setHead u { s.heads.get u with state := .inserted, timer := none }).heads.get u).state = .inserted
      ∧ gateOpen (s.setHead u { s.heads.get u with state := .inserted, timer := none }) = true :=
    ⟨by rw [State.setHead_get], hgate⟩
  unfold enterInserted
  rw [State.modHead_eq, judgeGate, if_pos hgated, enterSqueezing, if_neg (by
    rw [Bool.not_eq_true]
    exact hpressure), State.setHead_modHead]
  rfl

/-- The judgement of a LOWERING unit's depth (R123). -/
theorem judgeLowering_reached {d : Int} {p : HeadPlan} (hd : depthOf u s = some d) (hp : (s.heads.get u).plan = some p)
    (h : p.depth ≤ d) : judgeLowering u s = enterInserted u s := by
  unfold judgeLowering
  rw [hd, hp]
  exact if_pos h

theorem judgeLowering_short {d : Int} {p : HeadPlan} (hd : depthOf u s = some d) (hp : (s.heads.get u).plan = some p)
    (h : d < p.depth) : judgeLowering u s = s := by
  unfold judgeLowering
  rw [hd, hp]
  exact if_neg (Int.not_le.mpr h)

/-! #### Up out of it -/

/-- A unit as it enters RAISING (R128). -/
def Head.rising (h : Head) (p : Params) (clock : Nat) : Head :=
  { h with state := .raising, stage := some .normal, timer := some ⟨p.p28, clock⟩, latched := some ⟨p.p25, p.p26⟩ }

/-- A unit that enters RAISING below the top depth goes on rising (R128). -/
theorem enterRaising_deep (hdeep : ∀ d, depthOf u s = some d → s.params.p26 < d) :
    enterRaising u s = s.setHead u ((s.heads.get u).rising s.params s.clock) := by
  unfold enterRaising
  rw [State.modHead_eq]
  unfold judgeRaising
  rw [State.setHead_get]
  dsimp only
  split
  · next d l hd hl =>
    cases hl
    exact if_neg (Int.not_le.mpr (hdeep d hd))
  · rfl

/-- The entry into UP with no lower pending (R128). -/
theorem enterUp_plain (h : (s.heads.get u).pendingLower = false) : enterUp u s = s.setHead u { s.heads.get u with
    state := .up, stage := none, timer := none, latched := none, pendingLower := false } := by
  unfold enterUp
  dsimp only
  split
  · rw [if_neg (by simp [h])]
    rfl
  · rfl

/-- The entry into UP with a lower pending (R121). -/
theorem enterUp_lowers {p : HeadPlan} (h : (s.heads.get u).pendingLower = true) (hp : (s.heads.get u).plan = some p) :
    enterUp u s = takeLower u p (s.setHead u { s.heads.get u with
      state := .up, stage := none, timer := none, latched := none, pendingLower := false }) := by
  have hplanned : enterUp u s = if (s.heads.get u).pendingLower = true
      then takeLower u p (s.modHead u fun h =>
        { h with state := .up, stage := none, timer := none, latched := none, pendingLower := false })
      else s.modHead u fun h =>
        { h with state := .up, stage := none, timer := none, latched := none, pendingLower := false } := by
    unfold enterUp
    dsimp only
    rw [hp]
  exact hplanned.trans (if_pos h)

/-! #### The end of a squeeze phase -/

/-- A unit whose squeeze phase has ended (R125, R127). -/
def Head.opened (h : Head) (p : Params) (clock : Nat) : Head :=
  { h with
    state := .opening
    timer := some ⟨p.p30, clock⟩
    report := { h.report with insertions := h.report.insertions + 1 } }

theorem endPhase_eq : endPhase u s = if (s.heads.get u).pressureSeen = true
    then s.setHead u ((s.heads.get u).opened s.params s.clock)
    else recordFlag .lowPressure (s.setHead u ((s.heads.get u).opened s.params s.clock)) := by
  have hopened : enterOpening u (s.setHead u { s.heads.get u with
      report := { (s.heads.get u).report with insertions := (s.heads.get u).report.insertions + 1 } })
      = s.setHead u ((s.heads.get u).opened s.params s.clock) := State.setHead_modHead _
  exact congrArg (fun t => if (s.heads.get u).pressureSeen = true then t else recordFlag .lowPressure t) hopened

end entries

/-! #### A flag of the record and the drive's command -/

/-- The command does not depend on flags. -/
theorem driveCommand_congr {s t : State} (hpos : t.pos = s.pos) (hheads : t.heads = s.heads) (hparams : t.params = s.params)
    (hcount : t.count = s.count) : driveCommand t = driveCommand s := by
  unfold driveCommand headChainage satOffset frameChainage frameMicrons reading allPermitFast
  rw [hpos, hheads, hparams, hcount]

theorem setFlag_modPos (f : Flag) (s : State) (p : Position) :
    setFlag f { s with pos := p } = { setFlag f s with pos := p } := by
  have harm (t : State) : armStop f { t with pos := p } = { armStop f t with pos := p } := by
    unfold armStop
    split <;> rfl
  unfold setFlag
  dsimp only
  split
  · rfl
  · split
    · exact harm (fillCondition f (s.modCond fun c => { c with flags := flagAdd f c.flags }))
    · exact harm (s.modCond fun c => { c with flags := flagAdd f c.flags })

theorem setFlag_driven (f : Flag) (s : State) : (setFlag f s).driven = setFlag f s.driven := by
  have hcommand : driveCommand (setFlag f s) = driveCommand s :=
    driveCommand_congr (setFlag_pos f s) (setFlag_heads f s) (params_of_fixed (Kept.fixed_eq (setFlag_kept f s)))
      (count_of_fixed (Kept.fixed_eq (setFlag_kept f s)))
  unfold State.driven
  rw [hcommand, setFlag_pos]
  exact (setFlag_modPos f s _).symm

theorem recordFlag_driven (f : Flag) (s : State) : (recordFlag f s).driven = recordFlag f s.driven :=
  setFlag_driven f (addRecordFlag f s)

/-! #### The expiry of a phase timer -/

theorem phaseTimer_eq {u : UnitId} {st : HeadState} {stage : Option RaiseStage} {s : State} {tm : Timer}
    (hpower : s.powered = true) (hstate : (s.heads.get u).state = st) (hstage : (s.heads.get u).stage = stage)
    (htimer : (s.heads.get u).timer = some tm) : phaseTimer u st stage s = some tm :=
  (if_pos ⟨hpower, hstate, hstage⟩).trans htimer

/-- An expiry whose effect ends no phase of the cycle is followed by the drive's command alone. -/
theorem onExpiry_undisturbed {u : UnitId} {st : HeadState} {stage : Option RaiseStage} {s t : State} {tm : Timer}
    {effect : State → State} (hpower : s.powered = true) (hstate : (s.heads.get u).state = st)
    (hstage : (s.heads.get u).stage = stage) (htimer : (s.heads.get u).timer = some tm)
    (heffect : effect (s.beginBy tm.ends) = t) (hund : t.Undisturbed u) (hno : t.NoRelease) :
    onExpiry u (phaseTimer u st stage s) effect s = .next (arbitrate t.driven) := by
  rw [phaseTimer_eq hpower hstate hstage htimer]
  show Host.Outcome.next (arbitrate (afterUnit u (effect (s.beginBy tm.ends)))) = _
  rw [heffect, hund.afterUnit_eq hno]

section setHead
variable {s : State} {u : UnitId} {h : Head}

theorem State.Undisturbed.setHead (hund : s.Undisturbed u) (tm : Timer) : ((s.beginBy tm.ends).setHead u h).Undisturbed u :=
  hund.of_same rfl fun _ hv => Four.get_set_ne _ _ hv

theorem State.NoRelease.setHead (hno : s.NoRelease) (tm : Timer) : ((s.beginBy tm.ends).setHead u h).NoRelease :=
  hno.of_axes rfl

/-- A flag of the record changes neither. -/
theorem State.Undisturbed.recordFlag (hund : s.Undisturbed u) (f : Flag) : (recordFlag f s).Undisturbed u :=
  hund.of_same (setFlag_cyc f _) fun v _ => recordFlag_head f s v

theorem State.NoRelease.recordFlag (hno : s.NoRelease) (f : Flag) : (recordFlag f s).NoRelease :=
  hno.of_axes (recordFlag_axes f s)

end setHead

/-! #### The two ends of WORKING in a unit -/

/-- An aborted tilt ends in UP (R122). -/
theorem endTilt_aborted {u : UnitId} {s : State} (habort : (s.heads.get u).abort = true)
    (hlower : (s.heads.get u).pendingLower = false) : endTilt u s = s.setHead u { s.heads.get u with
      state := .up, stage := none, timer := none, latched := none, pendingLower := false, abort := false } := by
  rw [endTilt, if_pos habort, State.modHead_eq, enterUp_plain (by rw [State.setHead_get]; exact hlower),
    State.setHead_get, State.setHead_setHead]

/-- A blocked head rises (R123). -/
theorem blockHead_deep {u : UnitId} {s : State} (hdeep : ∀ d, depthOf u s = some d → s.params.p26 < d) :
    blockHead u s = recordFlag .headBlocked (s.setHead u
      (({ s.heads.get u with report := { (s.heads.get u).report with blocked := true } } : Head).rising s.params s.clock)) := by
  rw [blockHead, State.modHead_eq, enterRaising_deep (by exact hdeep), State.setHead_get, State.setHead_setHead]
  rfl

/-- The end of an opening, by the table of R127. -/
theorem endOpening_eq {u : UnitId} {s : State} {p : HeadPlan} (hp : (s.heads.get u).plan = some p) : endOpening u s
    = if (s.heads.get u).abort = true then enterRaising u (s.modHead u fun h => { h with abort := false })
      else if (s.heads.get u).report.insertions < p.insertions then enterInserted u s else enterRaising u s := by
  unfold endOpening
  dsimp only
  rw [hp]

/-- An opening ends in a raise where it was the last insertion or the work is aborted. -/
theorem endOpening_rises {u : UnitId} {s : State} {p : HeadPlan} (hp : (s.heads.get u).plan = some p)
    (hlast : (s.heads.get u).abort = true ∨ p.insertions ≤ (s.heads.get u).report.insertions)
    (hdeep : ∀ d, depthOf u s = some d → s.params.p26 < d) :
    endOpening u s = s.setHead u (({ s.heads.get u with abort := false } : Head).rising s.params s.clock) := by
  rw [endOpening_eq hp]
  by_cases habort : (s.heads.get u).abort = true
  · rw [if_pos habort, State.modHead_eq, enterRaising_deep (by exact hdeep), State.setHead_setHead, State.setHead_get]
    rfl
  · have hkept : ({ s.heads.get u with abort := false } : Head) = s.heads.get u := by
      rw [← Bool.eq_false_iff.mpr habort]
    rw [hkept, if_neg habort, if_neg (Nat.not_lt.mpr (hlast.resolve_left habort)), enterRaising_deep hdeep]

/-- An opening with insertions remaining enters INSERTED. -/
theorem endOpening_inserts {u : UnitId} {s : State} {p : HeadPlan} (hp : (s.heads.get u).plan = some p)
    (habort : (s.heads.get u).abort = false) (hmore : (s.heads.get u).report.insertions < p.insertions) :
    endOpening u s = enterInserted u s := by
  rw [endOpening_eq hp, if_neg (by simp [habort]), if_pos hmore]

end Sys2Proof.Machine
end


section
/-! ### The axes' release and the end of WORKING (R114, R152) -/

namespace Sys2Proof.Machine

/-! #### The demand re-determined -/

/-- The demand re-determined changes the demand and its stroke term, and by a flag the condition unit and its slot. -/
theorem refreshDemand_eq (s : State) : ∃ cond slot, refreshDemand s = { s with
    pos := { s.pos with demand := demandOf s, strokeTerm := strokeTermOf s }
    cond := cond
    link := { s.link with condSlot := slot } } := by
  unfold refreshDemand
  dsimp only
  split
  · exact setFlag_eq _ _
  · exact ⟨_, _, rfl⟩

/-- With its stroke term as it was it raises no flag. -/
theorem refreshDemand_quiet {s : State} (h : s.pos.strokeTerm = strokeTermOf s) : refreshDemand s
    = { s with pos := { s.pos with demand := demandOf s, strokeTerm := strokeTermOf s } } := by
  have hloose : tightened s.pos.strokeTerm (strokeTermOf s) = false := by
    rw [h]
    cases strokeTermOf s <;> rfl
  unfold refreshDemand
  dsimp only
  rw [if_neg (by simp [hloose])]
  rfl

/-! #### One axis -/

/-- The overshoot that is measured (R109). -/
def measuredOvershoot (a : AxisId) (s : State) : Option Int :=
  if a = .line then (s.axes.get a).overshoot
  else some ((axisReading a s).elim 0 fun vm => max 0 ((s.axes.get a).target.getD 0 - vm))

theorem measureOvershoot_measured (a : AxisId) (s : State) : (measureOvershoot a s).axes
    = s.axes.set a { s.axes.get a with overshoot := measuredOvershoot a s } := by
  have lift (ha : a ≠ .line) : (match axisReading a s with
      | none => s.modAxis a fun x => { x with overshoot := some 0 }
      | some vm =>
        if max 0 (targetOf (s.axes.get a) - vm) > deadbandOf (s.axes.get a) then
          recordFlag .overshoot (s.modAxis a fun x => { x with overshoot := some (max 0 (targetOf (s.axes.get a) - vm)) })
        else s.modAxis a fun x => { x with overshoot := some (max 0 (targetOf (s.axes.get a) - vm)) }).axes
      = s.axes.set a { s.axes.get a with overshoot := measuredOvershoot a s } := by
    rw [measuredOvershoot, if_neg ha]
    cases axisReading a s with
    | none => rfl
    | some vm =>
      dsimp only
      split
      · exact recordFlag_axes _ _
      · rfl
  cases a with
  | line => exact (Three.set_get s.axes .line).symm
  | liftL => exact lift (by decide)
  | liftR => exact lift (by decide)

/-- Two states give an axis the same report where its part and its reading are the same. -/
theorem releasedAxis_congr {a : AxisId} {s t : State} (hx : t.axes.get a = s.axes.get a)
    (hr : axisReading a t = axisReading a s) : releasedAxis a t = releasedAxis a s := by
  unfold releasedAxis
  rw [hx, hr]

theorem axisReading_of_kept {a : AxisId} {s t : State} (h : t.kept = s.kept) : axisReading a t = axisReading a s :=
  reading_congr (congrArg (fun q => q.get (axisChannel a)) (count_of_fixed (Kept.fixed_eq h)))
    (params_of_fixed (Kept.fixed_eq h))

/-- The release as one axis takes it, by the table of R114. -/
theorem takeRelease_axes {a : AxisId} {s : State} (hno : (s.axes.get a).releasePending = false) :
    (takeRelease a s).axes = s.axes.set a (releasedAxis a s) := by
  have hidle (h : (s.axes.get a).state = .idle) : { s.axes.get a with releasePending := false } = releasedAxis a s := by
    rw [releasedAxis, if_pos h, ← hno]
  unfold takeRelease
  split
  · next h =>
    have hreleased : releasedAxis a s = { s.axes.get a with
        state := .idle, stage := none, motion := none, settle := none, final := axisReading a s, released := true
        releasePending := false, outcome := some .cut, overshoot := measuredOvershoot a s } := by
      rw [releasedAxis, measuredOvershoot, if_neg (by simp [h])]
      simp only [h, if_true, true_and]
      by_cases ha : a = .line <;> simp [ha]
    have hcut (t : State) (ht : t = s.modAxis a fun x => { x with outcome := some .cut }) :
        measuredOvershoot a t = measuredOvershoot a s := by
      rw [ht, measuredOvershoot, measuredOvershoot, State.modAxis_axes, Three.get_set]
      rfl
    rw [hreleased, finishRelease, State.modAxis_axes, measureOvershoot_measured, hcut _ rfl, Three.set_set, Three.get_set,
      axisReading_of_kept (measureOvershoot_kept a _), State.modAxis_axes, Three.get_set, Three.set_set]
    rfl
  · next h =>
    have hreleased : releasedAxis a s = { s.axes.get a with
        state := .idle, stage := none, motion := none, settle := none, final := axisReading a s, released := true
        releasePending := false } := by
      rw [releasedAxis, if_neg (by simp [h])]
      simp [h]
    rw [hreleased]
    rfl
  · next h => rw [← hidle h]; rfl

/-- An axis that is not MOVING takes its release in its own part alone. -/
theorem takeRelease_still {a : AxisId} {s : State} (h : (s.axes.get a).state ≠ .moving) :
    takeRelease a s = { s with axes := (takeRelease a s).axes } := by
  unfold takeRelease
  split
  · next hm => exact absurd hm h
  · rfl
  · rfl

/-! #### The three axes -/

section release
variable {s : State}

theorem anySqueezing_of_heads {t : State} (h : t.heads = s.heads) : anySqueezing t = anySqueezing s := by
  unfold anySqueezing
  rw [h]

theorem releaseAxis_free (h : anySqueezing s = false) (a : AxisId) : releaseAxis a s = takeRelease a s :=
  if_neg (by simp [h])

theorem takeRelease_get {a : AxisId} (hno : s.NoRelease) : (takeRelease a s).axes.get a = releasedAxis a s := by
  rw [takeRelease_axes (hno a), Three.get_set]

theorem takeRelease_get_ne {a b : AxisId} (hno : s.NoRelease) (h : b ≠ a) :
    (takeRelease a s).axes.get b = s.axes.get b := by
  rw [takeRelease_axes (hno a), Three.get_set_ne _ _ h]

theorem releasedAxis_not_pending {a : AxisId} (hno : s.NoRelease) : (releasedAxis a s).releasePending = false := by
  unfold releasedAxis
  dsimp only
  split
  exacts [hno a, rfl]

theorem State.NoRelease.after_takeRelease (hno : s.NoRelease) (a : AxisId) : (takeRelease a s).NoRelease := fun b => by
  by_cases h : b = a
  · subst h
    rw [takeRelease_get hno]
    exact releasedAxis_not_pending hno
  · rw [takeRelease_get_ne hno h]
    exact hno b

/-- Where no unit squeezes the three axes take the release one after another. -/
theorem releaseAxes_free (h : anySqueezing s = false) :
    releaseAxes s = takeRelease .line (takeRelease .liftR (takeRelease .liftL s)) := by
  have hL : anySqueezing (takeRelease .liftL s) = false := (anySqueezing_of_heads (takeRelease_heads _ s)).trans h
  have hR : anySqueezing (takeRelease .liftR (takeRelease .liftL s)) = false :=
    (anySqueezing_of_heads (takeRelease_heads _ _)).trans hL
  simp only [releaseAxes, allAxes, List.foldl_cons, List.foldl_nil]
  rw [releaseAxis_free h, releaseAxis_free hL, releaseAxis_free hR]

/-- The release order given to all axes leaves each as `releasedAxis` says. -/
theorem releaseAxes_get (h : anySqueezing s = false) (hno : s.NoRelease) (a : AxisId) :
    (releaseAxes s).axes.get a = releasedAxis a s := by
  have hno1 := hno.after_takeRelease .liftL
  have hno2 := hno1.after_takeRelease .liftR
  have hkept1 := takeRelease_kept .liftL s
  have hkept2 := (takeRelease_kept .liftR (takeRelease .liftL s)).trans hkept1
  rw [releaseAxes_free h]
  cases a with
  | liftL =>
    rw [takeRelease_get_ne hno2 (by decide), takeRelease_get_ne hno1 (by decide), takeRelease_get hno]
  | liftR =>
    rw [takeRelease_get_ne hno2 (by decide), takeRelease_get hno1,
      releasedAxis_congr (takeRelease_get_ne hno (by decide)) (axisReading_of_kept hkept1)]
  | line =>
    rw [takeRelease_get hno2, releasedAxis_congr
      ((takeRelease_get_ne hno1 (by decide)).trans (takeRelease_get_ne hno (by decide))) (axisReading_of_kept hkept2)]

/-- With no axis MOVING the release order changes the axes alone. -/
theorem releaseAxes_still (h : anySqueezing s = false) (hno : s.NoRelease) (hstill : ∀ a, (s.axes.get a).state ≠ .moving) :
    releaseAxes s = { s with axes := (releaseAxes s).axes } := by
  have hno1 := hno.after_takeRelease .liftL
  have hR : ((takeRelease .liftL s).axes.get .liftR).state ≠ .moving := by
    rw [takeRelease_get_ne hno (by decide)]
    exact hstill .liftR
  have hline : ((takeRelease .liftR (takeRelease .liftL s)).axes.get .line).state ≠ .moving := by
    rw [takeRelease_get_ne hno1 (by decide), takeRelease_get_ne hno (by decide)]
    exact hstill .line
  rw [releaseAxes_free h, takeRelease_still hline, takeRelease_still hR, takeRelease_still (hstill .liftL)]

end release

/-! #### The last unit of the active set out of its train -/

section lastInTrain
variable {s : State} {u : UnitId}

theorem State.LastInTrain.inWorkOrOut (h : s.LastInTrain u) : s.InWorkOrOut := fun _ => .inr (.inl h.2.1)

theorem State.LastInTrain.of_same {t : State} (h : s.LastInTrain u) (hcyc : t.cyc = s.cyc)
    (hheads : ∀ v, v ≠ u → t.heads.get v = s.heads.get v) : t.LastInTrain u := by
  obtain ⟨hmode, hphase, hactive, hothers, hsqueezing⟩ := h
  refine ⟨by rw [hcyc]; exact hmode, by rw [hcyc]; exact hphase, by rw [hcyc]; exact hactive, fun v hv hin => ?_,
    fun v hv => ?_⟩
  · rw [hcyc] at hin
    rw [hheads v hv]
    exact hothers v hv hin
  · rw [hheads v hv]
    exact hsqueezing v hv

theorem State.LastInTrain.anySqueezing_eq (h : s.LastInTrain u) (hstate : (s.heads.get u).state ≠ .squeezing) :
    anySqueezing s = false := by
  obtain ⟨-, -, -, -, hsqueezing⟩ := h
  refine Bool.eq_false_iff.mpr fun hany => ?_
  obtain ⟨v, hv⟩ := (anySqueezing_iff s).mp hany
  by_cases huv : v = u
  · exact hstate (huv ▸ hv)
  · exact hsqueezing v huv hv

theorem State.LastInTrain.releaseCondition_eq (h : s.LastInTrain u) (htrain : inTrain (s.heads.get u).state = false)
    (hlower : (s.heads.get u).pendingLower = false) : releaseCondition s = true := by
  obtain ⟨-, -, ⟨active, hactive, -⟩, hothers, -⟩ := h
  refine List.all_eq_true.mpr fun v _ => ?_
  by_cases huv : v = u
  · subst huv
    simp [htrain, hlower]
  · by_cases hin : unitIn v active = true
    · obtain ⟨ht, hl⟩ := hothers v huv ⟨active, hactive, hin⟩
      simp [ht, hl]
    · simp [hactive, hin]

/-- A unit of the active set that is deep and on its way up keeps the satellite held (R153). -/
theorem judgeClearing_held {active : UnitSet} {d : Int} (hactive : s.cyc.active = some active)
    (hin : unitIn u active = true) (hstate : (s.heads.get u).state = .raising) (hd : depthOf u s = some d)
    (hclear : s.params.p25 < d) : judgeClearing s = s := by
  have hnot : headClear u s = false := by simp [headClear, hstate, hd, hclear]
  refine if_neg fun hdue => ?_
  obtain ⟨-, -, hdone⟩ := hdue
  rw [clearingDone, Bool.and_eq_true, List.all_eq_true] at hdone
  have hu := hdone.2 u (mem_allUnits u)
  rw [hactive, Option.getD_some, hin, hnot] at hu
  exact absurd hu (by decide)

/-- The end of WORKING: the axes take the release order, and CLEARING is entered. -/
theorem State.LastInTrain.afterUnit_eq {d : Int} (h : s.LastInTrain u) (hno : s.NoRelease)
    (hstate : (s.heads.get u).state = .raising) (hlower : (s.heads.get u).pendingLower = false)
    (hd : depthOf u s = some d) (hclear : s.params.p25 < d) :
    afterUnit u s = setPhase .clearing (releaseAxes s.driven) := by
  have hdriven : s.driven.LastInTrain u := h.of_same rfl fun _ _ => rfl
  obtain ⟨hmode, hphase, ⟨active, hactive, hin⟩, -, -⟩ := hdriven
  have hkept : (setPhase .clearing (releaseAxes s.driven)).kept = s.kept :=
    (setPhase_kept _ _).trans ((releaseAxes_kept _).trans (refreshOutput_kept s))
  have hheads : (setPhase .clearing (releaseAxes s.driven)).heads = s.heads :=
    (refreshDemand_heads _).trans (releaseAxes_heads s.driven)
  have hcyc : (setPhase .clearing (releaseAxes s.driven)).cyc = { s.cyc with phase := .clearing } := by
    rw [setPhase_cyc, (Acted.releaseAxes s.driven).cyc]
    rfl
  have hheld : judgeClearing (setPhase .clearing (releaseAxes s.driven)) = setPhase .clearing (releaseAxes s.driven) := by
    refine judgeClearing_held (u := u) (active := active) (d := d) ?_ hin ?_ ?_ ?_
    · rw [hcyc]
      exact hactive
    · rw [hheads]
      exact hstate
    · rw [← hd]
      exact reading_congr (congrArg (fun q => q.get (.dep u)) (count_of_fixed (Kept.fixed_eq hkept)))
        (params_of_fixed (Kept.fixed_eq hkept))
    · rw [params_of_fixed (Kept.fixed_eq hkept)]
      exact hclear
  have hreleased : judgeRelease s.driven = setPhase .clearing (releaseAxes s.driven) := by
    have hcondition : releaseCondition s.driven = true :=
      h.releaseCondition_eq (by rw [hstate]; rfl) hlower
    rw [judgeRelease, if_pos ⟨hmode, hphase, hcondition⟩, hheld]
  unfold afterUnit
  rw [h.inWorkOrOut.actOnStop_eq]
  dsimp only
  rw [hno.settleReleases_eq]
  rw [show refreshOutput s = s.driven from rfl, hreleased, hheld, ite_self]

end lastInTrain

/-- A change of phase, with the demand re-determined after it. -/
theorem setPhase_eq (p : Phase) (s : State) : ∃ cond slot, setPhase p s = { s with
    cyc := { s.cyc with phase := p }
    pos := { s.pos with
      demand := demandOf { s with cyc := { s.cyc with phase := p } }
      strokeTerm := strokeTermOf { s with cyc := { s.cyc with phase := p } } }
    cond := cond
    link := { s.link with condSlot := slot } } := refreshDemand_eq _

/-- What the end of WORKING leaves behind it (R114, R152). -/
theorem clearing_begun {s : State} (hfree : anySqueezing s = false) (hno : s.NoRelease) :
    let t := arbitrate (setPhase .clearing (releaseAxes s.driven))
    t.clock = s.clock ∧ t.heads = s.heads ∧ (∀ a, t.axes.get a = releasedAxis a s)
      ∧ t.cyc = { s.cyc with phase := .clearing }
      ∧ t.pos = { s.pos with output := driveCommand t, demand := demandOf t, strokeTerm := strokeTermOf t }
      ∧ t.count = s.count ∧ t.params = s.params ∧ t.seg = s.seg ∧ t.eng = s.eng ∧ t.headSet = s.headSet
      ∧ t.store = s.store := by
  have hacted := Acted.releaseAxes s.driven
  have hfixed := Kept.fixed_eq ((releaseAxes_kept s.driven).trans (refreshOutput_kept s))
  have hpos : (releaseAxes s.driven).pos = s.driven.pos := hacted.pos
  have hcyc : (releaseAxes s.driven).cyc = s.cyc := hacted.cyc
  have hseg : (releaseAxes s.driven).seg = s.seg := hacted.seg
  have heng : (releaseAxes s.driven).eng = s.eng := hacted.eng
  have hheads : (releaseAxes s.driven).heads = s.heads := releaseAxes_heads s.driven
  have haxes (a : AxisId) : (releaseAxes s.driven).axes.get a = releasedAxis a s :=
    (releaseAxes_get (s := s.driven) hfree hno a).trans rfl
  generalize releaseAxes s.driven = r at *
  obtain ⟨cond, slot, hphase⟩ := setPhase_eq .clearing r
  rw [arbitrate_eq, hphase]
  generalize (arbitrate _).link = link
  have hcommand : driveCommand r = driveCommand s :=
    (driveCommand_congr hpos hheads (params_of_fixed hfixed) (count_of_fixed hfixed)).trans rfl
  have hclock : r.clock = s.clock := clock_of_fixed hfixed
  have hcount : r.count = s.count := count_of_fixed hfixed
  have hparams : r.params = s.params := params_of_fixed hfixed
  have hset : r.headSet = s.headSet := headSet_of_fixed hfixed
  have hstore : r.store = s.store := store_of_fixed hfixed
  refine ⟨hclock, hheads, haxes, congrArg (fun c : Cycle => { c with phase := .clearing }) hcyc, ?_,
    hcount, hparams, hseg, heng, hset, hstore⟩
  have hpos' : r.pos = { s.pos with output := driveCommand r } := by
    rw [hcommand]
    exact hpos
  exact congrArg (fun p : Position => { p with
    demand := demandOf { r with cyc := { r.cyc with phase := .clearing } }
    strokeTerm := strokeTermOf { r with cyc := { r.cyc with phase := .clearing } } }) hpos'

end Sys2Proof.Machine
end


section
/-! ### The expiries of the units' phase timers -/

namespace Sys2Proof.Machine

/-- An expiry whose effect is the last active unit's raise out of its train ends WORKING. -/
theorem onExpiry_lastInTrain {u : UnitId} {st : HeadState} {stage : Option RaiseStage} {s t : State} {tm : Timer}
    {effect : State → State} {d : Int} (hpower : s.powered = true) (hstate : (s.heads.get u).state = st)
    (hstage : (s.heads.get u).stage = stage) (htimer : (s.heads.get u).timer = some tm)
    (heffect : effect (s.beginBy tm.ends) = t) (hlast : t.LastInTrain u) (hno : t.NoRelease)
    (hraising : (t.heads.get u).state = .raising) (hlower : (t.heads.get u).pendingLower = false)
    (hd : depthOf u t = some d) (hclear : t.params.p25 < d) :
    onExpiry u (phaseTimer u st stage s) effect s = .next (arbitrate (setPhase .clearing (releaseAxes t.driven))) := by
  rw [phaseTimer_eq hpower hstate hstage htimer]
  show Host.Outcome.next (arbitrate (afterUnit u (effect (s.beginBy tm.ends)))) = _
  rw [heffect, hlast.afterUnit_eq hno hraising hlower hd hclear]

theorem State.LastInTrain.setHead {s : State} {u : UnitId} {h : Head} (hlast : s.LastInTrain u) (tm : Timer) :
    ((s.beginBy tm.ends).setHead u h).LastInTrain u :=
  hlast.of_same rfl fun _ hv => Four.get_set_ne _ _ hv

theorem releasedAxis_recordFlag (a : AxisId) (f : Flag) (s : State) :
    releasedAxis a (recordFlag f s) = releasedAxis a s :=
  releasedAxis_congr (congrArg (Three.get · a) (recordFlag_axes f s)) (axisReading_of_kept (recordFlag_kept f s))

theorem flagIn_recordFlag (f : Flag) (s : State) : flagIn f (recordFlag f s).cond.flags = true :=
  (flagIn_setFlag f f _).trans (by simp)

theorem flagIn_clearing {f : Flag} {s : State} (h : flagIn f s.cond.flags = true) :
    flagIn f (arbitrate (setPhase .clearing (releaseAxes s.driven))).cond.flags = true := by
  rw [arbitrate_cond]
  exact flagIn_refreshDemand (s := (releaseAxes s.driven).modCyc fun c => { c with phase := .clearing })
    ((Acted.releaseAxes s.driven).flagIn h)

/-- What a record flag leaves alone, for the state of a unit that has changed. -/
theorem recordFlag_params (f : Flag) (s : State) : (recordFlag f s).params = s.params :=
  params_of_fixed (Kept.fixed_eq (recordFlag_kept f s))

theorem recordFlag_count (f : Flag) (s : State) : (recordFlag f s).count = s.count :=
  count_of_fixed (Kept.fixed_eq (recordFlag_kept f s))

theorem depthOf_recordFlag (u : UnitId) (f : Flag) (s : State) : depthOf u (recordFlag f s) = depthOf u s :=
  reading_congr (congrArg (fun q => q.get (.dep u)) (recordFlag_count f s)) (recordFlag_params f s)

section ends
variable {s X : State} {u : UnitId} {tm : Timer} {h' : Head}

/-- What the end of WORKING leaves behind it, from a state that the end of a unit's phase has reached. -/
theorem clearing_leaves (hbeyond : X.beyond = ((s.beginBy tm.ends).setHead u h').beyond)
    (hkept : X.kept = ((s.beginBy tm.ends).setHead u h').kept) (hheads : X.heads = s.heads.set u h')
    (haxes : X.axes = s.axes) (hfree : anySqueezing X = false) (hno : s.NoRelease) :
    let t := arbitrate (setPhase .clearing (releaseAxes X.driven))
    t.clock = max s.clock tm.ends ∧ t.heads = s.heads.set u h' ∧ (∀ a, t.axes.get a = releasedAxis a s)
      ∧ t.cyc = { s.cyc with phase := .clearing }
      ∧ t.pos = { s.pos with output := driveCommand t, demand := demandOf t, strokeTerm := strokeTermOf t }
      ∧ t.count = s.count ∧ t.params = s.params ∧ t.seg = s.seg ∧ t.eng = s.eng ∧ t.headSet = s.headSet
      ∧ t.store = s.store := by
  have hfixed := Kept.fixed_eq hkept
  have hreading (a : AxisId) : axisReading a X = axisReading a s := (axisReading_of_kept hkept).trans rfl
  have hX : X.clock = max s.clock tm.ends := clock_of_fixed hfixed
  have hXcount : X.count = s.count := (count_of_fixed hfixed).trans rfl
  have hXparams : X.params = s.params := (params_of_fixed hfixed).trans rfl
  have hXset : X.headSet = s.headSet := (headSet_of_fixed hfixed).trans rfl
  have hXstore : X.store = s.store := (store_of_fixed hfixed).trans rfl
  have hXcyc : X.cyc = s.cyc := congrArg Beyond.cyc hbeyond
  have hXpos : X.pos = s.pos := congrArg Beyond.pos hbeyond
  have hXseg : X.seg = s.seg := congrArg Beyond.seg hbeyond
  have hXeng : X.eng = s.eng := congrArg Beyond.eng hbeyond
  obtain ⟨hclock, htheads, htaxes, hcyc, hpos, hcount, hparams, hseg, heng, hset, hstore⟩ :=
    clearing_begun hfree (hno.of_axes haxes)
  exact ⟨hclock.trans hX, htheads.trans hheads,
    fun a => (htaxes a).trans (releasedAxis_congr (congrArg (Three.get · a) haxes) (hreading a)),
    hcyc.trans (by rw [hXcyc]), hpos.trans (by rw [hXpos]), hcount.trans hXcount, hparams.trans hXparams,
    hseg.trans hXseg, heng.trans hXeng, hset.trans hXset, hstore.trans hXstore⟩

end ends

/-- Settles O37: the phase's end by the unit's own table, then what follows it in the cycle. -/
theorem tiltAndLowerEnd : Obligations.TiltAndLowerEnd := by
  refine ⟨?_, ?_, ?_⟩
  · intro s u tm hpower hund hno h now hstate hstage htimer
    refine ⟨fun habort hshort => ?_, fun habort hlower => ?_⟩
    · refine onExpiry_undisturbed hpower hstate hstage htimer ?_ (hund.setHead tm) (hno.setHead tm)
      exact (if_neg (Bool.eq_false_iff.mp habort)).trans (enterLowering_short (s := s.beginBy tm.ends) hshort)
    · have hsame : ({ h with stage := none, pendingLower := false } : Head) = h := by
        rw [← hstage, ← hlower]
      have hup : endTilt u (s.beginBy tm.ends) = (s.beginBy tm.ends).setHead u
          { h with state := .up, timer := none, latched := none, abort := false } :=
        (endTilt_aborted (s := s.beginBy tm.ends) habort hlower).trans (congrArg (fun h' : Head =>
          (s.beginBy tm.ends).setHead u { h' with state := .up, timer := none, latched := none, abort := false }) hsame)
      exact onExpiry_undisturbed hpower hstate hstage htimer hup (hund.setHead tm) (hno.setHead tm)
  · intro s u tm hpower hund hno h now hstate hstage htimer hdeep
    refine (onExpiry_undisturbed hpower hstate hstage htimer (blockHead_deep (s := s.beginBy tm.ends) hdeep)
      ((hund.setHead tm).recordFlag _) ((hno.setHead tm).recordFlag _)).trans ?_
    rw [recordFlag_driven]
    rfl
  · intro s u tm d hpower hlast hno h now hstate hstage htimer hlower hd hclear htop
    obtain ⟨h', hh'⟩ : ∃ h' : Head, h' = ({ h with report := { h.report with blocked := true } } : Head).rising s.params now :=
      ⟨_, rfl⟩
    have hblocked : blockHead u (s.beginBy tm.ends) = recordFlag .headBlocked ((s.beginBy tm.ends).setHead u h') := by
      rw [hh']
      refine blockHead_deep fun d' hd' => ?_
      rw [Option.some.inj (hd'.symm.trans hd)]
      exact htop
    have hraising : h'.state = .raising := by rw [hh']; rfl
    have hlower' : h'.pendingLower = false := by rw [hh']; exact hlower
    have hhead : (recordFlag .headBlocked ((s.beginBy tm.ends).setHead u h')).heads.get u = h' :=
      (recordFlag_head _ _ u).trans State.setHead_get
    have hlast' : (recordFlag .headBlocked ((s.beginBy tm.ends).setHead u h')).LastInTrain u :=
      (hlast.setHead tm).of_same (setFlag_cyc _ _) fun v _ => recordFlag_head _ _ v
    have hexec := onExpiry_lastInTrain (d := d) hpower hstate hstage htimer hblocked hlast'
      ((hno.setHead tm).recordFlag _) (by rw [hhead, hraising]) (by rw [hhead, hlower'])
      (by rw [depthOf_recordFlag]; exact hd) (by rw [recordFlag_params]; exact hclear)
    obtain ⟨hclock, hends⟩ := clearing_leaves (((Acted.refl _).record .headBlocked).beyond) (recordFlag_kept _ _)
      (recordFlag_heads _ _) (recordFlag_axes _ _) (hlast'.anySqueezing_eq (by rw [hhead, hraising]; decide)) hno
    rw [hh'] at hends
    rw [hh'] at hclock hexec
    exact ⟨_, hexec, hclock, flagIn_clearing (flagIn_recordFlag _ _), hends⟩

end Sys2Proof.Machine
end


section
/-! ### The ends of the insertion train (O38) -/

namespace Sys2Proof.Machine

/-- The end of WORKING with the axes at rest and the stroke term as it was records nothing and raises no flag. -/
theorem clearing_quiet {s : State} (hfree : anySqueezing s = false) (hno : s.NoRelease)
    (hstill : ∀ a, (s.axes.get a).state ≠ .moving) (hstroke : s.pos.strokeTerm = strokeTermOf s) :
    (arbitrate (setPhase .clearing (releaseAxes s.driven))).slp = s.slp
      ∧ (arbitrate (setPhase .clearing (releaseAxes s.driven))).cond = s.cond := by
  have hreleased := releaseAxes_still (s := s.driven) hfree hno hstill
  generalize (releaseAxes s.driven).axes = axes at hreleased
  rw [hreleased, setPhase, refreshDemand_quiet (by exact hstroke), arbitrate_slp, arbitrate_cond]
  exact ⟨rfl, rfl⟩

/-- Settles O38: the phase's end by the unit's own table, then what follows it in the cycle. -/
theorem squeezeAndOpeningEnd : Obligations.SqueezeAndOpeningEnd := by
  refine ⟨?_, ?_, ?_⟩
  · intro s u tm hpower hund hno h now hstate hstage htimer opened
    refine ⟨fun hseen => ?_, fun hseen => ?_⟩
    · exact onExpiry_undisturbed hpower hstate hstage htimer
        ((endPhase_eq (s := s.beginBy tm.ends)).trans (if_pos hseen)) (hund.setHead tm) (hno.setHead tm)
    · refine (onExpiry_undisturbed hpower hstate hstage htimer
        ((endPhase_eq (s := s.beginBy tm.ends)).trans (if_neg (Bool.eq_false_iff.mp hseen)))
        ((hund.setHead tm).recordFlag _) ((hno.setHead tm).recordFlag _)).trans ?_
      rw [recordFlag_driven]
      rfl
  · intro s u tm p hpower hund hno h now hstate hstage htimer hplan hdeep hpressure into
    refine ⟨fun hlast => ?_, fun habort hmore hwait => ?_, fun habort hmore hhold => ?_⟩
    · exact onExpiry_undisturbed hpower hstate hstage htimer (endOpening_rises (s := s.beginBy tm.ends) hplan hlast hdeep)
        (hund.setHead tm) (hno.setHead tm)
    · exact onExpiry_undisturbed hpower hstate hstage htimer ((endOpening_inserts (s := s.beginBy tm.ends) hplan habort hmore).trans
        (enterInserted_waits (gateOpen_of_not_hold hwait))) (hund.setHead tm) (hno.setHead tm)
    · exact onExpiry_undisturbed hpower hstate hstage htimer ((endOpening_inserts (s := s.beginBy tm.ends) hplan habort hmore).trans
        (enterInserted_squeezes (hno.gateOpen_of_hold hhold) hpressure)) (hund.setHead tm) (hno.setHead tm)
  · intro s u tm p d hpower hlast hno h now hstate hstage htimer hplan hlower hends hd hclear htop
    obtain ⟨h', hh'⟩ : ∃ h' : Head, h' = ({ h with abort := false } : Head).rising s.params now := ⟨_, rfl⟩
    have hrises : endOpening u (s.beginBy tm.ends) = (s.beginBy tm.ends).setHead u h' := by
      rw [hh']
      refine endOpening_rises hplan hends fun d' hd' => ?_
      rw [Option.some.inj (hd'.symm.trans hd)]
      exact htop
    have hraising : h'.state = .raising := by rw [hh']; rfl
    have hlower' : h'.pendingLower = false := by rw [hh']; exact hlower
    have hlast' := hlast.setHead (h := h') tm
    have hfree := hlast'.anySqueezing_eq (by rw [State.setHead_get, hraising]; decide)
    have hexec := onExpiry_lastInTrain (d := d) hpower hstate hstage htimer hrises hlast' (hno.setHead tm)
      (by rw [State.setHead_get, hraising]) (by rw [State.setHead_get, hlower']) hd hclear
    have hquiet := clearing_quiet hfree (hno.setHead tm)
    obtain ⟨hclock, hheads, haxes, hcyc, hpos, hcount, hparams, hseg, heng, hset, hstore⟩ :=
      clearing_leaves (tm := tm) (h' := h') rfl rfl rfl rfl hfree hno
    have hheads' := hheads.trans (congrArg (s.heads.set u) hh')
    exact ⟨_, hexec, hclock, hheads', haxes, hcyc, hpos, hcount, hparams, hseg, heng, hset, hstore,
      fun hstill hstroke => hquiet hstill hstroke⟩

end Sys2Proof.Machine
end


section
/-! ### A count at an axis or a unit (O36) -/

namespace Sys2Proof.Machine

/-! #### The judgement of an axis -/

/-- The band of an axis (R109, R110). -/
theorem inBand_iff (a : AxisId) (vt deadband vm : Int) : inBand a vt deadband vm = true
    ↔ a ≠ .line ∧ vm ≤ vt + deadband ∨ a = .line ∧ ((vm - vt).natAbs : Int) ≤ deadband := by
  cases a <;> simp [inBand]

/-- A state with the part of one axis replaced. -/
def State.setAxis (s : State) (a : AxisId) (x : Axis) : State := { s with axes := s.axes.set a x }

section axis
variable {s : State} {a : AxisId} {vm : Int}

theorem State.setAxis_get (x : Axis) : (s.setAxis a x).axes.get a = x := Three.get_set _ _ _

theorem State.modAxis_eq (f : Axis → Axis) : s.modAxis a f = s.setAxis a (f (s.axes.get a)) := rfl

theorem State.setAxis_same : s.setAxis a (s.axes.get a) = s := by
  rw [State.setAxis, Three.set_get]

theorem judgeAxis_still (h : (s.axes.get a).state ≠ .moving) : judgeAxis a s = s := if_neg h

theorem judgeAxis_driving_in (hstate : (s.axes.get a).state = .moving) (hstage : (s.axes.get a).stage = some .driving)
    (hreading : axisReading a s = some vm)
    (hin : inBand a (targetOf (s.axes.get a)) (deadbandOf (s.axes.get a)) vm = true) :
    judgeAxis a s = s.setAxis a { s.axes.get a with stage := some .settling, settle := some ⟨150, s.clock⟩ } := by
  unfold judgeAxis
  dsimp only
  rw [if_pos hstate, hreading, hstage]
  exact if_pos hin

theorem judgeAxis_driving_out (hstate : (s.axes.get a).state = .moving) (hstage : (s.axes.get a).stage = some .driving)
    (hreading : axisReading a s = some vm)
    (hout : inBand a (targetOf (s.axes.get a)) (deadbandOf (s.axes.get a)) vm = false) : judgeAxis a s = s := by
  unfold judgeAxis
  dsimp only
  rw [if_pos hstate, hreading, hstage]
  exact if_neg (by simp [hout])

theorem judgeAxis_settling_in (hstate : (s.axes.get a).state = .moving) (hstage : (s.axes.get a).stage = some .settling)
    (hreading : axisReading a s = some vm)
    (hin : inBand a (targetOf (s.axes.get a)) (deadbandOf (s.axes.get a)) vm = true) : judgeAxis a s = s := by
  unfold judgeAxis
  dsimp only
  rw [if_pos hstate, hreading, hstage]
  exact if_pos hin

/-- What an axis does that leaves its band while SETTLING: a lift drives again, LINE by the wanted direction. -/
theorem judgeAxis_settling_out (hstate : (s.axes.get a).state = .moving) (hstage : (s.axes.get a).stage = some .settling)
    (hreading : axisReading a s = some vm)
    (hout : inBand a (targetOf (s.axes.get a)) (deadbandOf (s.axes.get a)) vm = false) :
    judgeAxis a s
      = if a ≠ .line ∨ (s.axes.get a).lastDir = some (wantedDir (targetOf (s.axes.get a)) vm) then
          s.modAxis a fun x => { x with stage := some .driving, settle := none }
        else judgeReversal a (wantedDir (targetOf (s.axes.get a)) vm) s := by
  unfold judgeAxis
  dsimp only
  rw [if_pos hstate, hreading, hstage]
  dsimp only
  rw [if_neg (by simp [hout])]
  cases a with
  | line => simp
  | liftL => rfl
  | liftR => rfl

/-- A judgement that does not end in HOLD is all that a count does at an axis. -/
theorem axisMoved_judged {t : State} (ht : judgeAxis a s = t)
    (hhold : (s.axes.get a).state = .moving → (t.axes.get a).state ≠ .hold) : axisMoved a s = t := by
  unfold axisMoved
  dsimp only
  rw [ht]
  exact if_neg fun h => hhold h.1 h.2

end axis

/-! #### The judgement of a unit -/

/-- A unit whose deepest depth has followed its reading (R133). -/
def Head.deepened (h : Head) (d : Int) : Head :=
  if h.report.participated = true then
    { h with report := { h.report with deepest := some ((h.report.deepest.map (max · d)).getD d) } }
  else h

section deepened
variable (h : Head) (d : Int)

theorem Head.deepened_state : (h.deepened d).state = h.state := by unfold Head.deepened; split <;> rfl
theorem Head.deepened_stage : (h.deepened d).stage = h.stage := by unfold Head.deepened; split <;> rfl
theorem Head.deepened_plan : (h.deepened d).plan = h.plan := by unfold Head.deepened; split <;> rfl
theorem Head.deepened_latched : (h.deepened d).latched = h.latched := by unfold Head.deepened; split <;> rfl
theorem Head.deepened_tilted : (h.deepened d).tilted = h.tilted := by unfold Head.deepened; split <;> rfl
theorem Head.deepened_pendingLower : (h.deepened d).pendingLower = h.pendingLower := by
  unfold Head.deepened
  split <;> rfl

/-- A lower order replaces the deepest depth. -/
theorem Head.deepened_report (report : UnitReport) :
    ({ h.deepened d with report := { (h.deepened d).report with participated := report.participated, deepest := report.deepest } }
      : Head) = { h.deepened d with report := { h.report with participated := report.participated, deepest := report.deepest } } := by
  unfold Head.deepened
  split <;> rfl

end deepened

section unit
variable {s : State} {u : UnitId} {d : Int}

theorem deepen_eq (hd : depthOf u s = some d) : deepen u s = s.setHead u ((s.heads.get u).deepened d) := by
  unfold deepen
  rw [hd]
  refine congrArg (s.setHead u) ?_
  unfold Head.deepened
  dsimp only
  cases (s.heads.get u).report.deepest <;> rfl

/-- A unit rises in stage NORMAL or STUCK. -/
def Head.Rises (h : Head) : Prop := h.state = .raising ∧ (h.stage = some .normal ∨ h.stage = some .stuck)

theorem changeDepth_idle (hl : (s.heads.get u).state ≠ .lowering) (hr : ¬ (s.heads.get u).Rises)
    (hd : depthOf u s = some d) : changeDepth u s = s.setHead u ((s.heads.get u).deepened d) := by
  unfold changeDepth
  rw [deepen_eq hd]
  dsimp only
  rw [State.setHead_get, Head.deepened_state, Head.deepened_stage]
  split
  · next h => exact absurd h hl
  · next h hs => exact absurd ⟨h, .inl hs⟩ hr
  · next h hs => exact absurd ⟨h, .inr hs⟩ hr
  · rfl

theorem changeDepth_lowering (hl : (s.heads.get u).state = .lowering) (hd : depthOf u s = some d) :
    changeDepth u s = judgeLowering u (s.setHead u ((s.heads.get u).deepened d)) := by
  unfold changeDepth
  rw [deepen_eq hd]
  dsimp only
  rw [State.setHead_get, Head.deepened_state, hl]

theorem changeDepth_rising (hr : (s.heads.get u).Rises) (hd : depthOf u s = some d) :
    changeDepth u s = judgeRaising u (s.setHead u ((s.heads.get u).deepened d)) := by
  obtain ⟨hstate, hstage⟩ := hr
  unfold changeDepth
  rw [deepen_eq hd]
  dsimp only
  rw [State.setHead_get, Head.deepened_state, Head.deepened_stage, hstate]
  rcases hstage with h | h <;> rw [h]

theorem judgeRaising_short {l : HeadLatch} (hd : depthOf u s = some d) (hl : (s.heads.get u).latched = some l)
    (h : l.top < d) : judgeRaising u s = s := by
  unfold judgeRaising
  rw [hd, hl]
  exact if_neg (Int.not_le.mpr h)

theorem judgeRaising_reached {l : HeadLatch} (hd : depthOf u s = some d) (hl : (s.heads.get u).latched = some l)
    (h : d ≤ l.top) : judgeRaising u s = enterUp u s := by
  unfold judgeRaising
  rw [hd, hl]
  exact if_pos h

/-- A lower order to a unit that has to tilt first (R121, R122). -/
theorem takeLower_tilts {p : HeadPlan} (h : p.tilted ≠ (s.heads.get u).tilted) : takeLower u p s = s.setHead u
    { s.heads.get u with
      state := .tilting
      tilted := p.tilted
      timer := some ⟨s.params.p32, s.clock⟩
      report := { (s.heads.get u).report with participated := true, deepest := depthOf u s } } := by
  rw [takeLower, if_neg h]
  exact State.setHead_modHead _

/-- A lower order to a unit that stands in its wanted tilt, short of its target (R121, R123). -/
theorem takeLower_lowers {p : HeadPlan} (h : p.tilted = (s.heads.get u).tilted)
    (hshort : ∀ d q, depthOf u s = some d → (s.heads.get u).plan = some q → d < q.depth) :
    takeLower u p s = s.setHead u { s.heads.get u with
      state := .lowering
      timer := some ⟨s.params.p27, s.clock⟩
      report := { (s.heads.get u).report with participated := true, deepest := depthOf u s } } := by
  have hjoined (h' : Head) (hplan : h'.plan = (s.heads.get u).plan) : enterLowering u (s.setHead u h')
      = (s.setHead u h').setHead u { (s.setHead u h').heads.get u with
          state := .lowering, timer := some ⟨s.params.p27, s.clock⟩ } := by
    refine enterLowering_short (s := s.setHead u h') fun d q hd hq => hshort d q hd ?_
    rw [State.setHead_get, hplan] at hq
    exact hq
  rw [takeLower, if_pos h]
  refine (hjoined { s.heads.get u with
    report := { (s.heads.get u).report with participated := true, deepest := depthOf u s } } rfl).trans ?_
  rw [State.setHead_setHead, State.setHead_get]

/-- An event that leaves a unit's state as it was ends no phase where another one is in its train. -/
theorem followUnit_undisturbed {before : State} (hstate : (s.heads.get u).state = (before.heads.get u).state)
    (hund : s.Undisturbed u) : followUnit u before s = s := by
  rw [followUnit, if_neg (not_not_intro hstate), hund.judgeClearing_eq, ite_self]

end unit

end Sys2Proof.Machine
end


section
/-! ### O36 -/

namespace Sys2Proof.Machine

/-- A count of an axis's channel is that axis's own. -/
theorem countMoved_axis {a : AxisId} {c : ChannelId} (h : a = .liftL ∧ c = .lvlL ∨ a = .liftR ∧ c = .lvlR ∨ a = .line ∧ c = .lat)
    (up : Bool) (before s : State) : countMoved c up before s = axisMoved a s ∧ axisReading a s = reading c s := by
  rcases h with ⟨rfl, rfl⟩ | ⟨rfl, rfl⟩ | ⟨rfl, rfl⟩ <;> exact ⟨rfl, rfl⟩

/-- What an accepted count does at an axis (R109, R110). -/
theorem axisCountJudged : ∀ (s : State) (a : AxisId) (c : ChannelId) (t0 : Nat) (n vt vm : Int) (l : AxisLatch),
    a = .liftL ∧ c = .lvlL ∨ a = .liftR ∧ c = .lvlR ∨ a = .line ∧ c = .lat →
    s.powered = true → (s.count.get c).a.since = some t0 → (s.count.get c).paired = false →
    (n = if s.upA c = true then (s.count.get c).count + 1 else (s.count.get c).count - 1) →
    -2147483648 ≤ n → n ≤ 2147483647 →
    let counted := s.accepting c { (s.count.get c).acceptedA with count := n } t0
    reading c counted = some vm →
    let x := s.axes.get a
    let becomes := fun x' : Axis => exec (.filterWindowExpiry (.channelA c)) s = .next (arbitrate (counted.setAxis a x'))
    (x.state ≠ .moving → becomes x)
      ∧ (x.state = .moving → x.target = some vt → x.latched = some l →
        let inside := a ≠ .line ∧ vm ≤ vt + l.deadband ∨ a = .line ∧ ((vm - vt).natAbs : Int) ≤ l.deadband
        (x.stage = some .driving → inside →
            becomes { x with stage := some .settling, settle := some ⟨150, max s.clock (t0 + s.params.p38)⟩ })
          ∧ (x.stage = some .driving → ¬ inside → becomes x)
          ∧ (x.stage = some .settling → inside → becomes x)
          ∧ (x.stage = some .settling → ¬ inside → a ≠ .line → becomes { x with stage := some .driving, settle := none })
          ∧ (x.stage = some .settling → ¬ inside → a = .line →
            x.lastDir = some (if vm - vt > 0 then LineDir.left else LineDir.right) →
            becomes { x with stage := some .driving, settle := none })) := by
  intro s a c t0 n vt vm l hac hpower hsince hpaired hn hlo hhi counted hvm x becomes
  obtain ⟨hcount, hreading⟩ := countMoved_axis hac (s.upA c) (s.accepting c (s.count.get c).acceptedA t0) counted
  have hexec : exec (.filterWindowExpiry (.channelA c)) s = .next (arbitrate (axisMoved a counted)) := by
    rw [exec_countA hpower hpaired hsince hn hlo hhi]
    exact congrArg (fun t => Host.Outcome.next (arbitrate t)) hcount
  have hread : axisReading a counted = some vm := hreading.trans hvm
  have hgoes {x' : Axis} (hj : judgeAxis a counted = counted.setAxis a x') (hhold : x'.state = .hold → x.state ≠ .moving) :
      becomes x' := hexec.trans (congrArg (fun t => Host.Outcome.next (arbitrate t))
    (axisMoved_judged hj fun hm hh => hhold ((congrArg Axis.state (State.setAxis_get x')).symm.trans hh) hm))
  have hsame (hj : judgeAxis a counted = counted) (h : x.state = .moving ∨ x.state ≠ .moving) : becomes x :=
    hgoes (hj.trans State.setAxis_same.symm) fun hh hm => by rw [hh] at hm; cases hm
  refine ⟨fun hstill => hsame (judgeAxis_still hstill) (.inr hstill), ?_⟩
  intro hmoving htarget hlatched inside
  have hband : inBand a (targetOf x) (deadbandOf x) vm = true ↔ inside := by
    rw [inBand_iff, targetOf, deadbandOf, htarget, hlatched]
    exact Iff.rfl
  have hout (h : ¬ inside) : inBand a (targetOf x) (deadbandOf x) vm = false :=
    Bool.eq_false_iff.mpr fun hin => h (hband.mp hin)
  have hnot {x' : Axis} (h : x'.state = .moving) : x'.state = .hold → x.state ≠ .moving := fun hh => by
    rw [h] at hh
    cases hh
  refine ⟨fun hstage hin => ?_, fun hstage hno => ?_, fun hstage hin => ?_, fun hstage hno hlift => ?_,
    fun hstage hno hline hdir => ?_⟩
  · exact hgoes (judgeAxis_driving_in hmoving hstage hread (hband.mpr hin)) (hnot hmoving)
  · exact hsame (judgeAxis_driving_out hmoving hstage hread (hout hno)) (.inl hmoving)
  · exact hsame (judgeAxis_settling_in hmoving hstage hread (hband.mpr hin)) (.inl hmoving)
  · exact hgoes ((judgeAxis_settling_out (s := counted) hmoving hstage hread (hout hno)).trans (if_pos (.inl hlift))) (hnot hmoving)
  · have hwanted : x.lastDir = some (wantedDir (targetOf x) vm) := by
      rw [hdir, targetOf, htarget]
      rfl
    exact hgoes ((judgeAxis_settling_out (s := counted) hmoving hstage hread (hout hno)).trans (if_pos (.inr hwanted))) (hnot hmoving)

section depth
variable {s : State} {u : UnitId} {t0 : Nat} {n : Int}

/-- A count of a depth channel that changes the unit's state and ends no phase of the cycle. -/
theorem exec_depth_changed {h' : Head} {counted : State} (hcounted : counted = s.accepting (.dep u)
      { (s.count.get (.dep u)).acceptedA with count := n } t0)
    (hexec : exec (.filterWindowExpiry (.channelA (.dep u))) s = .next (arbitrate
      (followUnit u (s.accepting (.dep u) (s.count.get (.dep u)).acceptedA t0) (changeDepth u counted))))
    (hund : s.Undisturbed u) (hno : s.NoRelease) (hchange : changeDepth u counted = counted.setHead u h')
    (hstate : h'.state ≠ (s.heads.get u).state) :
    exec (.filterWindowExpiry (.channelA (.dep u))) s = .next (arbitrate (counted.setHead u h').driven) := by
  have hund' : (counted.setHead u h').Undisturbed u := by
    rw [hcounted]
    exact hund.of_same rfl fun _ hv => Four.get_set_ne _ _ hv
  have hno' : (counted.setHead u h').NoRelease := by
    rw [hcounted]
    exact hno.of_axes rfl
  rw [hexec, hchange, followUnit_changed (by rw [State.setHead_get]; exact hstate), hund'.afterUnit_eq hno']

/-- One that leaves the unit's state as it was. -/
theorem exec_depth_same {h' : Head} {counted : State} (hcounted : counted = s.accepting (.dep u)
      { (s.count.get (.dep u)).acceptedA with count := n } t0)
    (hexec : exec (.filterWindowExpiry (.channelA (.dep u))) s = .next (arbitrate
      (followUnit u (s.accepting (.dep u) (s.count.get (.dep u)).acceptedA t0) (changeDepth u counted))))
    (hund : s.Undisturbed u) (hchange : changeDepth u counted = counted.setHead u h')
    (hstate : h'.state = (s.heads.get u).state) :
    exec (.filterWindowExpiry (.channelA (.dep u))) s = .next (arbitrate (counted.setHead u h')) := by
  have hund' : (counted.setHead u h').Undisturbed u := by
    rw [hcounted]
    exact hund.of_same rfl fun _ hv => Four.get_set_ne _ _ hv
  rw [hexec, hchange, followUnit_undisturbed (by rw [State.setHead_get]; exact hstate) hund']

end depth

/-- Settles O36: the axes by `axisCountJudged`, the units by what their depth makes of their state. -/
theorem readingsJudged : Obligations.ReadingsJudged := by
  refine ⟨axisCountJudged, ?_⟩
  intro s u t0 n d hpower hsince hpaired ch hn hlo hhi hund hno now counted hd h deeper becomes up rejoined rising
  have hexec : exec (.filterWindowExpiry (.channelA (.dep u))) s = .next (arbitrate
      (followUnit u (s.accepting (.dep u) (s.count.get (.dep u)).acceptedA t0) (changeDepth u counted))) :=
    exec_countA hpower hpaired hsince hn hlo hhi
  have hget (h' : Head) : (counted.setHead u h').heads.get u = h' := State.setHead_get
  have hdeeper : deeper = h.deepened d := rfl
  have hsame {h' : Head} (hchange : changeDepth u counted = counted.setHead u h') (hstate : h'.state = h.state) :
      exec (.filterWindowExpiry (.channelA (.dep u))) s = .next (arbitrate (counted.setHead u h')) :=
    exec_depth_same rfl hexec hund hchange hstate
  have hbecomes {h' : Head} (hchange : changeDepth u counted = counted.setHead u h') (hstate : h'.state ≠ h.state) :
      becomes h' := exec_depth_changed rfl hexec hund hno hchange hstate
  have hdepth (h' : Head) : depthOf u (counted.setHead u h') = some d := hd
  have hlowering (hl : h.state = .lowering) : changeDepth u counted = judgeLowering u (counted.setHead u deeper) :=
    changeDepth_lowering (s := counted) hl hd
  have hrising (hr : rising) : changeDepth u counted = judgeRaising u (counted.setHead u deeper) :=
    changeDepth_rising (s := counted) hr hd
  have hplan {p : HeadPlan} (hp : h.plan = some p) : ((counted.setHead u deeper).heads.get u).plan = some p := by
    rw [hget]
    exact (h.deepened_plan d).trans hp
  have hlatched {l : HeadLatch} (hl : h.latched = some l) : ((counted.setHead u deeper).heads.get u).latched = some l := by
    rw [hget]
    exact (h.deepened_latched d).trans hl
  have hpends {b : Bool} (hb : h.pendingLower = b) : ((counted.setHead u deeper).heads.get u).pendingLower = b := by
    rw [hget]
    exact (h.deepened_pendingLower d).trans hb
  have hrejoins {p : HeadPlan} {l : HeadLatch} (hr : rising) (hl : h.latched = some l) (hreached : d ≤ l.top)
      (hlower : h.pendingLower = true) (hp : h.plan = some p) :
      changeDepth u counted = takeLower u p (counted.setHead u up) := by
    rw [hrising hr, judgeRaising_reached (hdepth _) (hlatched hl) hreached, enterUp_lowers (hpends hlower) (hplan hp),
      State.setHead_setHead, hget]
  have hup : up.tilted = h.tilted := h.deepened_tilted d
  have hrejoined : ({ up with report := { up.report with participated := true, deepest := some d } } : Head) = rejoined :=
    congrArg (fun h' : Head => ({ h' with
      state := .up, stage := none, timer := none, latched := none, pendingLower := false } : Head))
      (h.deepened_report d { h.report with participated := true, deepest := some d })
  refine ⟨fun hl hr => ?_, fun p hl hp => ⟨fun hshort => ?_, fun hreached hwait => ?_, fun hreached hhold hline => ?_⟩,
    fun l hr hl => ⟨fun hshort => ?_, fun hreached hlower => ?_, fun p hreached hlower hp => ⟨fun htilt => ?_, fun htilt hshort => ?_⟩⟩⟩
  · exact hsame (changeDepth_idle (s := counted) hl hr hd) (h.deepened_state d)
  · exact hsame ((hlowering hl).trans (judgeLowering_short (hdepth _) (hplan hp) hshort)) (h.deepened_state d)
  · refine hbecomes ?_ (by rw [hl]; exact nofun)
    rw [hlowering hl, judgeLowering_reached (hdepth _) (hplan hp) hreached,
      enterInserted_waits (s := counted.setHead u deeper) (gateOpen_of_not_hold hwait), State.setHead_setHead, hget]
  · refine hbecomes ?_ (by rw [hl]; exact nofun)
    have hopen : gateOpen (counted.setHead u deeper) = true := hno.gateOpen_of_hold hhold
    rw [hlowering hl, judgeLowering_reached (hdepth _) (hplan hp) hreached, enterInserted_squeezes hopen hline,
      State.setHead_setHead, hget]
    rfl
  · exact hsame ((hrising hr).trans (judgeRaising_short (hdepth _) (hlatched hl) hshort)) (h.deepened_state d)
  · refine hbecomes ?_ (by rw [hr.1]; exact nofun)
    rw [hrising hr, judgeRaising_reached (hdepth _) (hlatched hl) hreached, enterUp_plain (hpends hlower),
      State.setHead_setHead, hget]
  · refine hbecomes ?_ (by rw [hr.1]; exact nofun)
    rw [hrejoins hr hl hreached hlower hp, takeLower_tilts (by rw [hget, hup]; exact htilt), State.setHead_setHead, hget,
      hdepth, ← hrejoined]
    rfl
  · refine hbecomes ?_ (by rw [hr.1]; exact nofun)
    have hshort' (d' : Int) (q : HeadPlan) (hd' : depthOf u (counted.setHead u up) = some d')
        (hq : ((counted.setHead u up).heads.get u).plan = some q) : d' < q.depth := by
      rw [hget] at hq
      rw [← Option.some.inj (((h.deepened_plan d).trans hp).symm.trans hq), ← Option.some.inj (hd.symm.trans hd')]
      exact hshort
    rw [hrejoins hr hl hreached hlower hp, takeLower_lowers (by rw [hget, hup]; exact htilt) hshort', State.setHead_setHead,
      hget, hdepth, ← hrejoined]
    rfl

end Sys2Proof.Machine
end


section
/-! ### The end of an axis's motion (O34, O35) -/

namespace Sys2Proof.Machine

/-! #### The squeeze gate (R124) -/

section gate
variable {s : State}

theorem judgeGate_axes (u : UnitId) (s : State) : (judgeGate u s).axes = s.axes := axes_of_aside (judgeGate_aside u s)

theorem gateOpen_of_axes {t : State} (h : t.axes = s.axes) : gateOpen t = gateOpen s := by
  unfold gateOpen
  rw [h]

theorem openGate_axes (s : State) : (openGate s).axes = s.axes :=
  foldl_same State.axes (fun s u => judgeGate u s) (fun s u => judgeGate_axes u s) allUnits s

/-- A closed gate holds every unit back. -/
theorem openGate_closed (h : gateOpen s = false) : openGate s = s := by
  have hstay (u : UnitId) : judgeGate u s = s := if_neg fun h' => Bool.false_ne_true (h.symm.trans h'.2)
  simp only [openGate, allUnits, List.foldl_cons, List.foldl_nil, hstay]

theorem judgeGate_stays {v : UnitId} (h : (s.heads.get v).state ≠ .inserted) (u : UnitId) :
    (judgeGate u s).heads.get v = s.heads.get v := by
  by_cases huv : v = u
  · subst huv
    rw [judgeGate, if_neg fun h' => h h'.1]
  · exact judgeGate_other huv s

/-- A unit that is not INSERTED stays as it is. -/
theorem openGate_stays {v : UnitId} (h : (s.heads.get v).state ≠ .inserted) :
    (openGate s).heads.get v = s.heads.get v :=
  List.foldlRecOn (motive := fun t => t.heads.get v = s.heads.get v) allUnits (fun s u => judgeGate u s) rfl
    fun t ht u _ => (judgeGate_stays (by rw [ht]; exact h) u).trans ht

/-- A unit that enters SQUEEZING goes on or opens. -/
theorem enterSqueezing_left (u : UnitId) (s : State) : ((enterSqueezing u s).heads.get u).state ≠ .inserted := by
  have hsee (t : State) (ht : (t.heads.get u).state ≠ .inserted) : ((seePressure u t).heads.get u).state ≠ .inserted := by
    unfold seePressure
    dsimp only
    split
    · split
      · unfold endPhase enterOpening
        dsimp only
        split
        · simp
        · rw [recordFlag_head]
          simp
      · simpa using ht
    · exact ht
  unfold enterSqueezing
  dsimp only
  split
  · exact hsee _ (by simp)
  · simp

theorem judgeGate_left {u : UnitId} (hopen : gateOpen s = true) : ((judgeGate u s).heads.get u).state ≠ .inserted := by
  unfold judgeGate
  split
  · exact enterSqueezing_left u s
  · next h => exact fun hins => h ⟨hins, hopen⟩

/-- An open gate lets every INSERTED unit go. -/
theorem openGate_left (hopen : gateOpen s = true) (v : UnitId) : ((openGate s).heads.get v).state ≠ .inserted := by
  have hopened (t : State) (ht : t.axes = s.axes) : gateOpen t = true := (gateOpen_of_axes ht).trans hopen
  have hreach (l : List UnitId) (t : State) (ht : t.axes = s.axes) (hv : v ∈ l ∨ (t.heads.get v).state ≠ .inserted) :
      ((l.foldl (fun s u => judgeGate u s) t).heads.get v).state ≠ .inserted := by
    induction l generalizing t with
    | nil => exact hv.resolve_left List.not_mem_nil
    | cons u rest ih =>
      refine ih _ ((judgeGate_axes u t).trans ht) ?_
      by_cases huv : u = v
      · subst huv
        exact .inr (judgeGate_left (hopened t ht))
      · refine hv.imp (fun hmem => ?_) fun hstate => ?_
        · exact (List.mem_cons.mp hmem).resolve_left (Ne.symm huv)
        · rw [judgeGate_stays hstate]
          exact hstate
  exact hreach allUnits s rfl (.inl (mem_allUnits v))

end gate

/-! #### What follows an entry into HOLD -/

section after
variable {s : State}

@[simp] theorem State.driven_axes (s : State) : s.driven.axes = s.axes := rfl
@[simp] theorem State.driven_heads (s : State) : s.driven.heads = s.heads := rfl
@[simp] theorem State.driven_cyc (s : State) : s.driven.cyc = s.cyc := rfl
@[simp] theorem State.driven_seg (s : State) : s.driven.seg = s.seg := rfl
@[simp] theorem State.driven_eng (s : State) : s.driven.eng = s.eng := rfl
@[simp] theorem State.driven_slp (s : State) : s.driven.slp = s.slp := rfl
@[simp] theorem State.driven_cond (s : State) : s.driven.cond = s.cond := rfl
@[simp] theorem State.driven_kept (s : State) : s.driven.kept = s.kept := rfl

/-- What follows an entry of an axis into HOLD, where no stop is acted on at once: the gate and the drive's
command. -/
theorem State.InWorkOrOut.afterAxis_eq (h : s.InWorkOrOut) : afterAxis s = (openGate s).driven := by
  have hcyc : (openGate s).cyc = s.cyc := (Acted.openGate s).cyc
  unfold afterAxis
  rw [(h.of_cyc hcyc).actOnStop_eq]
  rfl

/-- What it leaves alone. -/
theorem afterAxis_leaves (h : s.InWorkOrOut) :
    (arbitrate (afterAxis s)).axes = s.axes ∧ (arbitrate (afterAxis s)).cyc = s.cyc
      ∧ (arbitrate (afterAxis s)).seg = s.seg ∧ (arbitrate (afterAxis s)).eng = s.eng := by
  have hacted := Acted.openGate s
  rw [h.afterAxis_eq, arbitrate_axes, arbitrate_cyc, arbitrate_seg, arbitrate_eng, State.driven_axes, State.driven_cyc,
    State.driven_seg, State.driven_eng]
  exact ⟨openGate_axes s, hacted.cyc, hacted.seg, hacted.eng⟩

/-- An axis that has entered HOLD with an outcome, its timers stopped and a lift's overshoot measured. -/
def heldAxis (a : AxisId) (outcome : AxisOutcome) (s : State) : Axis :=
  { s.axes.get a with
    state := .hold, stage := none, motion := none, settle := none, outcome := some outcome
    overshoot := measuredOvershoot a s }

theorem enterHold_held (a : AxisId) (outcome : AxisOutcome) (s : State) :
    (enterHold a outcome s).axes = s.axes.set a (heldAxis a outcome s) := by
  have hmeasured (t : State) (ht : t = s.modAxis a fun x =>
      { x with state := .hold, stage := none, motion := none, settle := none, outcome := some outcome }) :
      measuredOvershoot a t = measuredOvershoot a s := by
    rw [ht, measuredOvershoot, measuredOvershoot, State.modAxis_axes, Three.get_set]
    rfl
  rw [enterHold, measureOvershoot_measured, hmeasured _ rfl, State.modAxis_axes, Three.get_set, Three.set_set]
  rfl

end after

/-- What the end of an axis's motion leaves behind it, from a state `X` with the axis in HOLD. -/
theorem motion_ended {s X t : State} {a : AxisId} {tm : Timer} {outcome : AxisOutcome} (hno : s.InWorkOrOut)
    (hacted : Acted (s.beginBy tm.ends) X) (haxes : X.axes = s.axes.set a (heldAxis a outcome s)) (hheads : X.heads = s.heads)
    (ht : t = arbitrate (afterAxis X)) :
    t.clock = max s.clock tm.ends ∧ t.axes = s.axes.set a (heldAxis a outcome s)
      ∧ (∀ u, (s.heads.get u).state ≠ .inserted → t.heads.get u = s.heads.get u)
      ∧ ((∀ b, (t.axes.get b).state = .hold ∧ (t.axes.get b).releasePending = false) →
          ∀ u, (t.heads.get u).state ≠ .inserted)
      ∧ ((∃ b, (t.axes.get b).state ≠ .hold) → t.heads = s.heads)
      ∧ t.cyc = s.cyc ∧ t.count = s.count ∧ t.params = s.params ∧ t.seg = s.seg ∧ t.eng = s.eng
      ∧ t.headSet = s.headSet ∧ t.store = s.store := by
  have hX : X.InWorkOrOut := hno.of_cyc hacted.cyc
  obtain ⟨htaxes, htcyc, htseg, hteng⟩ := afterAxis_leaves hX
  have hheads' : t.heads = (openGate X).heads := by rw [ht, arbitrate_heads, hX.afterAxis_eq, State.driven_heads]
  have hkept : (afterAxis X).kept.fixed = (s.beginBy tm.ends).kept.fixed :=
    Kept.fixed_eq ((afterAxis_kept X).trans hacted.kept)
  have hclock : t.clock = max s.clock tm.ends := by rw [ht, arbitrate_clock, clock_of_fixed hkept, State.beginBy_clock]
  have hcount : t.count = s.count := by rw [ht, arbitrate_count, count_of_fixed hkept, State.beginBy_count]
  have hparams : t.params = s.params := by rw [ht, arbitrate_params, params_of_fixed hkept, State.beginBy_params]
  have hset : t.headSet = s.headSet := by rw [ht, arbitrate_headSet, headSet_of_fixed hkept, State.beginBy_headSet]
  have hstore : t.store = s.store := by rw [ht, arbitrate_store, store_of_fixed hkept, State.beginBy_store]
  rw [← ht] at htaxes htcyc htseg hteng
  refine ⟨hclock, htaxes.trans haxes, fun u hu => ?_, fun h u => ?_, fun ⟨b, hb⟩ => ?_, htcyc.trans hacted.cyc, hcount,
    hparams, htseg.trans hacted.seg, hteng.trans hacted.eng, hset, hstore⟩
  · rw [hheads', openGate_stays (by rw [hheads]; exact hu), hheads]
  · rw [hheads']
    exact openGate_left ((gateOpen_iff X).mpr fun b => by rw [← htaxes]; exact h b) u
  · rw [hheads', openGate_closed (gateOpen_of_not_hold ⟨b, by rw [← htaxes]; exact hb⟩), hheads]

/-- The overshoot as the statements write it. -/
theorem measuredOvershoot_eq (a : AxisId) (s : State) : measuredOvershoot a s
    = if a = .line then (s.axes.get a).overshoot else some (match axisReading a s with
        | some vm => max 0 ((s.axes.get a).target.getD 0 - vm)
        | none => 0) := by
  unfold measuredOvershoot
  cases axisReading a s <;> rfl

theorem flagIn_afterAxis {f : Flag} {s : State} (hno : s.InWorkOrOut) (h : flagIn f s.cond.flags = true) :
    flagIn f (arbitrate (afterAxis s)).cond.flags = true := by
  rw [arbitrate_cond, hno.afterAxis_eq, State.driven_cond]
  exact (Acted.openGate s).flagIn h

theorem exec_axisSettleExpiry {s : State} {a : AxisId} {tm : Timer} (hpower : s.powered = true)
    (htimer : (s.axes.get a).settle = some tm) :
    exec (.axisSettleExpiry a) s = .next (arbitrate (afterAxis (enterHold a .reached (s.beginBy tm.ends)))) := by
  show execAxisSettleExpiry a s = _
  rw [execAxisSettleExpiry, hpower, htimer]

theorem exec_axisMotionTimeout {s : State} {a : AxisId} {tm : Timer} (hpower : s.powered = true)
    (htimer : (s.axes.get a).motion = some tm) :
    exec (.axisMotionTimeout a) s = .next (arbitrate (afterAxis (timeOutAxis a (s.beginBy tm.ends)))) := by
  show execAxisMotionTimeout a s = _
  rw [execAxisMotionTimeout, hpower, htimer]

/-- Settles O34: the entry into HOLD, and the squeeze gate behind it. -/
theorem axisMotionEnds : Obligations.AxisMotionEnds := by
  intro s a tm hpower hno x overshoot held follows
  have hheld (outcome : AxisOutcome) : heldAxis a outcome s = held outcome :=
    congrArg (fun o => { x with
      state := .hold, stage := none, motion := none, settle := none, outcome := some outcome, overshoot := o })
      (measuredOvershoot_eq a s)
  have hheads (outcome : AxisOutcome) : (enterHold a outcome (s.beginBy tm.ends)).heads = s.heads := enterHold_heads a outcome _
  have haxes (outcome : AxisOutcome) : (enterHold a outcome (s.beginBy tm.ends)).axes = s.axes.set a (heldAxis a outcome s) :=
    enterHold_held a outcome (s.beginBy tm.ends)
  have hreached : follows (arbitrate (afterAxis (enterHold a .reached (s.beginBy tm.ends)))) .reached := by
    have h := motion_ended hno (Acted.enterHold a .reached (s.beginBy tm.ends)) (haxes .reached) (hheads .reached) rfl
    rw [hheld] at h
    exact h
  refine ⟨fun htimer => ⟨_, exec_axisSettleExpiry hpower htimer, hreached⟩, fun htimer hstage => ?_, fun htimer hstage => ?_⟩
  · have htimeout : timeOutAxis a (s.beginBy tm.ends) = enterHold a .reached (s.beginBy tm.ends) := if_pos hstage
    refine ⟨_, exec_axisMotionTimeout hpower htimer, ?_⟩
    rw [htimeout]
    exact hreached
  · have htimeout : timeOutAxis a (s.beginBy tm.ends)
        = recordFlag (timeoutFlag a) (enterHold a .timeout (s.beginBy tm.ends)) :=
      if_neg fun h => by cases h.symm.trans hstage
    have hacted := (Acted.enterHold a .timeout (s.beginBy tm.ends)).record (timeoutFlag a)
    have hflag : timeoutFlag a = if a = .line then .lineTimeout else .liftTimeout := by cases a <;> rfl
    have h := motion_ended hno hacted ((recordFlag_axes _ _).trans (haxes .timeout))
      ((recordFlag_heads _ _).trans (hheads .timeout)) rfl
    rw [hheld, ← htimeout] at h
    refine ⟨_, exec_axisMotionTimeout hpower htimer, h, ?_⟩
    rw [← hflag, htimeout]
    exact flagIn_afterAxis (hno.of_cyc hacted.cyc) (flagIn_recordFlag _ _)

end Sys2Proof.Machine
end


section
/-! ### A reversal of LINE (O35) -/

namespace Sys2Proof.Machine

/-- The reading of LAT follows its count (R8). -/
theorem reading_lat_counted {s : State} {v n : Int} {t0 : Nat} {ch : Channel} (hnulled : s.count.lat.nulled = true)
    (hv : reading .lat s = some v) (hch : ch.nulled = s.count.lat.nulled ∧ ch.countAtNull = s.count.lat.countAtNull
      ∧ ch.reference = s.count.lat.reference) (hcount : ch.count = s.count.lat.count + n) :
    reading .lat (s.accepting .lat ch t0) = some (v + n) := by
  obtain ⟨h1, h2, h3⟩ := hch
  have hold : s.count.lat.reference + (s.count.lat.count - s.count.lat.countAtNull) = v := by
    have h : (if s.count.lat.nulled = true then
        some (s.count.lat.reference + (s.count.lat.count - s.count.lat.countAtNull)) else none) = some v := hv
    rw [if_pos hnulled] at h
    exact Option.some.inj h
  show (if ch.nulled = true then some (ch.reference + (ch.count - ch.countAtNull)) else none) = some (v + n)
  rw [if_pos (h1.trans hnulled), h2, h3, hcount, ← hold]
  congr 1
  omega

/-- One step of LAT, on either line, is a judgement of LINE on its new reading. -/
theorem lat_step {s : State} {t0 : Nat} {v vm : Int} {line : Line} (hpower : s.powered = true)
    (hstep : line = .channelA .lat ∧ s.count.lat.a.since = some t0 ∧ vm = (if s.upA .lat = true then v + 1 else v - 1)
      ∨ line = .channelB .lat ∧ s.count.lat.b.since = some t0 ∧ vm = (if s.upB .lat = true then v + 1 else v - 1))
    (hpaired : s.count.lat.paired = false) (hnulled : s.count.lat.nulled = true)
    (hlo : -2147483648 < s.count.lat.count) (hhi : s.count.lat.count < 2147483647) (hv : reading .lat s = some v) :
    ∃ counted : State, exec (.filterWindowExpiry line) s = .next (arbitrate (axisMoved .line counted))
      ∧ counted.axes = s.axes ∧ counted.cyc = s.cyc ∧ reading .lat counted = some vm := by
  have hrange (up : Bool) : -2147483648 ≤ (if up = true then s.count.lat.count + 1 else s.count.lat.count - 1)
      ∧ (if up = true then s.count.lat.count + 1 else s.count.lat.count - 1) ≤ 2147483647 := by
    split <;> omega
  have hvm (up : Bool) : (if up = true then v + 1 else v - 1) = v + (if up = true then 1 else -1) := by
    cases up <;> simp [Int.sub_eq_add_neg]
  have hcount (up : Bool) : (if up = true then s.count.lat.count + 1 else s.count.lat.count - 1)
      = s.count.lat.count + (if up = true then 1 else -1) := by
    cases up <;> simp [Int.sub_eq_add_neg]
  rcases hstep with ⟨rfl, hsince, rfl⟩ | ⟨rfl, hsince, rfl⟩
  · obtain ⟨hge, hle⟩ := hrange (s.upA .lat)
    refine ⟨_, exec_countA (c := .lat) hpower hpaired hsince rfl hge hle, rfl, rfl, ?_⟩
    rw [hvm]
    exact reading_lat_counted hnulled hv ⟨rfl, rfl, rfl⟩ (hcount _)
  · obtain ⟨hge, hle⟩ := hrange (s.upB .lat)
    refine ⟨_, exec_countB (c := .lat) hpower hpaired hsince rfl hge hle, rfl, rfl, ?_⟩
    rw [hvm]
    exact reading_lat_counted hnulled hv ⟨rfl, rfl, rfl⟩ (hcount _)

section reversal
variable {s : State} {l : AxisLatch} {dir : LineDir}

theorem judgeReversal_reverses (hl : s.axes.line.latched = some l) (h : s.axes.line.reversals < l.reversalLimit) :
    judgeReversal .line dir s = s.setAxis .line { s.axes.line with
      stage := some .driving, settle := none, lastDir := some dir, reversals := s.axes.line.reversals + 1 } := by
  unfold judgeReversal
  dsimp only
  rw [show (s.axes.get .line).latched = some l from hl]
  exact if_pos h

theorem judgeReversal_hunts (hl : s.axes.line.latched = some l) (h : l.reversalLimit ≤ s.axes.line.reversals) :
    judgeReversal .line dir s = recordFlag .lineHunt (enterHold .line .hunt s) := by
  unfold judgeReversal
  dsimp only
  rw [show (s.axes.get .line).latched = some l from hl]
  exact if_neg (Nat.not_lt.mpr h)

end reversal

/-- Settles O35: the judgement of LINE out of its band, against the latched limit. -/
theorem lineHuntJudged : Obligations.LineHuntJudged := by
  intro s t0 l vt v vm line hpower hno ch inverted hstep hpaired hnulled hlo hhi hmoving hstage hlatched htarget hv wanted
    hout hdir
  obtain ⟨counted, hexec, haxes, hcyc, hvm⟩ := lat_step hpower hstep hpaired hnulled hlo hhi hv
  have hline : counted.axes.get .line = s.axes.line := congrArg Three.line haxes
  have hband : inBand .line (targetOf (counted.axes.get .line)) (deadbandOf (counted.axes.get .line)) vm = false := by
    rw [hline, targetOf, deadbandOf, htarget, hlatched, Bool.eq_false_iff]
    intro hin
    rcases (inBand_iff _ _ _ _).mp hin with h | h
    · exact h.1 rfl
    · exact absurd h.2 (Int.not_le.mpr hout)
  have hwanted : wantedDir (targetOf (counted.axes.get .line)) vm = wanted := by
    rw [hline, targetOf, htarget]
    rfl
  have hjudged : judgeAxis .line counted = judgeReversal .line wanted counted := by
    rw [judgeAxis_settling_out (s := counted) (a := .line) (vm := vm) (by rw [hline]; exact hmoving) (by rw [hline]; exact hstage) hvm hband, hwanted, hline]
    exact if_neg fun h => h.elim (fun h => h rfl) hdir
  have hcounted : counted.axes.line = s.axes.line := hline
  have hreading {t : State} (ht : t.kept = counted.kept) : reading .lat (arbitrate t) = some vm := by
    rw [← hvm]
    exact reading_congr ((congrArg (fun q : CountUnit => q.lat) (arbitrate_count t)).trans
      (congrArg (fun q : CountUnit => q.lat) (count_of_fixed (Kept.fixed_eq ht))))
      ((arbitrate_params t).trans (params_of_fixed (Kept.fixed_eq ht)))
  rcases Nat.lt_or_ge s.axes.line.reversals l.reversalLimit with hbelow | hat
  · have hreverses := judgeReversal_reverses (s := counted) (dir := wanted) (hcounted ▸ hlatched) (hcounted ▸ hbelow)
    have hmoved := axisMoved_judged (hjudged.trans hreverses) fun _ => by
      rw [State.setAxis_get, hcounted, hmoving]
      decide
    refine ⟨_, hexec, ?_, ?_, ?_, fun _ => ?_, fun h => absurd hbelow (Nat.not_lt.mpr h)⟩
    · rw [hmoved, arbitrate_axes]
      show counted.axes.liftL = s.axes.liftL
      rw [haxes]
    · rw [hmoved, arbitrate_axes]
      show counted.axes.liftR = s.axes.liftR
      rw [haxes]
    · rw [hmoved]
      exact hreading rfl
    · rw [hmoved, arbitrate_axes, hcounted]
      rfl
  · have hhunts := judgeReversal_hunts (s := counted) (dir := wanted) (hcounted ▸ hlatched) (hcounted ▸ hat)
    have hacted := (Acted.enterHold .line .hunt counted).record .lineHunt
    have hheld : (recordFlag .lineHunt (enterHold .line .hunt counted)).axes
        = counted.axes.set .line (heldAxis .line .hunt counted) :=
      (recordFlag_axes _ _).trans (enterHold_held .line .hunt counted)
    have hinwork : (recordFlag .lineHunt (enterHold .line .hunt counted)).InWorkOrOut :=
      hno.of_cyc (hacted.cyc.trans hcyc)
    have hmoved : axisMoved .line counted = afterAxis (recordFlag .lineHunt (enterHold .line .hunt counted)) := by
      unfold axisMoved
      dsimp only
      rw [hjudged, hhunts]
      refine if_pos ⟨by rw [hline]; exact hmoving, ?_⟩
      rw [hheld, Three.get_set]
      rfl
    obtain ⟨htaxes, -⟩ := afterAxis_leaves hinwork
    rw [hheld, haxes] at htaxes
    refine ⟨_, hexec, ?_, ?_, ?_, fun h => absurd h (Nat.not_lt.mpr hat), fun _ => ⟨?_, ?_⟩⟩
    · rw [hmoved, htaxes]
      rfl
    · rw [hmoved, htaxes]
      rfl
    · rw [hmoved]
      exact hreading ((afterAxis_kept _).trans hacted.kept)
    · rw [hmoved, htaxes, heldAxis, hline]
      exact congrArg (fun o => { s.axes.line with
        state := .hold, stage := none, motion := none, settle := none, outcome := some .hunt, overshoot := o })
        (congrArg Axis.overshoot hline)
    · rw [hmoved]
      exact flagIn_afterAxis hinwork (flagIn_recordFlag _ _)

end Sys2Proof.Machine
end


section
/-! ### The engine outside WORK -/

namespace Sys2Proof.Machine

/-- What an engine that judges its next pass outside WORK leaves alone. -/
structure Outside where
  kept : Kept
  cyc : Cycle
  pos : Position
  axes : Three Axis
  heads : Four Head
  armed : Option Flag
  modeSlot : Option (Slot ModeNotice)

/-- That part of a state. -/
def State.outside (s : State) : Outside := ⟨s.kept, s.cyc, s.pos, s.axes, s.heads, s.cond.armed, s.link.modeSlot⟩

section outside
variable {s t : State}

theorem kept_of_outside (h : t.outside = s.outside) : t.kept = s.kept := congrArg Outside.kept h
theorem cyc_of_outside (h : t.outside = s.outside) : t.cyc = s.cyc := congrArg Outside.cyc h
theorem pos_of_outside (h : t.outside = s.outside) : t.pos = s.pos := congrArg Outside.pos h
theorem axes_of_outside (h : t.outside = s.outside) : t.axes = s.axes := congrArg Outside.axes h
theorem heads_of_outside (h : t.outside = s.outside) : t.heads = s.heads := congrArg Outside.heads h
theorem armed_of_outside (h : t.outside = s.outside) : t.cond.armed = s.cond.armed := congrArg Outside.armed h
theorem modeSlot_of_outside (h : t.outside = s.outside) : t.link.modeSlot = s.link.modeSlot := congrArg Outside.modeSlot h

/-- Outside WORK a flag arms no stop. -/
theorem setFlag_armed (h : s.cyc.mode ≠ .work) (f : Flag) : (setFlag f s).cond.armed = s.cond.armed := by
  have hnot (x : State) (hx : x.cyc = s.cyc) : (armStop f x).cond.armed = x.cond.armed :=
    congrArg (fun y : State => y.cond.armed) (if_neg (by simp [hx, h]))
  unfold setFlag
  dsimp only
  split
  · rfl
  · split
    · exact hnot (fillCondition f (s.modCond fun c => { c with flags := flagAdd f c.flags })) rfl
    · exact hnot (s.modCond fun c => { c with flags := flagAdd f c.flags }) rfl

theorem setFlag_outside (h : s.cyc.mode ≠ .work) (f : Flag) : (setFlag f s).outside = s.outside := by
  have hbeyond := setFlag_beyond f s
  have hpos : (setFlag f s).pos = s.pos := congrArg Beyond.pos hbeyond
  have hslot : (setFlag f s).link.modeSlot = s.link.modeSlot := congrArg Beyond.modeSlot hbeyond
  simp only [State.outside, setFlag_kept, setFlag_cyc, hpos, setFlag_axes, setFlag_heads, setFlag_armed h, hslot]

/-- The skip of NO_COVER outside WORK (R84). -/
theorem noCoverSkip_of_not_work (h : s.cyc.mode ≠ .work) (r : Sleeper) : noCoverSkip r s
    = judgeSegments (setFlag .skippedSleeper (modRecord r.seq (fun r =>
        { r with state := .skipped, result := some (skippedResult 0 .noCover r.flags) }) s)) := by
  have hwaits : waitsDesignOf r.seq s = false := by simp [waitsDesignOf, h]
  unfold noCoverSkip
  rw [hwaits]
  exact congrArg judgeSegments (raiseFlag_of_not_work (s := modRecord r.seq (fun r =>
    { r with state := .skipped, result := some (skippedResult 0 .noCover r.flags) }) s) h _)

theorem judgeSegments_outside (h : s.cyc.mode ≠ .work) : (judgeSegments s).outside = s.outside := by
  rw [judgeSegments_of_not_work h]
  rfl

theorem noCoverSkip_outside (h : s.cyc.mode ≠ .work) (r : Sleeper) : (noCoverSkip r s).outside = s.outside := by
  rw [noCoverSkip_of_not_work h, judgeSegments_outside (by rw [setFlag_cyc]; exact h), setFlag_outside (by exact h)]
  have hkept := modRecord_kept r.seq (fun r =>
    { r with state := .skipped, result := some (skippedResult 0 .noCover r.flags) }) s fun _ => ⟨rfl, rfl, rfl⟩
  exact congrArg (fun k => (⟨k, s.cyc, s.pos, s.axes, s.heads, s.cond.armed, s.link.modeSlot⟩ : Outside)) hkept

end outside

/-! #### Finished records -/

/-- The records keep their number, and every finished one stays as it is. -/
def FinishedKept (s t : State) : Prop :=
  t.slp.records.length = s.slp.records.length
    ∧ ∀ r ∈ s.slp.records, r.state.finished = true → r ∈ t.slp.records

namespace FinishedKept
variable {s t x : State}

theorem of_slp (h : t.slp = s.slp) : FinishedKept s t := by
  unfold FinishedKept
  rw [h]
  exact ⟨rfl, fun _ hr _ => hr⟩

theorem trans (h : FinishedKept s t) (h' : FinishedKept t x) : FinishedKept s x :=
  ⟨h'.1.trans h.1, fun r hr hf => h'.2 r (h.2 r hr hf) hf⟩

/-- A change of the records that leaves the finished ones alone. -/
theorem of_map {f : Sleeper → Sleeper} (h : t.slp.records = s.slp.records.map f)
    (hf : ∀ r, r.state.finished = true → f r = r) : FinishedKept s t := by
  unfold FinishedKept
  rw [h, List.length_map]
  exact ⟨rfl, fun r hr hfin => List.mem_map.mpr ⟨r, hr, hf r hfin⟩⟩

theorem modRecord (seq : Nat) (f : Sleeper → Sleeper) (s : State) : FinishedKept s (modRecord seq f s) :=
  of_map rfl fun r hr => if_neg (by simp [hr])

theorem setFlag (f : Flag) (s : State) : FinishedKept s (setFlag f s) := of_slp (setFlag_slp f s)

theorem recordFlag (f : Flag) (s : State) : FinishedKept s (recordFlag f s) := by
  refine (of_map (t := addRecordFlag f s) rfl fun r hr => ?_).trans (setFlag f _)
  refine if_neg fun h => ?_
  rw [h] at hr
  exact absurd hr (by decide)

/-- Whatever the axes and the units do. -/
theorem of_acted (h : Acted s t) : FinishedKept s t := by
  induction h with
  | refl => exact of_slp rfl
  | axis _ _ _ ih => exact ih
  | head _ _ _ ih => exact ih
  | flag f _ ih => exact ih.trans (setFlag f _)
  | record f _ ih => exact ih.trans (recordFlag f _)

theorem noCoverSkip (h : s.cyc.mode ≠ .work) (r : Sleeper) : FinishedKept s (noCoverSkip r s) := by
  rw [noCoverSkip_of_not_work h, judgeSegments_of_not_work (by rw [setFlag_cyc]; exact h)]
  exact (modRecord r.seq _ s).trans (setFlag .skippedSleeper _)

end FinishedKept

/-! #### The engine's next pass -/

/-- The engine is on no target pass, and none is asked for. -/
def Engine.Untargeted (e : Engine) : Prop := (∀ p, e.activity ≠ .targeting p) ∧ e.request = none

section engine
variable {s : State}

theorem noCoverSkip_eng (h : s.cyc.mode ≠ .work) (r : Sleeper) : (noCoverSkip r s).eng = s.eng := by
  rw [noCoverSkip_of_not_work h, judgeSegments_of_not_work (by rw [setFlag_cyc]; exact h)]
  exact congrArg Beyond.eng (setFlag_beyond _ _)

/-- What the engine does outside WORK as it judges its next pass. -/
theorem engineLoop_of_not_work (n : Nat) (h : s.cyc.mode ≠ .work) : (engineLoop n s).outside = s.outside
    ∧ FinishedKept s (engineLoop n s) ∧ (s.eng.Untargeted → (engineLoop n s).eng.Untargeted) := by
  induction n generalizing s with
  | zero => exact ⟨rfl, .of_slp rfl, id⟩
  | succ n ih =>
    unfold engineLoop
    split
    · next hreq =>
      have hnot (hu : s.eng.Untargeted) : False := by
        rw [hu.2] at hreq
        cases hreq
      unfold beginTarget
      split
      · exact ⟨rfl, .of_slp rfl, fun hu => (hnot hu).elim⟩
      · exact ⟨rfl, .of_slp rfl, fun hu => (hnot hu).elim⟩
    · split
      · exact ⟨rfl, .of_slp rfl, id⟩
      · exact ⟨rfl, .of_slp rfl, fun hu => ⟨fun p => nofun, hu.2⟩⟩
      · next r _ =>
        have houtside := noCoverSkip_outside h r
        obtain ⟨hout, hfin, heng⟩ := ih (s := noCoverSkip r s) (by rw [cyc_of_outside houtside]; exact h)
        exact ⟨hout.trans houtside, (FinishedKept.noCoverSkip h r).trans hfin, fun hu =>
          heng (by rw [noCoverSkip_eng h r]; exact hu)⟩
    · exact ⟨rfl, .of_slp rfl, id⟩

theorem judgeEngine_of_not_work (h : s.cyc.mode ≠ .work) : (judgeEngine s).outside = s.outside
    ∧ FinishedKept s (judgeEngine s) ∧ (s.eng.Untargeted → (judgeEngine s).eng.Untargeted) :=
  engineLoop_of_not_work _ h

/-- An engine that is on a pass goes on with it. -/
theorem judgeEngine_busy (h : s.eng.activity ≠ .idle) : judgeEngine s = s := by
  unfold judgeEngine engineLoop
  split
  · next ha _ => exact absurd ha h
  · next ha _ => exact absurd ha h
  · rfl

theorem withdrawTarget_untargeted (s : State) : (withdrawTarget s).eng.Untargeted := by
  refine ⟨fun p hp => ?_, rfl⟩
  have hactivity : (match s.eng.activity with
    | .targeting _ => Activity.idle
    | x => x) = .targeting p := hp
  cases ha : s.eng.activity <;> rw [ha] at hactivity <;> cases hactivity

end engine

end Sys2Proof.Machine
end


section
/-! ### The hard halt (R155, R156) -/

namespace Sys2Proof.Machine

/-! #### The flags and the CONDITION slot -/

theorem flags_ext {x y : FlagSet} (h : ∀ f, flagIn f x = flagIn f y) : x = y := by
  refine BitVec.eq_of_getLsbD_eq fun i hi => ?_
  have hnumber : ∃ f : Flag, f.number - 1 = i := by
    have hall : ∀ i : Fin 20, ∃ f ∈ [Flag.highSpot, .liftLimit, .lineLimit, .cantUnmet, .overshoot, .liftTimeout, .lineTimeout,
        .lineHunt, .lowPressure, .headBlocked, .unplanned, .skippedSleeper, .channelFault, .unitFault, .detectReject,
        .queueOverrun, .segStarved, .strokeLow, .linkError, .settingsDefaulted], f.number - 1 = i := by decide
    obtain ⟨f, -, hf⟩ := hall ⟨i, hi⟩
    exact ⟨f, hf⟩
  obtain ⟨f, rfl⟩ := hnumber
  exact h f

theorem setFlag_condSlot {f : Flag} {s : State} (h : (setFlag f s).cond.flags = s.cond.flags) :
    (setFlag f s).link.condSlot = s.link.condSlot := by
  have hin : flagIn f s.cond.flags = true := by
    rw [← h, flagIn_setFlag]
    simp
  rw [setFlag, if_pos hin]

/-- Where no flag rises the CONDITION slot stays as it is. -/
theorem Acted.condSlot {s t : State} (h : Acted s t) (hflags : t.cond.flags = s.cond.flags) :
    t.link.condSlot = s.link.condSlot := by
  have between {m : State} (f : Flag) (hm : Acted s m) (hset : (setFlag f m).cond.flags = s.cond.flags) :
      m.cond.flags = s.cond.flags := by
    refine flags_ext fun g => Bool.eq_iff_iff.mpr ⟨fun hg => ?_, fun hg => hm.flagIn hg⟩
    rw [← hset, flagIn_setFlag, hg, Bool.or_true]
  induction h with
  | refl => rfl
  | axis _ _ _ ih => exact ih hflags
  | head _ _ _ ih => exact ih hflags
  | flag f hm ih =>
    have hsame := between f hm hflags
    exact (setFlag_condSlot (hflags.trans hsame.symm)).trans (ih hsame)
  | @record m f hm ih =>
    have hset : (setFlag f m).cond.flags = (recordFlag f m).cond.flags :=
      (setFlag_flags f m).trans (setFlag_flags f (addRecordFlag f m)).symm
    have hsame := between f hm (hset.trans hflags)
    exact (setFlag_condSlot (s := addRecordFlag f m) (hflags.trans hsame.symm)).trans (ih hsame)

/-- Outside WORK no flag arms a stop. -/
theorem Acted.armed {s t : State} (h : Acted s t) (hmode : s.cyc.mode ≠ .work) : t.cond.armed = s.cond.armed := by
  induction h with
  | refl => rfl
  | axis _ _ _ ih => exact ih
  | head _ _ _ ih => exact ih
  | flag f hm ih => exact (setFlag_armed (by rw [hm.cyc]; exact hmode) f).trans ih
  | @record m f hm ih => exact (setFlag_armed (s := addRecordFlag f m) (by
      show m.cyc.mode ≠ .work
      rw [hm.cyc]
      exact hmode) f).trans ih

/-! #### The three orders -/

section orders
variable {s : State} {u : UnitId}

theorem enterRaising_state (h : (s.heads.get u).pendingLower = false) :
    ((enterRaising u s).heads.get u).state = .raising ∨ ((enterRaising u s).heads.get u).state = .up := by
  unfold enterRaising
  rw [State.modHead_eq]
  unfold judgeRaising
  split
  · split
    · rw [enterUp_plain (by rw [State.setHead_get]; exact h), State.setHead_get]
      exact .inr rfl
    · rw [State.setHead_get]
      exact .inl rfl
  · rw [State.setHead_get]
    exact .inl rfl

/-- A unit is clear of what a halt ends. -/
def Head.Aborted (h : Head) : Prop := h.state ≠ .lowering ∧ h.state ≠ .inserted ∧ h.state ≠ .squeezing

/-- The abort order takes a unit out of the ballast or lets it open (R132). -/
theorem abortHead_aborted (h : (s.heads.get u).LowerSound) : ((abortHead u s).heads.get u).Aborted := by
  have hof {x : HeadState} (hx : x = .raising ∨ x = .up) : x ≠ .lowering ∧ x ≠ .inserted ∧ x ≠ .squeezing := by
    rcases hx with rfl | rfl <;> decide
  unfold abortHead
  split
  · next hs => exact hof (enterRaising_state (h.none_of_state (by rw [hs]; decide)))
  · next hs => exact hof (enterRaising_state (h.none_of_state (by rw [hs]; decide)))
  · simp [Head.Aborted, enterOpening]
  · next hs => simp [Head.Aborted, hs]
  · next hs => simp [Head.Aborted, hs]
  · next hs => simp [Head.Aborted, hs]
  · next hs => simp [Head.Aborted, hs]
  · next hs => simp [Head.Aborted, hs]
  · next hs => simp [Head.Aborted, hs]

theorem abortHead_raising (h : (s.heads.get u).state = .raising) :
    (abortHead u s).heads.get u = { s.heads.get u with pendingLower := false } := by
  unfold abortHead
  rw [h]
  simp

/-- What the abort order does to one unit it does whatever it has done to the others before. -/
theorem abortHeads_head {P : Head → Prop}
    (h : ∀ t : State, t.heads.get u = s.heads.get u → P ((abortHead u t).heads.get u)) : P ((abortHeads s).heads.get u) := by
  simp only [abortHeads, allUnits, List.foldl_cons, List.foldl_nil]
  cases u with
  | LO =>
    rw [abortHead_other (by decide), abortHead_other (by decide), abortHead_other (by decide)]
    exact h _ rfl
  | LI =>
    rw [abortHead_other (by decide), abortHead_other (by decide)]
    exact h _ (abortHead_other (by decide) _)
  | RI =>
    rw [abortHead_other (by decide)]
    exact h _ ((abortHead_other (by decide) _).trans (abortHead_other (by decide) _))
  | RO =>
    exact h _ ((abortHead_other (by decide) _).trans ((abortHead_other (by decide) _).trans (abortHead_other (by decide) _)))

theorem abortHeads_aborted (h : s.LowersPendRaising) (u : UnitId) : ((abortHeads s).heads.get u).Aborted :=
  abortHeads_head fun _ ht => abortHead_aborted (by rw [ht]; exact h u)

theorem finishRelease_idle (a : AxisId) (s : State) :
    ∃ x : Axis, (finishRelease a s).axes = s.axes.set a x ∧ x.state = .idle := by
  refine ⟨_, rfl, ?_⟩
  rfl

theorem takeRelease_idle (a : AxisId) (s : State) :
    ∃ x : Axis, (takeRelease a s).axes = s.axes.set a x ∧ x.state = .idle := by
  unfold takeRelease
  split
  · obtain ⟨y, hy⟩ := measureOvershoot_axes a (s.modAxis a fun x => { x with outcome := some .cut })
    obtain ⟨x, hx, hidle⟩ := finishRelease_idle a (measureOvershoot a (s.modAxis a fun x => { x with outcome := some .cut }))
    rw [hy, State.modAxis_axes, Three.set_set, Three.set_set] at hx
    exact ⟨x, hx, hidle⟩
  · exact finishRelease_idle a s
  · next h =>
    refine ⟨_, rfl, ?_⟩
    exact h

/-- Where no unit squeezes the release order leaves every axis IDLE. -/
theorem releaseAxes_idle (hfree : anySqueezing s = false) (a : AxisId) : ((releaseAxes s).axes.get a).state = .idle := by
  obtain ⟨xL, hL, hxL⟩ := takeRelease_idle .liftL s
  obtain ⟨xR, hR, hxR⟩ := takeRelease_idle .liftR (takeRelease .liftL s)
  obtain ⟨xV, hV, hxV⟩ := takeRelease_idle .line (takeRelease .liftR (takeRelease .liftL s))
  rw [releaseAxes_free hfree, hV, hR, hL]
  cases a <;> assumption

theorem anySqueezing_aborted (h : ∀ u, (s.heads.get u).Aborted) : anySqueezing s = false := by
  refine Bool.eq_false_iff.mpr fun hany => ?_
  obtain ⟨u, hu⟩ := (anySqueezing_iff s).mp hany
  exact (h u).2.2 hu

end orders

/-! #### The halt -/

theorem abortCurrent_eq (s : State) : abortCurrent s = { s with slp := (abortCurrent s).slp } := by
  unfold abortCurrent
  split
  · split <;> rfl
  · rfl

theorem withdrawTarget_eq (s : State) : withdrawTarget s = { s with eng := (withdrawTarget s).eng } := rfl

/-- The position unit as a halt leaves it (R32, R34). -/
def Position.halted (p : Position) : Position :=
  { p with
    drive := .riding, target := none, output := .stop, holdLost := false, strokeEnd := false
    demand := .stop, strokeTerm := .go }

theorem rideDrive_of_not_work {s : State} (h : s.cyc.mode ≠ .work) : rideDrive s = { s with pos := { s.pos with
    drive := .riding, target := none, output := .stop, holdLost := false, strokeEnd := false
    demand := restingDemand s.cyc.mode, strokeTerm := .go } } :=
  refreshDemand_of_not_work (s := s.modPos fun p =>
    { p with drive := .riding, target := none, output := .stop, holdLost := false, strokeEnd := false }) h

/-- The state in which the orders of a halt find the units and the axes. -/
def State.halting (s : State) (cause : HaltCause) (detail : Option Detail) : State :=
  { s with
    slp := { s.slp with detection := none, held := [] }
    seg := { s.seg with starved := false }
    pos := s.pos.halted
    cyc := haltedCycle cause detail s.cyc.resetCause
    cond := { s.cond with armed := none }
    link := { s.link with
      modeSlot := some ⟨⟨.halted, cause, detail, s.cyc.resetCause⟩, (s.link.modeSlot.map (·.age)).getD s.eventNo⟩ } }

theorem haltOrders_halted (cause : HaltCause) (detail : Option Detail) (s : State) :
    haltOrders (enterHalted cause detail s) = releaseAxes (abortHeads (s.halting cause detail)) := by
  have hridden : rideDrive (enterHalted cause detail s) = s.halting cause detail := by
    rw [enterHalted, enterMode_eq (by decide), rideDrive_of_not_work (by exact nofun)]
    rfl
  rw [haltOrders, hridden]

/-- The records and the engine as a hard halt finds them: the record in work ABORTED, no target pass. -/
def State.abandoned (s : State) : State := withdrawTarget (abortCurrent s)

theorem State.abandoned_eq (s : State) :
    s.abandoned = { s with slp := (abortCurrent s).slp, eng := (withdrawTarget s).eng } := by
  rw [State.abandoned, withdrawTarget_eq, abortCurrent_eq]
  rfl

theorem hardHalt_eq {s : State} (h : s.cyc.mode = .work ∨ s.cyc.mode = .paused) (cause : HaltCause) (detail : Option Detail) :
    hardHalt cause detail s = judgeEngine (releaseAxes (abortHeads (s.abandoned.halting cause detail))) := by
  rw [hardHalt, if_pos h, haltOrders_halted]
  rfl

/-- What the orders of a halt leave behind them, and what of it the engine's judgement leaves as it is. -/
structure Halted (cause : HaltCause) (detail : Option Detail) (s t : State) : Prop where
  cyc : t.cyc = haltedCycle cause detail s.cyc.resetCause
  pos : t.pos = s.pos.halted
  armed : t.cond.armed = none
  modeSlot : t.link.modeSlot
    = some ⟨⟨.halted, cause, detail, s.cyc.resetCause⟩, (s.link.modeSlot.map (·.age)).getD s.eventNo⟩
  plant : ∃ x : State, x.heads = s.heads ∧ x.axes = s.axes ∧ x.kept = s.kept ∧ t.heads = (abortHeads x).heads
    ∧ t.axes = (releaseAxes (abortHeads x)).axes

theorem orders_halted (cause : HaltCause) (detail : Option Detail) (s : State) :
    Halted cause detail s (releaseAxes (abortHeads (s.halting cause detail))) := by
  have hacted := (Acted.abortHeads (s.halting cause detail)).trans (Acted.releaseAxes _)
  have hcyc := hacted.cyc
  have hpos := hacted.pos
  have harmed := hacted.armed nofun
  have hslot := congrArg Beyond.modeSlot hacted.beyond
  exact ⟨hcyc, hpos, harmed, hslot, s.halting cause detail, rfl, rfl, rfl, releaseAxes_heads _, rfl⟩

theorem Halted.judgeEngine {cause : HaltCause} {detail : Option Detail} {s t : State} (h : Halted cause detail s t) :
    Halted cause detail s (judgeEngine t) := by
  obtain ⟨hout, -, -⟩ := judgeEngine_of_not_work (s := t) (by rw [h.cyc]; exact nofun)
  obtain ⟨x, hxheads, hxaxes, hxkept, hheads, haxes⟩ := h.plant
  exact ⟨(cyc_of_outside hout).trans h.cyc, (pos_of_outside hout).trans h.pos, (armed_of_outside hout).trans h.armed,
    (modeSlot_of_outside hout).trans h.modeSlot, x, hxheads, hxaxes, hxkept, (heads_of_outside hout).trans hheads,
    (axes_of_outside hout).trans haxes⟩

/-- A hard halt of a running controller ends in the halted state. -/
theorem hardHalt_halted {s : State} (h : s.cyc.mode = .work ∨ s.cyc.mode = .paused) (cause : HaltCause)
    (detail : Option Detail) : Halted cause detail s (hardHalt cause detail s) := by
  rw [hardHalt_eq h]
  have hkept : s.abandoned.kept = s.kept := (withdrawTarget_kept _).trans (abortCurrent_kept s)
  have hsame := s.abandoned_eq
  obtain ⟨hcyc, hpos, harmed, hslot, x, hxheads, hxaxes, hxkept, hheads, haxes⟩ :=
    (orders_halted cause detail s.abandoned).judgeEngine
  generalize Machine.judgeEngine _ = t at *
  generalize s.abandoned = a at *
  subst hsame
  exact ⟨hcyc, hpos, harmed, hslot, x, hxheads, hxaxes, hxkept.trans hkept, hheads, haxes⟩

/-- Every unit is clear and every axis IDLE after it, where a lower is pending only in a unit that is RAISING. -/
theorem Halted.cleared {cause : HaltCause} {detail : Option Detail} {s t : State} (h : Halted cause detail s t)
    (hlower : s.LowersPendRaising) : (∀ u, (t.heads.get u).Aborted) ∧ ∀ a, (t.axes.get a).state = .idle := by
  obtain ⟨x, hxheads, -, -, hheads, haxes⟩ := h.plant
  have haborted := abortHeads_aborted (hlower.of_heads hxheads)
  rw [hheads, haxes]
  exact ⟨haborted, releaseAxes_idle (anySqueezing_aborted haborted)⟩

theorem arbitrate_supervision (s : State) : (arbitrate s).link.supervision = s.link.supervision := by
  unfold arbitrate
  split
  · split
    · rfl
    · rfl
    · split
      · rfl
      · unfold sendOwn
        repeat' split
        · rfl
        · unfold sendNotice
          repeat' split
          all_goals rfl
        · rfl
  · rfl

/-- Settles O43: outside a running controller nothing follows; in one the hard halt. -/
theorem supervisionHalts : Obligations.SupervisionHalts := by
  intro s tm hpower htimer
  have hexec : exec .supervisionTimeout s = .next (arbitrate (hardHalt .cabSilent none
      { s.beginBy tm.ends with link := { s.link with supervision := none } })) := by
    show execSupervisionTimeout s = _
    rw [execSupervisionTimeout, hpower, htimer]
    rfl
  refine ⟨fun hmode => ?_, fun hmode hlower => ?_⟩
  · rw [hexec, hardHalt_of_resting (by exact hmode)]
    rfl
  · have hhalted := hardHalt_halted (s := { s.beginBy tm.ends with link := { s.link with supervision := none } })
      hmode .cabSilent none
    have hfixed := Kept.fixed_eq (hardHalt_kept .cabSilent none
      { s.beginBy tm.ends with link := { s.link with supervision := none } })
    refine ⟨_, hexec, ?_⟩
    generalize hardHalt .cabSilent none _ = t at hhalted hfixed
    obtain ⟨haborted, hidle⟩ := hhalted.cleared (hlower.of_heads rfl)
    have hclock := clock_of_fixed hfixed
    have hcount := count_of_fixed hfixed
    have hparams := params_of_fixed hfixed
    have hset := headSet_of_fixed hfixed
    have hsupervision := supervision_of_fixed hfixed
    rw [arbitrate_supervision]
    simp only [arbitrate_clock, arbitrate_cyc, arbitrate_cond, arbitrate_pos, arbitrate_heads, arbitrate_axes, arbitrate_count,
      arbitrate_params, arbitrate_headSet]
    rw [hhalted.pos]
    exact ⟨hclock, hsupervision, hhalted.cyc, hhalted.armed, rfl, rfl, rfl, rfl, haborted, hidle, hcount, hparams, hset⟩

end Sys2Proof.Machine
end


section
/-! ### The ends of a raise (O39) -/

namespace Sys2Proof.Machine

/-- Outside WORK a change of a unit ends no phase of the cycle. -/
theorem undisturbed_of_not_work {s : State} (h : s.cyc.mode ≠ .work) (u : UnitId) : s.Undisturbed u := fun h' => absurd h' h

theorem judgeRelease_of_not_work {s : State} (h : s.cyc.mode ≠ .work) : judgeRelease s = s := if_neg fun h' => h h'.1

theorem judgeClearing_of_not_work {s : State} (h : s.cyc.mode ≠ .work) : judgeClearing s = s := if_neg fun h' => h h'.1

/-- What follows a change of a unit outside WORK: the pending releases and the drive's command. -/
theorem afterUnit_of_not_work {s : State} (h : s.cyc.mode ≠ .work) (u : UnitId) :
    afterUnit u s = (settleReleases s).driven := by
  have hcyc : (settleReleases s).driven.cyc = s.cyc := (Acted.settleReleases s).cyc
  have hnot : (settleReleases s).driven.cyc.mode ≠ .work := by rw [hcyc]; exact h
  unfold afterUnit
  rw [actOnStop_of_not_work h]
  dsimp only
  rw [show refreshOutput (settleReleases s) = (settleReleases s).driven from rfl, judgeRelease_of_not_work hnot,
    judgeClearing_of_not_work hnot, ite_self]

/-- A raise that has timed out with the head clear of the ballast ends in UP (R128). -/
theorem endRaise_clear {u : UnitId} {s : State} {l : HeadLatch} (hl : (s.heads.get u).latched = some l)
    (h : ∃ d, depthOf u s = some d ∧ d ≤ l.clear) : endRaise u s = enterUp u s := by
  obtain ⟨d, hd, hle⟩ := h
  refine if_pos ?_
  unfold clearAtTimeout
  rw [hd, hl]
  exact decide_eq_true hle

/-- One that finds it deeper makes the halt of UNIT_STUCK (R129). -/
theorem endRaise_stuck {u : UnitId} {s : State} {l : HeadLatch} (hl : (s.heads.get u).latched = some l)
    (h : ∀ d, depthOf u s = some d → l.clear < d) :
    endRaise u s = hardHalt .unitStuck (some (.unit u)) (enterStuck u s) := by
  refine if_neg ?_
  unfold clearAtTimeout
  rw [hl]
  split
  · next d l' hd hl' =>
    rw [← Option.some.inj hl', decide_eq_true_eq]
    exact Int.not_le.mpr (h d hd)
  · exact Bool.false_ne_true

/-- Settles O39: RAISE_TIMEOUT by the depth and the mode, the others by their own table. -/
theorem raisesEnd : Obligations.RaisesEnd := by
  refine ⟨?_, ?_⟩
  · intro s u tm l hpower h hstate hstage htimer hlatched
    refine ⟨fun hclear hlower hund hno => ?_, fun hdeep hmode => ?_, fun hdeep hmode hno => ?_⟩
    · have hsame : ({ h with pendingLower := false } : Head) = h := by rw [← hlower]
      have hup : endRaise u (s.beginBy tm.ends) = (s.beginBy tm.ends).setHead u
          { h with state := .up, stage := none, timer := none, latched := none } :=
        (endRaise_clear (s := s.beginBy tm.ends) hlatched hclear).trans
          ((enterUp_plain (s := s.beginBy tm.ends) hlower).trans (congrArg (fun h' : Head =>
            (s.beginBy tm.ends).setHead u { h' with state := .up, stage := none, timer := none, latched := none }) hsame))
      exact onExpiry_undisturbed hpower hstate hstage htimer hup (hund.setHead tm) (hno.setHead tm)
    · have hstuck := endRaise_stuck (s := s.beginBy tm.ends) hlatched hdeep
      have hhalted := hardHalt_halted (s := enterStuck u (s.beginBy tm.ends)) hmode .unitStuck (some (.unit u))
      have hexec : exec (.raiseTimeout u) s
          = .next (arbitrate (afterUnit u (hardHalt .unitStuck (some (.unit u)) (enterStuck u (s.beginBy tm.ends))))) := by
        rw [← hstuck]
        show onExpiry u (phaseTimer u .raising (some .normal) s) (endRaise u) s = _
        rw [phaseTimer_eq hpower hstate hstage htimer]
        rfl
      generalize hardHalt .unitStuck (some (.unit u)) _ = x at hhalted hexec
      have hcyc := hhalted.cyc
      have hpos := hhalted.pos
      obtain ⟨y, hyheads, -, -, hheads, -⟩ := hhalted.plant
      have hhead : x.heads.get u = { h with stage := some .stuck, timer := none, pendingLower := false } := by
        rw [hheads]
        refine abortHeads_head (P := (· = _)) fun t ht => ?_
        rw [hyheads] at ht
        have hget : t.heads.get u = { h with stage := some .stuck, timer := none } := ht.trans State.setHead_get
        rw [abortHead_raising (by rw [hget]; exact hstate), hget]
      refine ⟨_, hexec, ?_⟩
      rw [afterUnit_of_not_work (by rw [hcyc]; exact nofun), arbitrate_heads, arbitrate_cyc, arbitrate_pos, State.driven_heads,
        settleReleases_heads, State.driven_cyc, (Acted.settleReleases x).cyc, hcyc]
      have hsettled : (settleReleases x).pos = x.pos := settleReleases_pos x
      refine ⟨hhead, rfl, rfl, rfl, rfl, ?_, ?_⟩
      · show (settleReleases x).pos.demand = .stop
        rw [hsettled, hpos]
        rfl
      · show (settleReleases x).pos.drive = .riding
        rw [hsettled, hpos]
        rfl
    · have hwork : s.cyc.mode ≠ .work := by rcases hmode with hm | hm <;> rw [hm] <;> decide
      have hstuck : endRaise u (s.beginBy tm.ends) = (s.beginBy tm.ends).setHead u { h with stage := some .stuck, timer := none } :=
        (endRaise_stuck (s := s.beginBy tm.ends) hlatched hdeep).trans
          (hardHalt_of_resting (s := enterStuck u (s.beginBy tm.ends)) hmode _ _)
      exact onExpiry_undisturbed hpower hstate hstage htimer hstuck ((undisturbed_of_not_work hwork u).setHead tm) (hno.setHead tm)
  · intro s u tm hpower hno h htimer
    refine ⟨fun hstate hstage hund => ?_, fun hstate hstage hwork hlower hfault => ?_, fun hstate hstage hwork hfault => ?_⟩
    · exact onExpiry_undisturbed (effect := enterFaulted u) hpower hstate hstage htimer rfl (hund.setHead tm) (hno.setHead tm)
    · have hsame : ({ h with stage := none, pendingLower := false } : Head) = h := by rw [← hstage, ← hlower]
      have hup : endParking u (s.beginBy tm.ends) = (s.beginBy tm.ends).setHead u
          { h with state := .up, timer := none, latched := none } :=
        (if_neg (Bool.eq_false_iff.mp hfault)).trans
          ((enterUp_plain (s := s.beginBy tm.ends) hlower).trans (congrArg (fun h' : Head =>
            (s.beginBy tm.ends).setHead u { h' with state := .up, timer := none, latched := none }) hsame))
      exact onExpiry_undisturbed hpower hstate hstage htimer hup ((undisturbed_of_not_work hwork u).setHead tm) (hno.setHead tm)
    · have hsame : ({ h with stage := none } : Head) = h := by rw [← hstage]
      have hentered : enterFaulted u (s.beginBy tm.ends) = (s.beginBy tm.ends).setHead u
          { h with state := .faulted, timer := none, latched := none } :=
        congrArg (fun h' : Head => (s.beginBy tm.ends).setHead u
          { h' with state := .faulted, timer := none, latched := none }) hsame
      have hfaulted : endParking u (s.beginBy tm.ends) = setFlag .unitFault ((s.beginBy tm.ends).setHead u
          { h with state := .faulted, timer := none, latched := none }) :=
        (if_pos hfault).trans (congrArg (setFlag .unitFault) hentered)
      have hund : (setFlag .unitFault ((s.beginBy tm.ends).setHead u
          { h with state := .faulted, timer := none, latched := none })).Undisturbed u :=
        undisturbed_of_not_work (by rw [setFlag_cyc]; exact hwork) u
      refine (onExpiry_undisturbed hpower hstate hstage htimer hfaulted hund
        ((hno.setHead tm).of_axes (setFlag_axes _ _))).trans ?_
      rw [setFlag_driven]
      rfl

end Sys2Proof.Machine
end


section
/-! ### STOP (O56) -/

namespace Sys2Proof.Machine

/-- The record in work as the halt writes it (R155, R156). -/
theorem abortCurrent_writes {s : State} {r : Sleeper} (hcur : currentRecord s = some r) (hstate : r.state = .inWork) :
    { r with state := .aborted, result := some (workedResult r.flags s) } ∈ (abortCurrent s).slp.records := by
  have hmem : r ∈ s.slp.records := by
    unfold currentRecord at hcur
    split at hcur
    · exact List.mem_of_find?_eq_some hcur
    · cases hcur
  have hwritten : (abortCurrent s) = modRecord r.seq (fun r =>
      { r with state := .aborted, result := some (workedResult r.flags s) }) s := by
    unfold abortCurrent
    rw [hcur]
    exact if_pos hstate
  rw [hwritten]
  refine List.mem_map.mpr ⟨r, hmem, if_pos ?_⟩
  rw [hstate]
  simp [RecordState.finished]

theorem abortCurrent_finishedKept (s : State) : FinishedKept s (abortCurrent s) := by
  unfold abortCurrent
  split
  · split
    · exact .modRecord _ _ s
    · exact .of_slp rfl
  · exact .of_slp rfl

/-- The records through the orders of a halt and the engine's judgement behind them. -/
theorem hardHalt_records {s : State} (h : s.cyc.mode = .work ∨ s.cyc.mode = .paused) (cause : HaltCause)
    (detail : Option Detail) : FinishedKept (abortCurrent s) (hardHalt cause detail s) := by
  have hacted := (Acted.abortHeads (s.abandoned.halting cause detail)).trans (Acted.releaseAxes _)
  have hmode : (releaseAxes (abortHeads (s.abandoned.halting cause detail))).cyc.mode ≠ .work := by
    rw [hacted.cyc]
    exact nofun
  have horders : FinishedKept (abortCurrent s) (s.abandoned.halting cause detail) := ⟨rfl, fun _ hr _ => hr⟩
  obtain ⟨-, hengine, -⟩ := judgeEngine_of_not_work hmode
  rw [hardHalt_eq h]
  exact (horders.trans (.of_acted hacted)).trans hengine

/-- The engine after a hard halt. -/
theorem hardHalt_untargeted {s : State} (h : s.cyc.mode = .work ∨ s.cyc.mode = .paused) (cause : HaltCause)
    (detail : Option Detail) : (hardHalt cause detail s).eng.Untargeted := by
  have hacted := (Acted.abortHeads (s.abandoned.halting cause detail)).trans (Acted.releaseAxes _)
  have hmode : (releaseAxes (abortHeads (s.abandoned.halting cause detail))).cyc.mode ≠ .work := by
    rw [hacted.cyc]
    exact nofun
  obtain ⟨-, -, heng⟩ := judgeEngine_of_not_work hmode
  rw [hardHalt_eq h]
  refine heng ?_
  rw [hacted.eng]
  exact withdrawTarget_untargeted (abortCurrent s)

/-- With the engine on a design pass a hard halt leaves the segments and their notice alone. -/
theorem hardHalt_designing {s : State} {p : DesignPass} (h : s.cyc.mode = .work ∨ s.cyc.mode = .paused)
    (hp : s.eng.activity = .designing p) (cause : HaltCause) (detail : Option Detail) :
    let t := hardHalt cause detail s
    t.eng.activity = .designing p ∧ t.seg.segments = s.seg.segments ∧ t.link.segSlot = s.link.segSlot
      ∧ (t.cond.flags = s.cond.flags → t.link.condSlot = s.link.condSlot) := by
  have hacted := (Acted.abortHeads (s.abandoned.halting cause detail)).trans (Acted.releaseAxes _)
  have habandoned := s.abandoned_eq
  have hwithdrawn : (withdrawTarget s).eng.activity = .designing p := by
    show (match s.eng.activity with
      | .targeting _ => Activity.idle
      | x => x) = .designing p
    rw [hp]
  have heng : (releaseAxes (abortHeads (s.abandoned.halting cause detail))).eng.activity = .designing p := by
    rw [hacted.eng, habandoned]
    exact hwithdrawn
  have hseg := congrArg SegmentQueue.segments hacted.seg
  have hslot := congrArg Beyond.segSlot hacted.beyond
  have hcond := hacted.condSlot
  dsimp only
  rw [hardHalt_eq h, judgeEngine_busy (by rw [heng]; exact nofun)]
  generalize releaseAxes (abortHeads (s.abandoned.halting cause detail)) = t at *
  rw [habandoned] at hseg hslot hcond
  exact ⟨heng, hseg, hslot, hcond⟩

/-- Settles O56: STOP is the hard halt of OPERATOR. -/
theorem stopHalts : Obligations.StopHalts := by
  intro s dt tag hs
  refine ⟨fun hmode => ?_, fun hmode hlower => ?_⟩
  · refine congrArg Host.Outcome.next (request_unchanged (r := .stop) hs ?_)
    show takeStop _ = _
    rw [takeStop, hardHalt_of_resting (by exact hmode)]
    rfl
  · obtain ⟨a, ha⟩ : ∃ a, a = s.arriving dt (Request.stop).kind tag .stop := ⟨_, rfl⟩
    have hamode : a.cyc.mode = .work ∨ a.cyc.mode = .paused := by rw [ha]; exact hmode
    have hfixed : (hardHalt .operator none a).kept.fixed = (s.arriving dt (Request.stop).kind tag .stop).kept.fixed := by
      rw [← ha]
      exact Kept.fixed_eq (hardHalt_kept _ _ a)
    have hexec := request_answered_fixed (r := .stop) (tag := tag) (status := .ok) (content := []) hs (by rw [← ha]; rfl) hfixed
    have hhalted := hardHalt_halted hamode .operator none
    obtain ⟨hlength, hfinished⟩ := hardHalt_records hamode .operator none
    obtain ⟨hcurlength, hcurfinished⟩ := abortCurrent_finishedKept a
    obtain ⟨hactivity, hrequest⟩ := hardHalt_untargeted hamode .operator none
    have hdesigning := fun p hp => hardHalt_designing (p := p) hamode hp .operator none
    obtain ⟨haborted, hidle⟩ := hhalted.cleared (hlower.of_heads (by rw [ha]; rfl))
    have hwrites := fun r hr => abortCurrent_writes (s := a) (r := r) hr
    have hclock := clock_of_fixed hfixed
    have hcount := count_of_fixed hfixed
    have hparams := params_of_fixed hfixed
    have hset := headSet_of_fixed hfixed
    have hstore := store_of_fixed hfixed
    obtain ⟨hcyc, hpos, harmed, hslot, -⟩ := hhalted
    generalize hardHalt .operator none a = t at *
    refine ⟨_, t.link.condSlot, t.link.segSlot, congrArg Host.Outcome.next hexec, hclock, ?_, harmed, ?_, haborted, hidle, ?_,
      fun p hp => ?_, hactivity, hrequest, ?_, fun r hr hf => ?_, fun r hcur hfound hstate => ?_, hcount, hparams, hset, hstore⟩
    · rw [ha] at hcyc
      exact hcyc
    · rw [ha] at hpos
      exact hpos
    · rw [hslot, ha]
      rfl
    · rw [ha] at hdesigning
      exact hdesigning p hp
    · rw [ha] at hlength hcurlength
      exact hlength.trans hcurlength
    · refine hfinished r (hcurfinished r ?_ hf) hf
      rw [ha]
      exact hr
    · have hcurrent : currentRecord a = some r := by
        rw [ha]
        unfold currentRecord
        rw [show (s.arriving dt (Request.stop).kind tag .stop).cyc.current = some r.seq from hcur]
        exact hfound
      refine ⟨workedResult r.flags a, hfinished _ (hwrites r hcurrent hstate) rfl, ?_, ?_, rfl, rfl, fun u => ?_, fun x => ?_⟩
      · rw [ha]
        rfl
      · rw [ha]
        show cycleTime (s.arriving dt (Request.stop).kind tag .stop) = _
        unfold cycleTime
        show (match s.cyc.stopwatch with
          | some t => min 65535 ((s.clock + dt - t) / 1000)
          | none => 0) = _
        cases s.cyc.stopwatch <;> rfl
      · rw [ha]
        cases u <;> rfl
      · rw [ha]
        cases x <;> rfl

end Sys2Proof.Machine
end


section
/-! ### The edges of the detector (O28) -/

namespace Sys2Proof.Machine

section edges
variable {s : State} {t0 : Nat}

/-- The state in which the detector line's change has been accepted. -/
def State.detectorAccepted (s : State) (t0 : Nat) : State :=
  { s.beginBy (t0 + s.params.p38) with
    count := { s.count with detector := ⟨s.count.detector.present, s.count.detector.present, none⟩ } }

theorem exec_detector (hpower : s.powered = true) (hsince : s.count.detector.since = some t0) :
    exec (.filterWindowExpiry .detector) s = .next (arbitrate (detectorEdge (s.detectorAccepted t0))) :=
  exec_filterWindowExpiry (l := .detector) hpower hsince

theorem takesEdges_iff (s : State) : takesEdges s = true
    ↔ (s.cyc.mode = .work ∨ s.cyc.mode = .paused) ∧ s.pos.direction = .forward := by
  simp [takesEdges, takesEntries]

theorem detectorEdge_not_taken (h : takesEdges s = false) : detectorEdge s = s := by simp [detectorEdge, h]

theorem detectorEdge_opens (htakes : takesEdges s = true) (hdet : s.slp.detection = none)
    (hactive : detectorActive s = true) :
    detectorEdge s = { s with slp := { s.slp with detection := some (detectorChainage s) } } := by
  simp only [detectorEdge, htakes, hdet, hactive, if_true]
  rfl

theorem detectorEdge_idle (hdet : s.slp.detection = none) (hactive : detectorActive s = false) : detectorEdge s = s := by
  simp [detectorEdge, hdet, hactive]

theorem detectorEdge_closes {a : Int} (htakes : takesEdges s = true) (hdet : s.slp.detection = some a)
    (hactive : detectorActive s = false) : detectorEdge s = closeDetection a s := by
  simp [detectorEdge, htakes, hdet, hactive]

/-- With no bearer held there is none to judge. -/
theorem judgeHeld_nothing (h : s.slp.held = []) : judgeHeld s = s := by
  have hsame : { s with slp := { s.slp with held := [] } } = s := by
    have hslp : { s.slp with held := [] } = s.slp := by rw [← h]
    rw [hslp]
  have hfound : ((waitingBearers s.seg.segments).filter fun x => s.slp.held.contains x.2.chainage) = [] := by
    simp [h]
  unfold judgeHeld
  dsimp only
  rw [hfound]
  exact hsame

theorem actOnStop_held (h : s.slp.held = []) : (actOnStop s).slp.held = [] := by
  unfold actOnStop
  split
  · next f _ =>
    split
    · have hacted := (Acted.abortHeads (s.halting .flagStop (some (.flag f)))).trans (Acted.releaseAxes _)
      have hsame := hacted.same (·.slp.held) (fun _ _ _ => rfl) (fun _ _ _ => rfl)
        (fun t f => congrArg SleeperQueue.held (setFlag_slp f t)) (fun _ _ => rfl)
      rw [orderlyHalt, haltOrders_halted]
      exact hsame
    · exact h
  · exact h

theorem raiseFlag_held (f : Flag) (h : s.slp.held = []) : (raiseFlag f s).slp.held = [] :=
  actOnStop_held (by rw [setFlag_slp]; exact h)

/-- A detection of a width outside its limits closes with DETECT_REJECT alone, where no bearer is held. -/
theorem closeDetection_rejected {a : Int} (hheld : s.slp.held = [])
    (hwidth : widthOk (detectorChainage s - a) s.params = false) :
    closeDetection a s = raiseFlag .detectReject { s with slp := { s.slp with detection := none } } := by
  have hjudged : judgeDetection a (detectorChainage s) { s with slp := { s.slp with detection := none } }
      = raiseFlag .detectReject { s with slp := { s.slp with detection := none } } := by
    unfold judgeDetection
    exact if_neg (by simp [hwidth])
  show judgeHeld (judgeDetection a (detectorChainage s) { s with slp := { s.slp with detection := none } }) = _
  rw [hjudged]
  exact judgeHeld_nothing (raiseFlag_held _ hheld)

end edges

/-- Settles O28: one case of the edge for each clause. -/
theorem detectorEdgesPaired : Obligations.DetectorEdgesPaired := by
  intro s t0 hpower hsince level active taken accepted
  have hexec := exec_detector hpower hsince
  have hactive : detectorActive accepted = active := rfl
  have htakes : takesEdges accepted = true ↔ taken := takesEdges_iff accepted
  refine ⟨fun hdet hon htaken => ?_, fun hdet hor => ?_, fun a hdet hoff htaken hheld hwidth => ?_⟩
  · rw [hexec]
    exact congrArg (fun t => Host.Outcome.next (arbitrate t)) (detectorEdge_opens (htakes.mpr htaken) hdet hon)
  · rw [hexec]
    refine congrArg (fun t => Host.Outcome.next (arbitrate t)) ?_
    rcases hor with hoff | hnot
    · exact detectorEdge_idle hdet hoff
    · exact detectorEdge_not_taken (Bool.eq_false_iff.mpr fun h => hnot (htakes.mp h))
  · rw [hexec]
    refine congrArg (fun t => Host.Outcome.next (arbitrate t)) ?_
    have hout : widthOk (detectorChainage accepted - a) accepted.params = false := by
      refine decide_eq_false fun h => ?_
      obtain ⟨hmin, hmax⟩ := h
      rcases hwidth with hlow | hhigh
      · exact absurd hmin (not_le.mpr hlow)
      · exact absurd hmax (not_le.mpr hhigh)
    exact (detectorEdge_closes (htakes.mpr htaken) hdet hoff).trans (closeDetection_rejected hheld hout)

end Sys2Proof.Machine
end


section
/-! ### Entries while no other block acts on them (O29) -/

namespace Sys2Proof.Machine

/-! #### What follows an entry outside WORK, with the engine on a pass -/

/-- From `s` to `t` nothing has happened to the records, the cycle and the engine, segments have retired at most,
and no flag has been cleared. -/
structure Settled (s t : State) : Prop where
  slp : t.slp = s.slp
  cyc : t.cyc = s.cyc
  eng : t.eng = s.eng
  fixed : t.kept.fixed = s.kept.fixed
  segments : t.seg.segments <:+ s.seg.segments
  flags : ∀ f, flagIn f s.cond.flags = true → flagIn f t.cond.flags = true

namespace Settled
variable {s t x : State}

theorem trans (h : Settled s t) (h' : Settled t x) : Settled s x where
  slp := h'.slp.trans h.slp
  cyc := h'.cyc.trans h.cyc
  eng := h'.eng.trans h.eng
  fixed := h'.fixed.trans h.fixed
  segments := h'.segments.trans h.segments
  flags f hf := h'.flags f (h.flags f hf)

theorem setFlag (f : Flag) (s : State) : Settled s (setFlag f s) where
  slp := setFlag_slp f s
  cyc := setFlag_cyc f s
  eng := congrArg Beyond.eng (setFlag_beyond f s)
  fixed := Kept.fixed_eq (setFlag_kept f s)
  segments := by
    have hseg : (Machine.setFlag f s).seg = s.seg := congrArg Beyond.seg (setFlag_beyond f s)
    rw [hseg]
  flags g hg := by rw [flagIn_setFlag, hg, Bool.or_true]

theorem refreshDemand (h : s.cyc.mode ≠ .work) : Settled s (refreshDemand s) := by
  rw [refreshDemand_of_not_work h]
  exact ⟨rfl, rfl, rfl, rfl, List.suffix_refl _, fun _ => id⟩

theorem judgeSegments (h : s.cyc.mode ≠ .work) : Settled s (judgeSegments s) := by
  rw [judgeSegments_of_not_work h]
  exact ⟨rfl, rfl, rfl, rfl, List.dropWhile_suffix _, fun _ => id⟩

end Settled

section entry
variable {s : State}

/-- The flag that an entry raises, outside WORK. -/
def State.flagged (s : State) : Option Flag → State
  | some f => setFlag f s
  | none => s

theorem flagged_settled (raised : Option Flag) (s : State) : Settled s (s.flagged raised) := by
  cases raised with
  | none => exact ⟨rfl, rfl, rfl, rfl, List.suffix_refl _, fun _ => id⟩
  | some f => exact .setFlag f s

theorem afterEntry_eq (hmode : s.cyc.mode ≠ .work) (hbusy : s.eng.activity ≠ .idle) (raised : Option Flag) :
    afterEntry raised s = judgeSegments (refreshDemand (s.flagged raised)) := by
  have hflagged : afterEntry raised s
      = seek (judgeEngine (judgeSegments (actOnStop (refreshDemand (s.flagged raised))))) := by
    cases raised with
    | none => rfl
    | some f =>
      unfold afterEntry
      dsimp only
      rw [raiseFlag_of_not_work hmode]
      rfl
  have hf := flagged_settled raised s
  have hd : Settled s (refreshDemand (s.flagged raised)) := hf.trans (.refreshDemand (by rw [hf.cyc]; exact hmode))
  have hs : Settled s (judgeSegments (refreshDemand (s.flagged raised))) :=
    hd.trans (.judgeSegments (by rw [hd.cyc]; exact hmode))
  rw [hflagged, actOnStop_of_not_work (by rw [hd.cyc]; exact hmode), judgeEngine_busy (by rw [hs.eng]; exact hbusy),
    seek_of_not_work (by rw [hs.cyc]; exact hmode)]

theorem afterEntry_settled (hmode : s.cyc.mode ≠ .work) (hbusy : s.eng.activity ≠ .idle) (raised : Option Flag) :
    Settled (s.flagged raised) (afterEntry raised s) := by
  have hf : (s.flagged raised).cyc.mode ≠ .work := by
    rw [(flagged_settled raised s).cyc]
    exact hmode
  have hd := Settled.refreshDemand hf
  rw [afterEntry_eq hmode hbusy]
  exact hd.trans (.judgeSegments (by rw [hd.cyc]; exact hf))

/-- The state with a record appended and all that follows it. -/
theorem enterRecord_settled (hmode : s.cyc.mode ≠ .work) (hbusy : s.eng.activity ≠ .idle) (c : Int) (width : Option Int)
    (source : Source) (plan : Option Plan) (unplanned : Bool) (raised : Option Flag) :
    Settled ((appendRecord c width source plan unplanned s).flagged raised)
      (enterRecord c width source plan unplanned raised s) :=
  afterEntry_settled (s := appendRecord c width source plan unplanned s) hmode hbusy raised

end entry

/-! #### The bearers of the pool -/

section bearers
variable {s : State} {segs : List Segment}

theorem waitingBearers_bearers (segs : List Segment) :
    (waitingBearers segs).map (·.2) = (poolOf segs).filter fun b => !b.consumed := by
  simp [waitingBearers, poolOf, List.map_flatMap, List.filter_flatMap, Function.comp_def]

theorem mem_waitingBearers {g : Segment} {b : Bearer} :
    (g, b) ∈ waitingBearers segs ↔ g ∈ segs ∧ b ∈ g.bearers ∧ b.consumed = false := by
  simp [waitingBearers, List.mem_flatMap]

theorem mem_poolOf {b : Bearer} : b ∈ poolOf segs ↔ ∃ g ∈ segs, b ∈ g.bearers := List.mem_flatMap

theorem waitingBearers_ascending (h : s.WindowSound) :
    (waitingBearers s.seg.segments).Pairwise fun x y => x.2.chainage < y.2.chainage := by
  have hsub : ((waitingBearers s.seg.segments).map fun x => x.2.chainage).Sublist
      ((poolOf s.seg.segments).map (·.chainage)) := by
    have hmap := List.Sublist.map (·.chainage) (List.filter_sublist (p := fun b => !b.consumed) (l := poolOf s.seg.segments))
    rw [← waitingBearers_bearers, List.map_map] at hmap
    exact hmap
  exact List.pairwise_map.mp (h.ascending.sublist hsub)

theorem poolOf_suffix {v w : List Segment} (h : v <:+ w) {b : Bearer} (hb : b ∈ poolOf v) : b ∈ poolOf w := by
  obtain ⟨g, hg, hbg⟩ := mem_poolOf.mp hb
  exact mem_poolOf.mpr ⟨g, h.subset hg, hbg⟩

/-- A bearer of the chainage consumed is CONSUMED. -/
theorem consumeBearer_used (c : Int) (s : State) {b : Bearer} (hb : b ∈ poolOf (consumeBearer c s).seg.segments)
    (hc : b.chainage = c) : b.consumed = true := by
  obtain ⟨g, hg, hbg⟩ := mem_poolOf.mp hb
  obtain ⟨g', -, rfl⟩ := List.mem_map.mp hg
  obtain ⟨b', -, rfl⟩ := List.mem_map.mp hbg
  by_cases h : b'.chainage = c
  · simp [h]
  · rw [if_neg h] at hc
    exact absurd hc h

end bearers

/-! #### The nearest candidate -/

section nearest
variable {c : Int} {x : Segment × Bearer} {l : List (Segment × Bearer)}

theorem nearest_mem (h : nearest c l = some x) : x ∈ l := by
  induction l with
  | nil => cases h
  | cons z zs ih =>
    unfold nearest at h
    split at h
    · cases h
      exact List.mem_cons_self
    · next y hy =>
      split at h
      · cases h
        exact List.mem_cons_of_mem z (ih hy)
      · cases h
        exact List.mem_cons_self

/-- Of candidates in ascending chainage the nearest is chosen, of two equally near the lower (R68). -/
theorem nearest_eq (hsorted : l.Pairwise fun x y => x.2.chainage < y.2.chainage) (hx : x ∈ l)
    (hbest : ∀ y ∈ l, (x.2.chainage - c).natAbs < (y.2.chainage - c).natAbs
      ∨ (x.2.chainage - c).natAbs = (y.2.chainage - c).natAbs ∧ x.2.chainage ≤ y.2.chainage) :
    nearest c l = some x := by
  induction l with
  | nil => cases hx
  | cons z zs ih =>
    obtain ⟨hz, hzs⟩ := List.pairwise_cons.mp hsorted
    unfold nearest
    rcases List.mem_cons.mp hx with rfl | hx
    · split
      · rfl
      · next y hy =>
        have hy := hbest y (List.mem_cons_of_mem _ (nearest_mem hy))
        exact if_neg (by omega)
    · have hlater := hz x hx
      have hnearer := hbest z List.mem_cons_self
      rw [ih hzs hx fun y hy => hbest y (List.mem_cons_of_mem z hy)]
      exact if_pos (by omega)

end nearest

/-! #### A detection that closes within its width -/

section detection
variable {s : State} {a c w : Int}

theorem tooClose_iff (c : Int) (s : State) : tooClose c s = true ↔ ∃ h, s.slp.highWater = some h ∧ c ≤ h + s.params.p33 := by
  unfold tooClose
  cases s.slp.highWater <;> simp

theorem tooClose_false (h : ∀ h, s.slp.highWater = some h → h + s.params.p33 < c) : tooClose c s = false := by
  refine Bool.eq_false_iff.mpr fun htoo => ?_
  obtain ⟨x, hx, hle⟩ := (tooClose_iff c s).mp htoo
  exact absurd (h x hx) (not_lt.mpr hle)

theorem judgeDetection_wide {d : Int} (hw : widthOk (d - a) s.params = true) : judgeDetection a d s
    = if tooClose ((a + d) / 2) s then s
      else if queueFull s then raiseFlag .queueOverrun s
      else enterDetection ((a + d) / 2) (d - a) s := if_pos hw

theorem mem_candidates {g : Segment} {b : Bearer} : (g, b) ∈ candidates c s
    ↔ (g, b) ∈ waitingBearers s.seg.segments ∧ ((b.chainage - c).natAbs : Int) ≤ s.params.p35 := by
  simp only [candidates, List.mem_filter, decide_eq_true_eq]
  refine and_congr_right fun _ => ?_
  omega

/-- A detection MATCHED to a bearer (R68). -/
theorem enterDetection_matched {g : Segment} {b : Bearer} (hsound : s.WindowSound) (hg : g ∈ s.seg.segments) (hb : b ∈ g.bearers)
    (hwaits : b.consumed = false) (hin : ((b.chainage - c).natAbs : Int) ≤ s.params.p35)
    (hbest : ∀ b' ∈ poolOf s.seg.segments, b'.consumed = false →
      (b.chainage - c).natAbs < (b'.chainage - c).natAbs
        ∨ (b.chainage - c).natAbs = (b'.chainage - c).natAbs ∧ b.chainage ≤ b'.chainage) :
    enterDetection c w s
      = enterRecord c (some w) .matched (some (bearerPlan g b)) false none (consumeBearer b.chainage s) := by
  have hfound : nearest c (candidates c s) = some (g, b) := by
    refine nearest_eq ((waitingBearers_ascending hsound).sublist List.filter_sublist)
      (mem_candidates.mpr ⟨mem_waitingBearers.mpr ⟨hg, hb, hwaits⟩, hin⟩) fun y hy => ?_
    obtain ⟨hyg, hyb, hyw⟩ := mem_waitingBearers.mp (mem_candidates.mp hy).1
    exact hbest y.2 (mem_poolOf.mpr ⟨y.1, hyg, hyb⟩) hyw
  rw [enterDetection, hfound]

/-- The record is UNPLANNED in a planned stretch (R69). -/
def State.unplannedAt (s : State) (c : Int) : Bool :=
  match segmentAt s.seg.segments c with
  | some g => g.planned
  | none => false

/-- The flag that a DETECTED record raises as it enters (R69). -/
def State.detectedFlag (s : State) (c : Int) : Option Flag :=
  match segmentAt s.seg.segments c with
  | some g => if g.planned then some .unplanned else none
  | none => some .segStarved

/-- A detection with no bearer to match (R69). -/
theorem enterDetection_detected (hnone : ∀ b ∈ poolOf s.seg.segments, b.consumed = false →
    s.params.p35 < ((b.chainage - c).natAbs : Int)) :
    enterDetection c w s
      = enterRecord c (some w) .detected none (s.unplannedAt c) (s.detectedFlag c) s := by
  have hempty : candidates c s = [] := by
    refine List.eq_nil_iff_forall_not_mem.mpr fun x hx => ?_
    obtain ⟨hwaits, hin⟩ := (mem_candidates (g := x.1) (b := x.2)).mp hx
    obtain ⟨hg, hb, hfalse⟩ := mem_waitingBearers.mp hwaits
    exact absurd hin (not_le.mpr (hnone x.2 (mem_poolOf.mpr ⟨x.1, hg, hb⟩) hfalse))
  rw [enterDetection, hempty, State.unplannedAt, State.detectedFlag]
  cases segmentAt s.seg.segments c <;> rfl

theorem flagIn_entryFlags (f : Flag) (unplanned : Bool) :
    flagIn f (entryFlags unplanned) = (decide (f = .unplanned) && unplanned) := by
  cases unplanned with
  | false => cases f <;> rfl
  | true => cases f <;> rfl

end detection

end Sys2Proof.Machine
end


section
/-! ### A closing detection by its checks (O29) -/

namespace Sys2Proof.Machine

section closing
variable {s : State} {t0 : Nat} {a : Int}

/-- The state in which the deactivation has been accepted and no detection is OPEN. -/
def State.detectionClosed (s : State) (t0 : Nat) : State :=
  { s.detectorAccepted t0 with slp := { s.slp with detection := none } }

theorem exec_closing (hpower : s.powered = true) (hsince : s.count.detector.since = some t0)
    (hlow : s.count.detector.present = s.params.p39low) (hmode : s.cyc.mode = .work ∨ s.cyc.mode = .paused)
    (hforward : s.pos.direction = .forward) (hdet : s.slp.detection = some a) :
    exec (.filterWindowExpiry .detector) s
      = .next (arbitrate (judgeHeld (judgeDetection a (detectorChainage s) (s.detectionClosed t0)))) := by
  have hoff : detectorActive (s.detectorAccepted t0) = false := by
    show (s.count.detector.present != s.params.p39low) = false
    simp [hlow]
  rw [exec_detector hpower hsince,
    detectorEdge_closes ((takesEdges_iff (s.detectorAccepted t0)).mpr ⟨hmode, hforward⟩) hdet hoff]
  rfl

/-- With no bearer held nothing follows the judgement of the detection. -/
theorem exec_closing_free {x : State} (hpower : s.powered = true) (hsince : s.count.detector.since = some t0)
    (hlow : s.count.detector.present = s.params.p39low) (hmode : s.cyc.mode = .work ∨ s.cyc.mode = .paused)
    (hforward : s.pos.direction = .forward) (hdet : s.slp.detection = some a)
    (hjudged : judgeDetection a (detectorChainage s) (s.detectionClosed t0) = x) (hheld : x.slp.held = []) :
    exec (.filterWindowExpiry .detector) s = .next (arbitrate x) := by
  rw [exec_closing hpower hsince hlow hmode hforward hdet, hjudged, judgeHeld_nothing hheld]

end closing

/-- The sleeper queue with a record entered. -/
def SleeperQueue.entered (q : SleeperQueue) (r : Sleeper) : SleeperQueue :=
  { q with
    highWater := some r.chainage
    nextSeq := if q.nextSeq = 65535 then 1 else q.nextSeq + 1
    records := q.records ++ [r] }

theorem appendRecord_slp (c : Int) (width : Option Int) (source : Source) (plan : Option Plan) (unplanned : Bool)
    (s : State) : (appendRecord c width source plan unplanned s).slp
      = s.slp.entered (newRecord s.slp.nextSeq c width source plan unplanned) := rfl

/-- Settles O29: the three checks in their order, and the two kinds of entry. -/
theorem detectionEnters : Obligations.DetectionEnters := by
  intro s t0 a hpower hsince hlow hmode hforward hdet hheld w c level closed hmin hmax
  have hexec {x : State} (hjudged : judgeDetection a (detectorChainage s) (s.detectionClosed t0) = x)
      (hnone : x.slp.held = []) : exec (.filterWindowExpiry .detector) s = .next (arbitrate x) :=
    exec_closing_free hpower hsince hlow hmode hforward hdet hjudged hnone
  have hwide := judgeDetection_wide (s := s.detectionClosed t0) (a := a) (d := detectorChainage s)
    (decide_eq_true ⟨hmin, hmax⟩)
  have hfree (h : ∀ h, s.slp.highWater = some h → h + s.params.p33 < c) : tooClose c (s.detectionClosed t0) = false :=
    tooClose_false h
  refine ⟨fun hclose => ?_, fun hfar hfull => ?_, fun pass hpaused heng hsound hfar hroom => ?_⟩
  · exact hexec (hwide.trans (if_pos ((tooClose_iff c (s.detectionClosed t0)).mpr hclose))) hheld
  · have hqueue : queueFull (s.detectionClosed t0) = true := decide_eq_true hfull
    exact hexec (hwide.trans ((if_neg (by rw [hfree hfar]; decide)).trans (if_pos hqueue))) (raiseFlag_held _ hheld)
  · have hqueue : queueFull (s.detectionClosed t0) = false := decide_eq_false (not_le.mpr hroom)
    have hjudged := hwide.trans ((if_neg (by rw [hfree hfar]; decide)).trans (if_neg (by rw [hqueue]; decide)))
    have hnot : s.cyc.mode ≠ .work := by rw [hpaused]; decide
    have hbusy : s.eng.activity ≠ .idle := by rw [heng]; exact nofun
    refine ⟨fun g b hg hb hwaits hin hbest => ?_, fun hnone => ?_⟩
    · rw [enterDetection_matched (s := s.detectionClosed t0)
        (hsound.of_outline (t := s.detectionClosed t0) rfl) hg hb hwaits hin hbest] at hjudged
      have hsettled := enterRecord_settled (s := consumeBearer b.chainage (s.detectionClosed t0)) hnot hbusy c (some w)
        .matched (some (bearerPlan g b)) false none
      generalize enterRecord _ _ _ _ _ _ _ = x at hjudged hsettled
      refine ⟨arbitrate x, hexec hjudged (by rw [hsettled.slp]; exact hheld), ?_, fun b' hb' hc => ?_⟩
      · rw [arbitrate_slp, hsettled.slp]
        rfl
      · rw [arbitrate_seg] at hb'
        exact consumeBearer_used b.chainage (s.detectionClosed t0) (poolOf_suffix hsettled.segments hb') hc
    · rw [enterDetection_detected (s := s.detectionClosed t0) hnone] at hjudged
      have hraised (f : Flag) (hf : (s.detectionClosed t0).detectedFlag c = some f) : flagIn f
          ((appendRecord c (some w) .detected none ((s.detectionClosed t0).unplannedAt c) (s.detectionClosed t0)).flagged
            ((s.detectionClosed t0).detectedFlag c)).cond.flags = true := by
        rw [hf]
        exact (flagIn_setFlag f f _).trans (by simp)
      have hflagged := flagged_settled ((s.detectionClosed t0).detectedFlag c)
        (appendRecord c (some w) .detected none ((s.detectionClosed t0).unplannedAt c) (s.detectionClosed t0))
      have hsettled := enterRecord_settled (s := s.detectionClosed t0) hnot hbusy c (some w)
        .detected none ((s.detectionClosed t0).unplannedAt c) ((s.detectionClosed t0).detectedFlag c)
      have hslp := hsettled.slp.trans hflagged.slp
      generalize enterRecord _ _ _ _ _ _ _ = x at hjudged hsettled hslp
      have hup : (s.detectionClosed t0).unplannedAt c = s.unplannedAt c := rfl
      have hflag : (s.detectionClosed t0).detectedFlag c = s.detectedFlag c := rfl
      refine ⟨arbitrate x, s.unplannedAt c, entryFlags (s.unplannedAt c), hexec hjudged (by rw [hslp]; exact hheld), ?_,
        fun f => flagIn_entryFlags f _, ?_, fun hunplanned => ?_, fun hunder => ?_⟩
      · unfold State.unplannedAt
        cases segmentAt s.seg.segments c <;> simp
      · rw [arbitrate_slp, hslp]
        rfl
      · rw [arbitrate_cond]
        refine hsettled.flags _ (hraised _ ?_)
        rw [hflag]
        unfold State.unplannedAt at hunplanned
        unfold State.detectedFlag
        split at hunplanned
        · exact if_pos hunplanned
        · cases hunplanned
      · rw [arbitrate_cond]
        refine hsettled.flags _ (hraised _ ?_)
        rw [hflag, State.detectedFlag, hunder]

end Sys2Proof.Machine
end


section
/-! ### Bearers judged in turn while no other block acts on them -/

namespace Sys2Proof.Machine

/-! #### What judging them leaves -/

/-- From `s` to `t` the cycle and the engine are as they were, and bearers have been consumed or have left. -/
structure Consumed (s t : State) : Prop where
  cyc : t.cyc = s.cyc
  eng : t.eng = s.eng
  fixed : t.kept.fixed = s.kept.fixed
  bearers : ∀ b' ∈ poolOf t.seg.segments, ∃ b ∈ poolOf s.seg.segments,
    b.chainage = b'.chainage ∧ (b.consumed = true → b'.consumed = true)

namespace Consumed
variable {s t x : State}

theorem trans (h : Consumed s t) (h' : Consumed t x) : Consumed s x where
  cyc := h'.cyc.trans h.cyc
  eng := h'.eng.trans h.eng
  fixed := h'.fixed.trans h.fixed
  bearers b' hb' := by
    obtain ⟨b1, hb1, hc1, hu1⟩ := h'.bearers b' hb'
    obtain ⟨b, hb, hc, hu⟩ := h.bearers b1 hb1
    exact ⟨b, hb, hc.trans hc1, fun huse => hu1 (hu huse)⟩

theorem of_settled (h : Settled s t) : Consumed s t :=
  ⟨h.cyc, h.eng, h.fixed, fun b hb => ⟨b, poolOf_suffix h.segments hb, rfl, id⟩⟩

theorem refl (s : State) : Consumed s s := ⟨rfl, rfl, rfl, fun b hb => ⟨b, hb, rfl, id⟩⟩

theorem consumeBearer (c : Int) (s : State) : Consumed s (consumeBearer c s) := by
  refine ⟨rfl, rfl, rfl, fun b' hb' => ?_⟩
  obtain ⟨g', hg', hbg⟩ := mem_poolOf.mp hb'
  obtain ⟨g, hg, rfl⟩ := List.mem_map.mp hg'
  obtain ⟨b, hb, rfl⟩ := List.mem_map.mp hbg
  refine ⟨b, mem_poolOf.mpr ⟨g, hg, hb⟩, ?_, fun huse => ?_⟩
  · split <;> rfl
  · split
    · rfl
    · exact huse

/-- A bearer of a chainage that is CONSUMED stays so. -/
theorem used (h : Consumed s t) {c : Int} (hs : ∀ b ∈ poolOf s.seg.segments, b.chainage = c → b.consumed = true) :
    ∀ b ∈ poolOf t.seg.segments, b.chainage = c → b.consumed = true := fun b' hb' hc => by
  obtain ⟨b, hb, hbc, hu⟩ := h.bearers b' hb'
  exact hu (hs b hb (hbc.trans hc))

end Consumed

/-! #### One passed bearer -/

section planned
variable {s : State} {g : Segment} {b : Bearer}

theorem judgePlanned_close (h : ∃ h, s.slp.highWater = some h ∧ b.chainage ≤ h + s.params.p33) :
    judgePlanned g b s = consumeBearer b.chainage s := if_pos ((tooClose_iff _ s).mpr h)

theorem judgePlanned_full (hmode : s.cyc.mode ≠ .work) (hfar : ∀ h, s.slp.highWater = some h → h + s.params.p33 < b.chainage)
    (hfull : 16 ≤ s.slp.records.length) :
    judgePlanned g b s = setFlag .queueOverrun (consumeBearer b.chainage s) := by
  have hqueue : queueFull s = true := decide_eq_true hfull
  unfold judgePlanned
  dsimp only
  rw [if_neg (by rw [tooClose_false hfar]; decide), if_pos hqueue,
    raiseFlag_of_not_work (s := consumeBearer b.chainage s) hmode]

theorem judgePlanned_enters (hfar : ∀ h, s.slp.highWater = some h → h + s.params.p33 < b.chainage)
    (hroom : s.slp.records.length < 16) :
    judgePlanned g b s
      = enterRecord b.chainage none .planned (some (bearerPlan g b)) false none (consumeBearer b.chainage s) := by
  have hqueue : queueFull s = false := decide_eq_false (not_le.mpr hroom)
  unfold judgePlanned
  dsimp only
  rw [if_neg (by rw [tooClose_false hfar]; decide), if_neg (by rw [hqueue]; decide)]

/-- In every case the bearer is consumed, and nothing else happens to the window but retirement. -/
theorem judgePlanned_consumed (hmode : s.cyc.mode ≠ .work) (hbusy : s.eng.activity ≠ .idle) :
    Consumed (consumeBearer b.chainage s) (judgePlanned g b s) := by
  unfold judgePlanned
  dsimp only
  split
  · exact .refl _
  · split
    · rw [raiseFlag_of_not_work (s := consumeBearer b.chainage s) hmode]
      exact .of_settled (.setFlag _ _)
    · have hentered := enterRecord_settled (s := consumeBearer b.chainage s) hmode hbusy b.chainage none .planned
        (some (bearerPlan g b)) false none
      exact Consumed.trans (t := appendRecord b.chainage none .planned (some (bearerPlan g b)) false (consumeBearer b.chainage s))
        ⟨rfl, rfl, rfl, fun b hb => ⟨b, hb, rfl, id⟩⟩ (.of_settled hentered)

end planned

/-! #### One after another -/

section turns
variable {s : State}

theorem takesEntries_paused (h : s.cyc.mode = .paused) : takesEntries s = true := by simp [takesEntries, h]

theorem takesEntries_closed (h : s.cyc.mode ≠ .work) (h' : s.cyc.mode ≠ .paused) : takesEntries s = false := by
  simp [takesEntries, h, h']

theorem judgeInTurn_cons (x : Segment × Bearer) (l : List (Segment × Bearer)) (htakes : takesEntries s = true) :
    judgeInTurn (x :: l) s = judgeInTurn l (judgePlanned x.1 x.2 s) := by
  rw [judgeInTurn, List.foldl_cons, if_pos htakes]
  rfl

theorem judgeInTurn_consumed (found : List (Segment × Bearer)) (hmode : s.cyc.mode = .paused) (hbusy : s.eng.activity ≠ .idle) :
    Consumed s (judgeInTurn found s)
      ∧ ∀ x ∈ found, ∀ b ∈ poolOf (judgeInTurn found s).seg.segments, b.chainage = x.2.chainage → b.consumed = true := by
  induction found generalizing s with
  | nil => exact ⟨.refl s, fun x hx => absurd hx List.not_mem_nil⟩
  | cons x l ih =>
    have hnot : s.cyc.mode ≠ .work := by rw [hmode]; decide
    have hone := judgePlanned_consumed (g := x.1) (b := x.2) hnot hbusy
    have hstep := (Consumed.consumeBearer x.2.chainage s).trans hone
    rw [judgeInTurn_cons x l (takesEntries_paused hmode)]
    obtain ⟨hrest, hfound⟩ := ih (s := judgePlanned x.1 x.2 s) (by rw [hstep.cyc]; exact hmode) (by rw [hstep.eng]; exact hbusy)
    refine ⟨hstep.trans hrest, fun y hy => ?_⟩
    rcases List.mem_cons.mp hy with rfl | hy
    · exact (hone.trans hrest).used fun b hb hc => consumeBearer_used _ s hb hc
    · exact hfound y hy

/-- A bearer alone in its place is all there is to judge. -/
theorem eq_singleton_of_ascending {l : List (Segment × Bearer)} {g : Segment} {b : Bearer}
    (hsorted : l.Pairwise fun x y => x.2.chainage < y.2.chainage) (hmem : (g, b) ∈ l)
    (hall : ∀ y ∈ l, y.2.chainage = b.chainage) : l = [(g, b)] := by
  cases l with
  | nil => cases hmem
  | cons x xs =>
    have hnone : xs = [] := by
      refine List.eq_nil_iff_forall_not_mem.mpr fun y hy => ?_
      have hlater := (List.pairwise_cons.mp hsorted).1 y hy
      rw [hall x List.mem_cons_self, hall y (List.mem_cons_of_mem x hy)] at hlater
      exact lt_irrefl _ hlater
    subst hnone
    rw [List.mem_singleton.mp hmem]

/-- A bearer passed by the detector (R71). -/
def State.passes (s : State) (b : Bearer) : Prop := b.consumed = false ∧ b.chainage + s.params.p35 ≤ detectorChainage s

theorem mem_passedBearers {g : Segment} {b : Bearer} :
    (g, b) ∈ passedBearers s ↔ g ∈ s.seg.segments ∧ b ∈ g.bearers ∧ s.passes b := by
  simp only [passedBearers, List.mem_filter, mem_waitingBearers, decide_eq_true_eq, State.passes]
  tauto

theorem passedBearers_nil (h : ∀ b ∈ poolOf s.seg.segments, ¬ s.passes b) : passedBearers s = [] := by
  refine List.eq_nil_iff_forall_not_mem.mpr fun x hx => ?_
  obtain ⟨hg, hb, hpass⟩ := (mem_passedBearers (g := x.1) (b := x.2)).mp hx
  exact h x.2 (mem_poolOf.mpr ⟨x.1, hg, hb⟩) hpass

theorem passedBearers_one {g : Segment} {b : Bearer} (hsound : s.WindowSound) (hg : g ∈ s.seg.segments) (hb : b ∈ g.bearers)
    (hpass : s.passes b) (hone : ∀ b' ∈ poolOf s.seg.segments, s.passes b' → b' = b) : passedBearers s = [(g, b)] := by
  refine eq_singleton_of_ascending ((waitingBearers_ascending hsound).sublist List.filter_sublist)
    (mem_passedBearers.mpr ⟨hg, hb, hpass⟩) fun y hy => ?_
  obtain ⟨hyg, hyb, hypass⟩ := (mem_passedBearers (g := y.1) (b := y.2)).mp hy
  rw [hone y.2 (mem_poolOf.mpr ⟨y.1, hyg, hyb⟩) hypass]

theorem judgePassing_closed (h : takesEntries s = false) : judgePassing s = s := by simp [judgePassing, h]

theorem judgePassing_free (hmode : s.cyc.mode = .paused) (hdet : s.slp.detection = none) :
    judgePassing s = judgeInTurn (passedBearers s) s := by
  simp [judgePassing, takesEntries_paused hmode, hdet]

theorem judgePassing_held {a : Int} (hmode : s.cyc.mode = .paused) (hdet : s.slp.detection = some a) :
    judgePassing s = { s with slp := { s.slp with
      held := holdPassed s.slp.held ((passedBearers s).map (·.2.chainage)) } } := by
  have hopen : s.slp.detection.isSome = true := by rw [hdet]; rfl
  rw [judgePassing, if_pos (takesEntries_paused hmode), if_pos hopen]
  rfl

/-- In PAUSED, with the engine on a pass, the judgement of passing leaves the cycle, the engine and the fixed part. -/
theorem judgePassing_consumed (hmode : s.cyc.mode = .paused) (hbusy : s.eng.activity ≠ .idle) :
    Consumed s (judgePassing s) := by
  cases hdet : s.slp.detection with
  | none =>
    rw [judgePassing_free hmode hdet]
    exact (judgeInTurn_consumed _ hmode hbusy).1
  | some a =>
    rw [judgePassing_held hmode hdet]
    exact ⟨rfl, rfl, rfl, fun b hb => ⟨b, hb, rfl, id⟩⟩

/-- With no detection OPEN no passed bearer is left WAITING (R71). -/
theorem judgePassing_all (hmode : s.cyc.mode = .paused) (hbusy : s.eng.activity ≠ .idle) (hdet : s.slp.detection = none) :
    ∀ b ∈ poolOf (judgePassing s).seg.segments, ¬ s.passes b := by
  intro b' hb' hpass
  obtain ⟨hconsumed, hfound⟩ := judgeInTurn_consumed (passedBearers s) hmode hbusy
  rw [judgePassing_free hmode hdet] at hb'
  obtain ⟨b, hb, hbc, hu⟩ := hconsumed.bearers b' hb'
  obtain ⟨g, hg, hbg⟩ := mem_poolOf.mp hb
  obtain ⟨hwaits, hbehind⟩ := hpass
  have hwaiting : b.consumed = false := Bool.eq_false_iff.mpr fun huse => by
    rw [hu huse] at hwaits
    cases hwaits
  have hmem : (g, b) ∈ passedBearers s := mem_passedBearers.mpr ⟨hg, hbg, hwaiting, by rw [hbc]; exact hbehind⟩
  rw [hfound (g, b) hmem b' hb' hbc.symm] at hwaits
  cases hwaits

/-- With none passed the sleeper queue stays as it is. -/
theorem judgePassing_none (hmode : s.cyc.mode = .paused) (hnone : ∀ b ∈ poolOf s.seg.segments, ¬ s.passes b) :
    judgePassing s = s := by
  cases hdet : s.slp.detection with
  | none =>
    rw [judgePassing_free hmode hdet, passedBearers_nil hnone]
    rfl
  | some a =>
    rw [judgePassing_held hmode hdet, passedBearers_nil hnone]
    simp [holdPassed]

end turns

end Sys2Proof.Machine
end


section
/-! ### A count of ODO that moves the detector (O30) -/

namespace Sys2Proof.Machine

section drive
variable {s : State}

/-- Outside WORK a re-determination of the drive changes the position unit alone. -/
theorem redetermine_of_not_work (h : s.cyc.mode ≠ .work) :
    ∃ p n, (redetermine s).1 = { s with pos := p, freeNext := n } := by
  unfold redetermine
  split
  · split
    · dsimp only
      rw [rideDrive_of_not_work h]
      exact ⟨_, _, rfl⟩
    · split
      · exact ⟨_, _, rfl⟩
      · exact ⟨_, _, rfl⟩
  · unfold holdingReports
    dsimp only
    split
    · exact ⟨_, _, rfl⟩
    · exact ⟨_, _, rfl⟩
    · exact ⟨_, _, rfl⟩
    · exact ⟨_, _, rfl⟩
  · exact ⟨_, _, rfl⟩

theorem onDriveReports_of_not_work (h : s.cyc.mode ≠ .work) (reports : List DriveReport) :
    reports.foldl onDriveReport s = s := by
  induction reports with
  | nil => rfl
  | cons r rest ih =>
    have hone : onDriveReport s r = s := if_neg h
    rw [List.foldl_cons, hone, ih]

/-- Outside WORK the cycle controller takes no report of the drive. -/
theorem afterDrive_of_not_work {p : State × List DriveReport} (h : p.1.cyc.mode ≠ .work) :
    afterDrive p = refreshDemand p.1 := by
  have hcyc : (refreshDemand p.1).cyc.mode ≠ .work := by
    rw [refreshDemand_cyc]
    exact h
  rw [afterDrive, onDriveReports_of_not_work h, actOnStop_of_not_work hcyc, seek_of_not_work hcyc]

theorem redetermined_of_not_work (h : s.cyc.mode ≠ .work) :
    ∃ p n, afterDrive (redetermine s) = { s with pos := p, freeNext := n } := by
  obtain ⟨p, n, hdrive⟩ := redetermine_of_not_work h
  have hmode : (redetermine s).1.cyc.mode ≠ .work := by
    rw [hdrive]
    exact h
  rw [afterDrive_of_not_work hmode, refreshDemand_of_not_work hmode, hdrive]
  exact ⟨_, _, rfl⟩

theorem reachAgain_of_not_work (h : s.cyc.mode ≠ .work) : reachAgain s = s := if_neg fun h' => h h'.1

end drive

section odo
variable {s before : State}

/-- The state with its direction FORWARD (R18). -/
def State.forwarded (s : State) : State := { s with pos := { s.pos with direction := .forward } }

theorem odoMoved_forward (before s : State) : (odoMoved true before s).kept.fixed
    = s.forwarded.kept.fixed := by
  have hmoved : (if detectorChainage s ≠ detectorChainage before then detectorMoved (setDirection true s)
      else setDirection true s).kept.fixed
      = s.forwarded.kept.fixed := by
    split
    · exact detectorMoved_fixed _
    · rfl
  have hdriven := (Kept.fixed_eq (redetermined_kept _)).trans hmoved
  unfold odoMoved
  dsimp only
  split
  · refine (Kept.fixed_eq ?_).trans hdriven
    rw [seek_kept, actOnStop_kept, reachAgain_kept]
  · exact hdriven

/-- The direction FORWARD and the bearers passed, where the detector has moved. -/
def State.passing (s before : State) : State :=
  if detectorChainage s ≠ detectorChainage before then
    judgePassing s.forwarded
  else s.forwarded

theorem passing_consumed (hmode : s.cyc.mode ≠ .work) (hbusy : s.eng.activity ≠ .idle) :
    Consumed s.forwarded (s.passing before) := by
  unfold State.passing
  split
  · by_cases hpaused : s.cyc.mode = .paused
    · exact judgePassing_consumed (s := s.forwarded) hpaused hbusy
    · rw [judgePassing_closed (takesEntries_closed (s := s.forwarded) hmode hpaused)]
      exact .refl _
  · exact .refl _

/-- Outside WORK, with the engine on a pass, nothing but retirement follows the passing. -/
theorem odoMoved_quiet (hmode : s.cyc.mode ≠ .work) (hbusy : s.eng.activity ≠ .idle) :
    (odoMoved true before s).slp = (s.passing before).slp
      ∧ (odoMoved true before s).seg.segments <:+ (s.passing before).seg.segments
      ∧ (odoMoved true before s).cond = (s.passing before).cond := by
  have hcons := passing_consumed (before := before) hmode hbusy
  have hcyc : (s.passing before).cyc.mode ≠ .work := by rw [hcons.cyc]; exact hmode
  have hmoved : ∃ m : State, m = (if detectorChainage s ≠ detectorChainage before then detectorMoved (setDirection true s)
      else setDirection true s) ∧ m.cyc.mode ≠ .work ∧ m.slp = (s.passing before).slp
      ∧ m.seg.segments <:+ (s.passing before).seg.segments ∧ m.cond = (s.passing before).cond := by
    refine ⟨_, rfl, ?_⟩
    split
    · next h =>
      have hpassed : judgePassing (setDirection true s) = s.passing before := (if_pos h).symm
      have hsettled := Settled.judgeSegments hcyc
      have hcond : (judgeSegments (s.passing before)).cond = (s.passing before).cond := by
        rw [judgeSegments_of_not_work hcyc]
      unfold detectorMoved
      rw [hpassed, judgeEngine_busy (by rw [hsettled.eng, hcons.eng]; exact hbusy),
        seek_of_not_work (by rw [hsettled.cyc]; exact hcyc)]
      exact ⟨by rw [hsettled.cyc]; exact hcyc, hsettled.slp, hsettled.segments, hcond⟩
    · next h =>
      have hpassed : setDirection true s = s.passing before := (if_neg h).symm
      rw [hpassed]
      exact ⟨hcyc, rfl, List.suffix_refl _, rfl⟩
  obtain ⟨m, hm, hmcyc, hslp, hseg, hcond⟩ := hmoved
  unfold odoMoved
  dsimp only
  rw [← hm]
  obtain ⟨p, n, hdriven⟩ := redetermined_of_not_work hmcyc
  rw [hdriven]
  split
  · rw [reachAgain_of_not_work (by exact hmcyc), actOnStop_of_not_work (by exact hmcyc), seek_of_not_work (by exact hmcyc)]
    exact ⟨hslp, hseg, hcond⟩
  · exact ⟨hslp, hseg, hcond⟩

/-- A count of ODO upward. -/
theorem exec_odoUp {t0 : Nat} {n : Int} (hpower : s.powered = true) (hpaired : s.count.odo.paired = false)
    (hsince : s.count.odo.a.since = some t0) (hup : s.upA .odo = true) (hn : n = s.count.odo.count + 1)
    (hhi : n ≤ 2147483647) : exec (.filterWindowExpiry (.channelA .odo)) s = .next (arbitrate
      (odoMoved true (s.accepting .odo s.count.odo.acceptedA t0)
        (s.accepting .odo { s.count.odo.acceptedA with count := n } t0))) := by
  have hstep : stepCount true s.count.odo.count = some n := by
    unfold stepCount countMax
    rw [if_pos rfl, if_pos (by omega), hn]
  have hcount : countStep .odo true (s.accepting .odo s.count.odo.acceptedA t0)
      = odoMoved true (s.accepting .odo s.count.odo.acceptedA t0)
          (s.accepting .odo { s.count.odo.acceptedA with count := n } t0) := by
    have hget : ((s.accepting .odo s.count.odo.acceptedA t0).count.get .odo).count = s.count.odo.count := rfl
    unfold countStep
    rw [hget, hstep]
    rfl
  rw [exec_filterWindowExpiry (l := .channelA .odo) hpower hsince, acceptLine_channelA (c := .odo) hpaired, hup]
  exact congrArg (fun x => Host.Outcome.next (arbitrate x)) hcount

end odo

end Sys2Proof.Machine
end


section
/-! ### The passing of planned bearers (O30) -/

namespace Sys2Proof.Machine

/-! #### The chainages -/

section chainages
variable {s t : State}

theorem frameChainage_of_fixed (h : t.kept.fixed = s.kept.fixed) : frameChainage t = frameChainage s := by
  unfold frameChainage frameMicrons
  rw [datum_of_fixed h, countAtDatum_of_fixed h, count_of_fixed h, params_of_fixed h]

theorem detectorChainage_of_fixed (h : t.kept.fixed = s.kept.fixed) : detectorChainage t = detectorChainage s := by
  unfold detectorChainage
  rw [frameChainage_of_fixed h, params_of_fixed h]

end chainages

/-! #### One bearer passed -/

section one
variable {s : State} {g : Segment} {b : Bearer}

/-- The record that a passed bearer enters as (R73). -/
def State.plannedRecord (s : State) (g : Segment) (b : Bearer) : Sleeper :=
  ⟨s.slp.nextSeq, b.chainage, none, .planned, some ⟨b.tamp, b.tilt, b.insertions, b.depthOffset, g.id⟩, .queued, false, 0,
    none, none, none⟩

theorem judgePlanned_entered (hmode : s.cyc.mode ≠ .work) (hbusy : s.eng.activity ≠ .idle)
    (hfar : ∀ h, s.slp.highWater = some h → h + s.params.p33 < b.chainage) (hroom : s.slp.records.length < 16) :
    (judgePlanned g b s).slp = s.slp.entered (s.plannedRecord g b)
      ∧ ∀ f, flagIn f s.cond.flags = true → flagIn f (judgePlanned g b s).cond.flags = true := by
  have hsettled := enterRecord_settled (s := consumeBearer b.chainage s) hmode hbusy b.chainage none .planned
    (some (bearerPlan g b)) false none
  rw [judgePlanned_enters hfar hroom]
  exact ⟨hsettled.slp, hsettled.flags⟩

/-- The three judgements of the one bearer that the detector has passed (R73). -/
theorem judgePassing_one (hmode : s.cyc.mode = .paused) (hdet : s.slp.detection = none)
    (hpassed : passedBearers s = [(g, b)]) : judgePassing s = judgePlanned g b s := by
  rw [judgePassing_free hmode hdet, hpassed, judgeInTurn_cons _ _ (takesEntries_paused hmode)]
  rfl

theorem judgePlanned_used (hmode : s.cyc.mode ≠ .work) (hbusy : s.eng.activity ≠ .idle) :
    ∀ b' ∈ poolOf (judgePlanned g b s).seg.segments, b'.chainage = b.chainage → b'.consumed = true :=
  (judgePlanned_consumed hmode hbusy).used fun _ hb hc => consumeBearer_used _ s hb hc

end one

/-- The first part of O30: a count of ODO upward. -/
theorem bearers_passed (s : State) (t0 : Nat) (n : Int) (pass : DesignPass)
    (hpower : s.powered = true) (hsince : s.count.odo.a.since = some t0) (hpaired : s.count.odo.paired = false)
    (heng : s.eng.activity = .designing pass) (hup : s.upA .odo = true) (hn : n = s.count.odo.count + 1)
    (hhi : n ≤ 2147483647) :
    let counted := s.accepting .odo { s.count.odo.acceptedA with count := n } t0
    let used := fun (t : State) (c : Int) => ∀ b' ∈ poolOf t.seg.segments, b'.chainage = c → b'.consumed = true
    ∃ t, exec (.filterWindowExpiry (.channelA .odo)) s = .next t
      ∧ t.count = counted.count ∧ t.pos.direction = .forward
      ∧ frameChainage t = frameChainage counted ∧ detectorChainage t = detectorChainage counted
      ∧ (s.cyc.mode = .ready ∨ s.cyc.mode = .halted → t.slp = s.slp)
      ∧ (detectorChainage counted = detectorChainage s → s.cyc.mode = .paused → t.slp = s.slp)
      ∧ (detectorChainage counted ≠ detectorChainage s → s.cyc.mode = .paused →
        ((∀ b ∈ poolOf s.seg.segments, ¬ counted.passes b) → t.slp = s.slp)
          ∧ (s.slp.detection = none → ∀ b ∈ poolOf t.seg.segments, ¬ counted.passes b)
          ∧ ∀ before g after, s.seg.segments = before ++ g :: after → ∀ b ∈ g.bearers, counted.passes b →
            s.WindowSound → (∀ b' ∈ poolOf s.seg.segments, counted.passes b' → b' = b) →
            (∀ a, s.slp.detection = some a → s.slp.held = [] → t.slp = { s.slp with held := [b.chainage] })
              ∧ (s.slp.detection = none → (∀ h, s.slp.highWater = some h → h + s.params.p33 < b.chainage) →
                s.slp.records.length < 16 →
                used t b.chainage ∧ t.slp = s.slp.entered (s.plannedRecord g b))
              ∧ (s.slp.detection = none → (∃ h, s.slp.highWater = some h ∧ b.chainage ≤ h + s.params.p33) →
                used t b.chainage ∧ t.slp = s.slp)
              ∧ (s.slp.detection = none → (∀ h, s.slp.highWater = some h → h + s.params.p33 < b.chainage) →
                s.slp.records.length = 16 →
                used t b.chainage ∧ t.slp = s.slp ∧ flagIn .queueOverrun t.cond.flags = true)) := by
  intro counted used
  have hbusy : counted.eng.activity ≠ .idle := by
    show s.eng.activity ≠ .idle
    rw [heng]
    exact nofun
  have hfixed := odoMoved_forward (s.accepting .odo s.count.odo.acceptedA t0) counted
  have hquiet (h : s.cyc.mode ≠ .work) :=
    odoMoved_quiet (s := counted) (before := s.accepting .odo s.count.odo.acceptedA t0) h hbusy
  refine ⟨_, exec_odoUp hpower hpaired hsince hup hn hhi, ?_⟩
  generalize odoMoved true (s.accepting .odo s.count.odo.acceptedA t0) counted = t at hfixed hquiet
  have hframe : frameChainage (arbitrate t) = frameChainage t := by rw [arbitrate_eq]; rfl
  have hdetector : detectorChainage (arbitrate t) = detectorChainage t := by rw [arbitrate_eq]; rfl
  rw [hframe, hdetector, arbitrate_count, arbitrate_pos, arbitrate_slp, arbitrate_seg, arbitrate_cond]
  have hmoved (h : detectorChainage counted ≠ detectorChainage s) :
      counted.passing (s.accepting .odo s.count.odo.acceptedA t0)
        = judgePassing counted.forwarded := if_pos h
  have hcount := count_of_fixed hfixed
  have hdirection := direction_of_fixed hfixed
  refine ⟨hcount, hdirection, (frameChainage_of_fixed hfixed).trans rfl,
    (detectorChainage_of_fixed hfixed).trans rfl, fun hmode => ?_, fun hstands hmode => ?_, fun hmoves hmode => ?_⟩
  · have hnot : s.cyc.mode ≠ .work := by rcases hmode with h | h <;> rw [h] <;> decide
    have hpaused : s.cyc.mode ≠ .paused := by rcases hmode with h | h <;> rw [h] <;> decide
    have hclosed : takesEntries counted.forwarded = false := takesEntries_closed hnot hpaused
    rw [(hquiet hnot).1, State.passing]
    split
    · rw [judgePassing_closed hclosed]
      rfl
    · rfl
  · have hnot : s.cyc.mode ≠ .work := by rw [hmode]; decide
    have hsame : counted.passing (s.accepting .odo s.count.odo.acceptedA t0)
        = counted.forwarded := if_neg (not_not_intro hstands)
    rw [(hquiet hnot).1, hsame]
    rfl
  · have hnot : s.cyc.mode ≠ .work := by rw [hmode]; decide
    obtain ⟨hslp, hseg, hcond⟩ := hquiet hnot
    rw [hmoved hmoves] at hslp hseg hcond
    have husedOf {c : Int} {x : State} (hx : x.seg.segments = (judgePassing counted.forwarded).seg.segments)
        (h : ∀ b' ∈ poolOf x.seg.segments, b'.chainage = c → b'.consumed = true) :
        used (arbitrate t) c := fun b' hb' hc => by
      rw [arbitrate_seg] at hb'
      exact h b' (by rw [hx]; exact poolOf_suffix hseg hb') hc
    refine ⟨fun hnone => ?_, fun hdet b hb => ?_, fun before g after hsegs b hb hpass hsound hone => ?_⟩
    · rw [hslp, judgePassing_none (s := counted.forwarded) hmode hnone]
      rfl
    · exact judgePassing_all (s := counted.forwarded) hmode hbusy hdet b
        (poolOf_suffix hseg hb)
    · have hmem : g ∈ s.seg.segments := by rw [hsegs]; simp
      have hpassed := passedBearers_one (s := counted.forwarded)
        (hsound.of_outline (t := counted.forwarded) rfl) hmem hb hpass hone
      have hjudged (hdet : s.slp.detection = none) :=
        judgePassing_one (s := counted.forwarded) hmode hdet hpassed
      have hused := judgePlanned_used (s := counted.forwarded)
        (g := g) (b := b) hnot hbusy
      refine ⟨fun a hdet hheld => ?_, fun hdet hfar hroom => ?_, fun hdet hclose => ?_, fun hdet hfar hfull => ?_⟩
      · have hheld' : counted.forwarded.slp.held = [] := hheld
        rw [hslp, judgePassing_held (s := counted.forwarded) hmode hdet,
          hpassed]
        dsimp only
        rw [hheld']
        rfl
      · obtain ⟨hentered, -⟩ := judgePlanned_entered
          (s := counted.forwarded) (g := g) hnot hbusy hfar hroom
        exact ⟨husedOf (by rw [hjudged hdet]) hused, by rw [hslp, hjudged hdet, hentered]; rfl⟩
      · refine ⟨husedOf (by rw [hjudged hdet]) hused, ?_⟩
        rw [hslp, hjudged hdet, judgePlanned_close (s := counted.forwarded) hclose]
        rfl
      · have hflag := judgePlanned_full (s := counted.forwarded) (g := g)
          hnot hfar (le_of_eq hfull.symm)
        refine ⟨husedOf (by rw [hjudged hdet]) hused, ?_, ?_⟩
        · rw [hslp, hjudged hdet, hflag, setFlag_slp]
          rfl
        · rw [hcond, hjudged hdet, hflag]
          exact (flagIn_setFlag _ _ _).trans (by simp)

/-- The second part of O30: the close of a detection that held a bearer. -/
theorem held_judged (s : State) (t0 : Nat) (a : Int) (pass : DesignPass) (b : Bearer)
    (hpower : s.powered = true) (hsince : s.count.detector.since = some t0) (hlow : s.count.detector.present = s.params.p39low)
    (hmode : s.cyc.mode = .paused) (hforward : s.pos.direction = .forward) (heng : s.eng.activity = .designing pass)
    (hdet : s.slp.detection = some a) (hheld : s.slp.held = [b.chainage]) (hsound : s.WindowSound)
    (hb : b ∈ poolOf s.seg.segments) (hwaits : b.consumed = false)
    (hwidth : detectorChainage s - a < s.params.p34min ∨ s.params.p34max < detectorChainage s - a)
    (hfar : ∀ h, s.slp.highWater = some h → h + s.params.p33 < b.chainage) (hroom : s.slp.records.length < 16) :
    ∃ t, exec (.filterWindowExpiry .detector) s = .next t ∧ t.slp.detection = none ∧ t.slp.held = []
      ∧ t.slp.highWater = some b.chainage ∧ t.slp.records.length = s.slp.records.length + 1
      ∧ flagIn .detectReject t.cond.flags = true := by
  obtain ⟨g, hg, hbg⟩ := mem_poolOf.mp hb
  have hnot : s.cyc.mode ≠ .work := by rw [hmode]; decide
  have hout : widthOk (detectorChainage s - a) (s.detectionClosed t0).params = false := by
    refine decide_eq_false fun h => ?_
    obtain ⟨hmin, hmax⟩ := h
    rcases hwidth with hlower | hhigher
    · exact absurd hmin (not_le.mpr hlower)
    · exact absurd hmax (not_le.mpr hhigher)
  have hrejected : judgeDetection a (detectorChainage s) (s.detectionClosed t0)
      = setFlag .detectReject (s.detectionClosed t0) := by
    unfold judgeDetection
    dsimp only
    rw [if_neg (by rw [hout]; decide), raiseFlag_of_not_work (s := s.detectionClosed t0) hnot]
  have hset := Settled.setFlag .detectReject (s.detectionClosed t0)
  have hsegs : (setFlag .detectReject (s.detectionClosed t0)).seg = s.seg := congrArg Beyond.seg (setFlag_beyond _ _)
  have hflag : flagIn .detectReject (setFlag .detectReject (s.detectionClosed t0)).cond.flags = true :=
    (flagIn_setFlag _ _ _).trans (by simp)
  rw [exec_closing hpower hsince hlow (.inr hmode) hforward hdet, hrejected]
  generalize setFlag Flag.detectReject (s.detectionClosed t0) = x at hset hsegs hflag
  have hxmode : x.cyc.mode = .paused := by rw [hset.cyc]; exact hmode
  have hxheld : x.slp.held = [b.chainage] := by rw [hset.slp]; exact hheld
  have hfound : ((waitingBearers x.seg.segments).filter fun y => x.slp.held.contains y.2.chainage) = [(g, b)] := by
    rw [hsegs, hxheld]
    refine eq_singleton_of_ascending ((waitingBearers_ascending hsound).sublist List.filter_sublist)
      (List.mem_filter.mpr ⟨mem_waitingBearers.mpr ⟨hg, hbg, hwaits⟩, by simp⟩) fun y hy => ?_
    have hin := (List.mem_filter.mp hy).2
    simpa using hin
  have hjudged : judgeHeld x = judgePlanned g b { x with slp := { x.slp with held := [] } } := by
    unfold judgeHeld
    dsimp only
    rw [hfound]
    exact judgeInTurn_cons _ _ (takesEntries_paused (s := { x with slp := { x.slp with held := [] } }) hxmode)
  have hparams : x.params = s.params := (params_of_fixed hset.fixed).trans rfl
  obtain ⟨hslp, hflags⟩ := judgePlanned_entered (s := { x with slp := { x.slp with held := [] } }) (g := g) (b := b)
    (by rw [hxmode]; decide) (by
      rw [hset.eng]
      show s.eng.activity ≠ .idle
      rw [heng]
      exact nofun)
    (by
      dsimp only
      rw [hparams, hset.slp]
      exact hfar)
    (by
      dsimp only
      rw [hset.slp]
      exact hroom)
  refine ⟨_, rfl, ?_⟩
  rw [arbitrate_slp, arbitrate_cond, hjudged]
  have hdetection : x.slp.detection = none := by rw [hset.slp]; rfl
  have hrecords : x.slp.records = s.slp.records := by rw [hset.slp]; rfl
  refine ⟨by rw [hslp]; exact hdetection, by rw [hslp]; rfl, by rw [hslp]; rfl, ?_, hflags _ hflag⟩
  rw [hslp, ← hrecords]
  exact List.length_append

end Sys2Proof.Machine
end


section
/-! ### The bearers at an append, and the whole of O30 -/

namespace Sys2Proof.Machine

section append
variable {s : State} {body : SegmentBody}

theorem takeAppend_taken (h : appendRefusal body s = none) : takeAppend body s
    = accepted (afterAppend (appendSegment body s))
        (appendReply (heldSegment (appendStart body s.seg.segments) body) (appendSegment body s)) := by
  unfold takeAppend
  split
  · next h' => cases h.symm.trans h'
  · exact Eq.refl _

theorem takeAppend_refused {status : Status} (h : appendRefusal body s = some status) :
    takeAppend body s = refusedWith status s := by
  unfold takeAppend
  split
  · next h' =>
    cases h.symm.trans h'
    exact Eq.refl _
  · next h' => cases h.symm.trans h'

/-- Outside WORK no block acts on an append but the look-ahead, the passing of bearers and the engine. -/
theorem afterAppend_of_not_work (h : s.cyc.mode ≠ .work) :
    afterAppend s = seek (judgeEngine (judgePassing (judgeLookAhead true s))) := by
  have hmode : (judgeLookAhead true s).cyc.mode ≠ .work := by
    rw [judgeLookAhead_eq]
    exact h
  rw [afterAppend, judgeStarved_of_not_work hmode, actOnStop_of_not_work hmode]

theorem afterAppend_paused (hmode : s.cyc.mode = .paused) (hbusy : s.eng.activity ≠ .idle) :
    afterAppend s = judgePassing (judgeLookAhead true s) := by
  have hcyc : (judgeLookAhead true s).cyc = s.cyc := by rw [judgeLookAhead_eq]
  have heng : (judgeLookAhead true s).eng = s.eng := by rw [judgeLookAhead_eq]
  have hconsumed := judgePassing_consumed (s := judgeLookAhead true s) (by rw [hcyc]; exact hmode) (by rw [heng]; exact hbusy)
  rw [afterAppend_of_not_work (by rw [hmode]; decide), judgeEngine_busy (by rw [hconsumed.eng, heng]; exact hbusy),
    seek_of_not_work (by rw [hconsumed.cyc, hcyc, hmode]; decide)]

end append

/-- The third part of O30: an append in PAUSED. -/
theorem append_passes (s : State) (dt : Nat) (tag : Byte) (body : SegmentBody) (pass : DesignPass) (hs : s.Listens)
    (hmode : s.cyc.mode = .paused) (hdet : s.slp.detection = none) (heng : s.eng.activity = .designing pass)
    (hbody : appendRefusal body s = none) :
    ∃ t, exec (.segmentAppend dt tag body) s = .next t
      ∧ ∀ b ∈ poolOf t.seg.segments, b.chainage + s.params.p35 ≤ detectorChainage s → b.consumed = true := by
  have hbusy : s.eng.activity ≠ .idle := by
    rw [heng]
    exact nofun
  let added := appendSegment body (s.arriving dt 0x05 tag (.segmentAppend body))
  have hlook : (judgeLookAhead true added).cyc = s.cyc ∧ (judgeLookAhead true added).eng = s.eng
      ∧ (judgeLookAhead true added).slp = s.slp ∧ (judgeLookAhead true added).kept.fixed = added.kept.fixed := by
    rw [judgeLookAhead_eq]
    exact ⟨rfl, rfl, rfl, rfl⟩
  obtain ⟨hcyc, heng', hslp, hfixed⟩ := hlook
  have hall := judgePassing_all (s := judgeLookAhead true added) (by rw [hcyc]; exact hmode) (by rw [heng']; exact hbusy)
    (by rw [hslp]; exact hdet)
  have hpassing : (judgePassing (judgeLookAhead true added)).kept.fixed = added.kept.fixed :=
    (judgePassing_fixed _).trans hfixed
  have htaken := (takeAppend_taken (s := s.arriving dt 0x05 tag (.segmentAppend body)) (body := body) hbody).trans
    (congrArg (fun x => accepted x _) (afterAppend_paused (s := added) hmode hbusy))
  refine ⟨_, congrArg Host.Outcome.next (request_answered_fixed (r := .segmentAppend body) hs htaken hpassing), ?_⟩
  intro b hb hbehind
  refine Bool.not_eq_false _ ▸ fun hwaits => hall b hb ⟨hwaits, ?_⟩
  have hparams := params_of_fixed hfixed
  have hdetector : detectorChainage (judgeLookAhead true added) = detectorChainage s :=
    (detectorChainage_of_fixed hfixed).trans rfl
  rw [hparams, hdetector]
  exact hbehind

/-- Settles O30: a count, the close of a detection, and an append. -/
theorem plannedBearersEnter : Obligations.PlannedBearersEnter := by
  refine ⟨?_, held_judged, append_passes⟩
  intro s t0 n pass hpower hsince hpaired heng ch hup hn hhi counted passed used
  exact bearers_passed s t0 n pass hpower hsince hpaired heng hup hn hhi

end Sys2Proof.Machine
end


section
/-! ### A design pass over a window in disorder (O32)

The statement reads the queue start after the command and asks for no sound window. Where the first segment of a
window starts above the second, the judgement of R83 can find the oldest QUEUED record not covered from the rear and
skip it with NO_COVER; the retirement that follows takes that first segment, and the queue start comes to lie below
the record's span again. No run of the model reaches such a window. -/

namespace Sys2Proof.Machine

/-- A record of the default plan with nothing written. -/
def bareRecord (seq : Nat) (c : Int) (st : RecordState) : Sleeper :=
  ⟨seq, c, none, .detected, none, st, false, 0, none, none, none⟩

/-- A straight, level segment without bearers. -/
def bareSegment (id : Nat) (start length : Int) : Segment :=
  ⟨id, start, length, 0, 0, 0, 0, 0, 0, .left, none, false, []⟩

/-- A design pass of record 12. -/
def disorderedPass : DesignPass := ⟨12, 0, ⟨12000, 4800, 9600, 4800⟩, [], ⟨⟨0, 1⟩, ⟨0, 1⟩, ⟨0, 1⟩, ⟨0, 1⟩⟩⟩

/-- Record 12 in design with record 1 QUEUED at -100 m, whose span begins at -104,800; the first segment starts 1 mm
above that, the second 200 mm below it. -/
def disordered : State :=
  { State.reset with
    seg := ⟨[bareSegment 1 (-104799) 1, bareSegment 2 (-105000) 1000000], false, false⟩
    slp := { State.reset.slp with records := [bareRecord 1 (-100000) .queued, bareRecord 12 0 .queued] }
    eng := ⟨.designing disorderedPass, none⟩ }

/-- The state an outcome comes to, where it is one. -/
def landing (o : Host.Outcome State Fault Refusal) : Option State :=
  match o with
  | .next t => some t
  | _ => none

/-- The completion of the pass skips record 1 and leaves the engine IDLE, the second segment first in the queue. -/
theorem disordered_completed :
    (landing (exec (.designPassComplete 0) disordered)).map
        (fun t => (t.eng, t.seg.segments.head?.map (·.start), queueEnd t.seg.segments))
      = some (⟨.idle, none⟩, some (-105000), some 895000) := by decide +kernel

/-- Refutes O32: the statement has record 1 in design, since its span is covered by the segments that are left. -/
theorem not_designPassWritten : ¬ Obligations.DesignPassWritten := by
  intro h
  obtain ⟨t, hexec, -, -, -, -, hnext, -⟩ := h disordered 0 disorderedPass (bareRecord 12 0 .queued) rfl rfl
    (fun hmode => absurd hmode (by decide)) (by decide) rfl rfl (by decide)
  have hfound := disordered_completed
  rw [hexec] at hfound
  obtain ⟨heng, hstart, hend⟩ : t.eng = ⟨.idle, none⟩ ∧ t.seg.segments.head?.map (·.start) = some (-105000)
      ∧ queueEnd t.seg.segments = some 895000 := by simpa [landing] using hfound
  have hdesigning := (hnext [] (bareRecord 1 (-100000) .queued) [bareRecord 12 0 .queued] rfl rfl rfl (by decide) (by simp)
    (-105000) 895000 hstart hend).1 (by decide) (by decide)
  rw [heng] at hdesigning
  cases hdesigning

end Sys2Proof.Machine
end


section
/-! ### The completion of a target pass (O33) -/

namespace Sys2Proof.Machine

/-! #### The start of an axis (R107) -/

/-- An axis that has taken a start order on a reading: in HOLD where the reading is in the band, else MOVING. -/
def startedAxis (a : AxisId) (vt vm : Int) (p : Params) (now : Nat) (x : Axis) : Axis :=
  let begun := { x with started := true, target := some vt, latched := some (axisLatch a p) }
  if inBand a vt (axisLatch a p).deadband vm then
    { begun with
      state := .hold, stage := none, motion := none, settle := none, outcome := some .reached
      overshoot := if a = .line then x.overshoot else some (max 0 (vt - vm)) }
  else
    { begun with
      state := .moving, stage := some .driving, motion := some ⟨(axisLatch a p).timeout, now⟩
      lastDir := if a = .line then some (wantedDir vt vm) else none }

section start
variable {s : State} {a : AxisId} {vt vm : Int}

/-- The start order taken, with a reading. -/
theorem startAxis_axes (htakes : (s.axes.get a).state = .idle ∧ (s.axes.get a).started = false)
    (hreading : axisReading a s = some vm) :
    (startAxis a vt s).axes = s.axes.set a (startedAxis a vt vm s.params s.clock (s.axes.get a)) := by
  have htake : takesStart (s.axes.get a) = true := by simp [takesStart, htakes]
  unfold startAxis startedAxis
  dsimp only
  rw [if_pos htake, hreading]
  dsimp only
  split
  · have hmeasured : measuredOvershoot a (s.modAxis a fun x =>
        { x with started := true, target := some vt, latched := some (axisLatch a s.params) })
        = if a = .line then (s.axes.get a).overshoot else some (max 0 (vt - vm)) := by
      have hread : axisReading a (s.modAxis a fun x =>
          { x with started := true, target := some vt, latched := some (axisLatch a s.params) }) = some vm := hreading
      rw [measuredOvershoot, hread, State.modAxis_axes, Three.get_set]
      rfl
    rw [enterHold_held, heldAxis, hmeasured, State.modAxis_axes, Three.get_set, Three.set_set]
  · have hdriving (dir : Option LineDir) : (enterDriving a dir (s.modAxis a fun x =>
        { x with started := true, target := some vt, latched := some (axisLatch a s.params) })).axes
        = s.axes.set a { s.axes.get a with
            started := true, target := some vt, latched := some (axisLatch a s.params)
            state := .moving, stage := some .driving, motion := some ⟨(axisLatch a s.params).timeout, s.clock⟩
            lastDir := dir } := by
      rw [enterDriving, State.modAxis_axes, State.modAxis_axes, Three.get_set, Three.set_set]
      rfl
    cases a with
    | line => exact hdriving _
    | liftL => exact hdriving _
    | liftR => exact hdriving _

theorem startAxis_get (htakes : (s.axes.get a).state = .idle ∧ (s.axes.get a).started = false)
    (hreading : axisReading a s = some vm) :
    (startAxis a vt s).axes.get a = startedAxis a vt vm s.params s.clock (s.axes.get a) := by
  rw [startAxis_axes htakes hreading, Three.get_set]

theorem startAxis_get_ne {b : AxisId} (hne : b ≠ a) (htakes : (s.axes.get a).state = .idle ∧ (s.axes.get a).started = false)
    (hreading : axisReading a s = some vm) : (startAxis a vt s).axes.get b = s.axes.get b := by
  rw [startAxis_axes htakes hreading, Three.get_set_ne _ _ hne]

/-- The target versine of an axis in a target part. -/
def versineOf (t : TargetPart) : AxisId → Int
  | .liftL => t.vtL
  | .liftR => t.vtR
  | .line => t.vtLat

theorem startAxes_acted (t : TargetPart) (s : State) : Acted s (startAxes t s) :=
  ((Acted.startAxis .liftL t.vtL s).trans (Acted.startAxis .liftR t.vtR _)).trans (Acted.startAxis .line t.vtLat _)

/-- The three starts, each on its own reading. -/
theorem startAxes_get {t : TargetPart} (hidle : ∀ a, (s.axes.get a).state = .idle ∧ (s.axes.get a).started = false)
    {v : AxisId → Int} (hreading : ∀ a, axisReading a s = some (v a)) (a : AxisId) :
    (startAxes t s).axes.get a = startedAxis a (versineOf t a) (v a) s.params s.clock (s.axes.get a) := by
  have hkept1 : (startAxis .liftL t.vtL s).kept = s.kept := startAxis_kept _ _ _
  have hkept2 : (startAxis .liftR t.vtR (startAxis .liftL t.vtL s)).kept = s.kept := (startAxis_kept _ _ _).trans hkept1
  have hread1 (a : AxisId) : axisReading a (startAxis .liftL t.vtL s) = some (v a) :=
    (axisReading_of_kept hkept1).trans (hreading a)
  have hread2 (a : AxisId) : axisReading a (startAxis .liftR t.vtR (startAxis .liftL t.vtL s)) = some (v a) :=
    (axisReading_of_kept hkept2).trans (hreading a)
  have hpar1 := params_of_fixed (Kept.fixed_eq hkept1)
  have hpar2 := params_of_fixed (Kept.fixed_eq hkept2)
  have hclk1 := clock_of_fixed (Kept.fixed_eq hkept1)
  have hclk2 := clock_of_fixed (Kept.fixed_eq hkept2)
  have hL := startAxis_get (vt := t.vtL) (hidle .liftL) (hreading .liftL)
  have hLR : (startAxis .liftL t.vtL s).axes.get .liftR = s.axes.get .liftR :=
    startAxis_get_ne (by decide) (hidle .liftL) (hreading .liftL)
  have hLV : (startAxis .liftL t.vtL s).axes.get .line = s.axes.get .line :=
    startAxis_get_ne (by decide) (hidle .liftL) (hreading .liftL)
  have hR := startAxis_get (vt := t.vtR) (by rw [hLR]; exact hidle .liftR) (hread1 .liftR)
  have hRne {b : AxisId} (hb : b ≠ .liftR) := startAxis_get_ne (vt := t.vtR) hb (by rw [hLR]; exact hidle .liftR) (hread1 .liftR)
  have hidleV : ((startAxis .liftR t.vtR (startAxis .liftL t.vtL s)).axes.get .line).state = .idle
      ∧ ((startAxis .liftR t.vtR (startAxis .liftL t.vtL s)).axes.get .line).started = false := by
    rw [hRne (by decide), hLV]
    exact hidle .line
  have hV := startAxis_get (vt := t.vtLat) hidleV (hread2 .line)
  have hVne {b : AxisId} (hb : b ≠ .line) := startAxis_get_ne (vt := t.vtLat) hb hidleV (hread2 .line)
  unfold startAxes
  cases a with
  | liftL => rw [hVne (by decide), hRne (by decide), hL]; rfl
  | liftR => rw [hVne (by decide), hR, hLR, hpar1, hclk1]; rfl
  | line => rw [hV, hRne (by decide), hLV, hpar2, hclk2]; rfl

theorem startedAxis_not_cut (p : Params) (now : Nat) (x : Axis) :
    ¬ ((startedAxis a vt vm p now x).state = .hold ∧ (startedAxis a vt vm p now x).outcome = some .cut) := by
  unfold startedAxis
  dsimp only
  split
  · exact fun h => by cases h.2
  · exact fun h => by cases h.1

/-- With its readings present no axis is CUT at its start. -/
theorem reportStartCuts_none (h : ∀ a, ¬ ((s.axes.get a).state = .hold ∧ (s.axes.get a).outcome = some .cut)) :
    reportStartCuts s = s := by
  have hnone : (allAxes.filter fun a => decide ((s.axes.get a).state = .hold ∧ (s.axes.get a).outcome = some .cut)) = [] :=
    List.filter_eq_nil_iff.mpr fun a _ => by simpa using h a
  unfold reportStartCuts
  dsimp only
  rw [hnone]
  rfl

end start

/-! #### A unit in its train as the gate opens -/

section train
variable {s : State} {u : UnitId}

theorem seePressure_inTrain (h : inTrain (s.heads.get u).state = true) :
    inTrain ((seePressure u s).heads.get u).state = true := by
  unfold seePressure
  dsimp only
  split
  · split
    · unfold endPhase enterOpening
      dsimp only
      split
      · simp [inTrain]
      · rw [recordFlag_head]
        simp [inTrain]
    · simpa using h
  · exact h

theorem judgeGate_inTrain (v : UnitId) (h : inTrain (s.heads.get u).state = true) :
    inTrain ((judgeGate v s).heads.get u).state = true := by
  by_cases huv : u = v
  · subst huv
    unfold judgeGate
    split
    · unfold enterSqueezing
      dsimp only
      split
      · exact seePressure_inTrain (by simp [inTrain])
      · simp [inTrain]
    · exact h
  · rw [judgeGate_other huv]
    exact h

theorem openGate_inTrain (h : inTrain (s.heads.get u).state = true) : inTrain ((openGate s).heads.get u).state = true :=
  List.foldlRecOn (motive := fun t => inTrain (t.heads.get u).state = true) allUnits (fun s u => judgeGate u s) h
    fun _ ht v _ => judgeGate_inTrain v ht

/-- A unit of the active set in its train keeps the phase WORKING. -/
theorem judgeRelease_waits {active : UnitSet} (hactive : s.cyc.active = some active) (hin : unitIn u active = true)
    (htrain : inTrain (s.heads.get u).state = true) : judgeRelease s = s := by
  have hnot : releaseCondition s = false := by
    refine Bool.eq_false_iff.mpr fun h => ?_
    have hu := List.all_eq_true.mp h u (mem_allUnits u)
    simp [hactive, hin, htrain] at hu
  exact if_neg fun h => by
    rw [hnot] at h
    exact Bool.false_ne_true h.2.2

end train

/-! #### The engine with a record in work -/

/-- Where the first unfinished record is not QUEUED no record is skipped: the engine judges in its own part alone. -/
theorem judgeEngine_own {s : State} {r : Sleeper} (hfirst : firstUnfinished s = some r) (hstate : r.state ≠ .queued) :
    ∃ e, judgeEngine s = { s with eng := e } := by
  unfold judgeEngine engineLoop
  split
  · unfold beginTarget
    split <;> exact ⟨_, rfl⟩
  · split
    · exact ⟨s.eng, rfl⟩
    · exact ⟨_, rfl⟩
    · next q hskip =>
      exfalso
      unfold judgeDesign at hskip
      split at hskip
      · next x _ _ holdest _ _ =>
        have hqueued := List.find?_some holdest
        split at hskip
        · split at hskip
          · next hx =>
            rw [hfirst] at hx
            cases hx
            exact hstate (of_decide_eq_true hqueued)
          · cases hskip
        · split at hskip <;> cases hskip
      · cases hskip
  · exact ⟨s.eng, rfl⟩

/-! #### The record in work -/

/-- The first unfinished record of a state is a record IN_WORK with the given parts, and holds the given flags. -/
def WorksOn (r : Sleeper) (target : Option TargetPart) (flags : List Flag) (t : State) : Prop :=
  ∃ r', firstUnfinished t = some r' ∧ r'.seq = r.seq ∧ r'.chainage = r.chainage ∧ r'.state = .inWork ∧ r'.design = r.design
    ∧ r'.target = target ∧ ∀ f ∈ flags, flagIn f r'.flags = true

section works
variable {s t : State} {r : Sleeper} {target : Option TargetPart} {flags : List Flag}

/-- A change of the records that leaves their states alone leaves the first unfinished one first. -/
theorem firstUnfinished_map {f : Sleeper → Sleeper} (h : t.slp.records = s.slp.records.map f)
    (hf : ∀ r, (f r).state = r.state) : firstUnfinished t = (firstUnfinished s).map f := by
  unfold firstUnfinished
  rw [h, List.find?_map]
  congr 2
  funext r
  simp [hf r]

theorem WorksOn.of_slp (h : WorksOn r target flags s) (hslp : t.slp = s.slp) : WorksOn r target flags t := by
  unfold WorksOn firstUnfinished at h ⊢
  rw [hslp]
  exact h

theorem WorksOn.recordFlag (h : WorksOn r target flags s) (f : Flag) : WorksOn r target (f :: flags) (recordFlag f s) := by
  obtain ⟨r', hfirst, hseq, hchain, hstate, hdesign, htarget, hflags⟩ := h
  refine WorksOn.of_slp (s := addRecordFlag f s) ?_ (setFlag_slp f _)
  have hmap := firstUnfinished_map (s := s) (t := addRecordFlag f s) rfl fun r => by split <;> rfl
  rw [hfirst, Option.map_some, if_pos hstate] at hmap
  refine ⟨_, hmap, hseq, hchain, hstate, hdesign, htarget, fun g hg => ?_⟩
  rw [flagIn_flagAdd]
  rcases List.mem_cons.mp hg with rfl | hg
  · simp
  · rw [hflags g hg, Bool.or_true]

theorem WorksOn.weaken {flags' : List Flag} (h : WorksOn r target flags s) (hsub : ∀ f ∈ flags', f ∈ flags) :
    WorksOn r target flags' s := by
  obtain ⟨r', hfirst, hseq, hchain, hstate, hdesign, htarget, hflags⟩ := h
  exact ⟨r', hfirst, hseq, hchain, hstate, hdesign, htarget, fun f hf => hflags f (hsub f hf)⟩

theorem WorksOn.of_acted (h : WorksOn r target flags s) (hacted : Acted s t) : WorksOn r target flags t := by
  induction hacted with
  | refl => exact h
  | axis _ _ _ ih => exact ih
  | head _ _ _ ih => exact ih
  | flag f _ ih => exact ih.of_slp (setFlag_slp f _)
  | record f _ ih => exact (ih.recordFlag f).weaken fun _ => List.mem_cons_of_mem f

/-- The flags of a target pass enter the record in work and the flag set (R88). -/
theorem recordFlags_works (l : List Flag) (h : WorksOn r target flags s) :
    WorksOn r target (l ++ flags) (l.foldl (fun s f => recordFlag f s) s)
      ∧ (∀ f ∈ l, flagIn f (l.foldl (fun s f => recordFlag f s) s).cond.flags = true)
      ∧ Acted s (l.foldl (fun s f => recordFlag f s) s) := by
  induction l generalizing s flags with
  | nil => exact ⟨h, fun f hf => absurd hf List.not_mem_nil, .refl s⟩
  | cons g l ih =>
    obtain ⟨hworks, hflags, hacted⟩ := ih (h.recordFlag g)
    refine ⟨hworks.weaken fun f hf => ?_, fun f hf => ?_, ((Acted.refl s).record g).trans hacted⟩
    · simp only [List.cons_append, List.mem_cons, List.mem_append] at hf ⊢
      tauto
    · rcases List.mem_cons.mp hf with rfl | hf
      · exact hacted.flagIn (flagIn_recordFlag _ _)
      · exact hflags f hf

end works

end Sys2Proof.Machine
end


section
namespace Sys2Proof.Machine

/-! #### The started axes, field by field -/

section started
variable (a : AxisId) (vt vm : Int) (p : Params) (now : Nat) (x : Axis)

theorem startedAxis_order : (startedAxis a vt vm p now x).started = true ∧ (startedAxis a vt vm p now x).target = some vt
    ∧ (startedAxis a vt vm p now x).latched = some (axisLatch a p) := by
  unfold startedAxis
  dsimp only
  split <;> exact ⟨rfl, rfl, rfl⟩

theorem startedAxis_in (h : inBand a vt (axisLatch a p).deadband vm = true) :
    (startedAxis a vt vm p now x).state = .hold ∧ (startedAxis a vt vm p now x).outcome = some .reached
      ∧ (startedAxis a vt vm p now x).motion = none
      ∧ (a ≠ .line → (startedAxis a vt vm p now x).overshoot = some (max 0 (vt - vm))) := by
  unfold startedAxis
  dsimp only
  rw [if_pos h]
  exact ⟨rfl, rfl, rfl, fun ha => if_neg ha⟩

theorem startedAxis_out (h : inBand a vt (axisLatch a p).deadband vm = false) :
    (startedAxis a vt vm p now x).state = .moving ∧ (startedAxis a vt vm p now x).stage = some .driving
      ∧ (startedAxis a vt vm p now x).motion = some ⟨(axisLatch a p).timeout, now⟩
      ∧ (a = .line → (startedAxis a vt vm p now x).lastDir = some (wantedDir vt vm)) := by
  unfold startedAxis
  dsimp only
  rw [if_neg (by rw [h]; decide)]
  exact ⟨rfl, rfl, rfl, fun ha => if_pos ha⟩

end started

/-! #### The completion -/

/-- With a record in work the engine judges in its own part alone. -/
theorem WorksOn.judgeEngine_eq {t : State} {r : Sleeper} {target : Option TargetPart} {flags : List Flag}
    (h : WorksOn r target flags t) : ∃ e, judgeEngine t = { t with eng := e } := by
  obtain ⟨r', hfirst, -, -, hstate, -⟩ := h
  exact judgeEngine_own hfirst (by rw [hstate]; decide)

section complete
variable {s : State} {p : TargetPass} {r : Sleeper} {active : UnitSet}

/-- The record and the engine as the pass leaves them, and the phase WORKING. -/
def State.targetWritten (s : State) (p : TargetPass) : State := setPhase .working (writeTarget p (dropPass s))

/-- What writing a target pass leaves (R88). -/
theorem targetWritten_leaves (hfirst : firstUnfinished s = some r) (hseq : r.seq = p.seq) (hstate : r.state = .inWork) :
    WorksOn r (some (targetPart p).1) (targetPart p).2 (s.targetWritten p)
      ∧ (∀ f ∈ (targetPart p).2, flagIn f (s.targetWritten p).cond.flags = true)
      ∧ (s.targetWritten p).cyc = { s.cyc with phase := .working }
      ∧ (s.targetWritten p).axes = s.axes ∧ (s.targetWritten p).heads = s.heads
      ∧ (s.targetWritten p).kept = s.kept := by
  let modded := modRecord p.seq (fun r => { r with target := some (targetPart p).1 }) (dropPass s)
  have hmodded : WorksOn r (some (targetPart p).1) [] modded := by
    have hmap := firstUnfinished_map (s := s) (t := modded) rfl fun r => by split <;> rfl
    rw [hfirst, Option.map_some, if_pos (by simp [hstate, RecordState.finished, hseq])] at hmap
    exact ⟨_, hmap, rfl, rfl, hstate, rfl, rfl, fun f hf => absurd hf List.not_mem_nil⟩
  have hkept : modded.kept = s.kept := modRecord_kept p.seq _ (dropPass s) fun _ => ⟨rfl, rfl, rfl⟩
  obtain ⟨hworks, hflags, hacted⟩ := recordFlags_works (targetPart p).2 hmodded
  have haxes : (writeTarget p (dropPass s)).axes = s.axes :=
    foldl_same State.axes (fun s f => recordFlag f s) (fun s f => recordFlag_axes f s) _ modded
  have hheads : (writeTarget p (dropPass s)).heads = s.heads :=
    foldl_same State.heads (fun s f => recordFlag f s) (fun s f => recordFlag_heads f s) _ modded
  have hcyc : (writeTarget p (dropPass s)).cyc = s.cyc := hacted.cyc
  have hwkept : (writeTarget p (dropPass s)).kept = s.kept := hacted.kept.trans hkept
  rw [List.append_nil] at hworks
  exact ⟨hworks.of_slp (setPhase_slp _ _), fun f hf => flagIn_refreshDemand (hflags f hf),
    (setPhase_cyc _ _).trans (congrArg (fun c : Cycle => { c with phase := .working }) hcyc),
    (refreshDemand_axes _).trans haxes, (refreshDemand_heads _).trans hheads, (setPhase_kept _ _).trans hwkept⟩

/-- The axes started. -/
def State.targetStarted (s : State) (p : TargetPass) : State := startAxes (targetPart p).1 (s.targetWritten p)

/-- The whole completion where no axis is CUT and a unit of the active set is still in its train. -/
theorem completeTarget_eq (hfirst : firstUnfinished s = some r) (hseq : r.seq = p.seq)
    (hstate : r.state = .inWork) (hactive : s.cyc.active = some active)
    (htrain : ∃ u, unitIn u active = true ∧ inTrain (s.heads.get u).state = true)
    (hcut : ∀ a, ¬ (((s.targetStarted p).axes.get a).state = .hold
      ∧ ((s.targetStarted p).axes.get a).outcome = some .cut)) :
    ∃ e, completeTarget p s = { (openGate (s.targetStarted p)).driven with eng := e } := by
  obtain ⟨hworks, -, hcyc, -, hheads, -⟩ := targetWritten_leaves hfirst hseq hstate
  have hacted : Acted (s.targetWritten p) (s.targetStarted p) := startAxes_acted (targetPart p).1 (s.targetWritten p)
  have hsheads : (s.targetStarted p).heads = (s.targetWritten p).heads :=
    (startAxis_heads _ _ _).trans ((startAxis_heads _ _ _).trans (startAxis_heads _ _ _))
  have hunfold : completeTarget p s = seek (judgeEngine (judgeRelease (afterAxis (reportStartCuts (s.targetStarted p))))) := rfl
  rw [hunfold, reportStartCuts_none hcut]
  generalize s.targetStarted p = x at hacted hsheads
  generalize s.targetWritten p = w at *
  obtain ⟨u, hin, hu⟩ := htrain
  have hgate := hacted.trans (Acted.openGate x)
  have hxcyc := hacted.cyc
  have hgcyc := hgate.cyc
  have hno : x.InWorkOrOut := fun _ => .inr (.inl (by rw [hxcyc, hcyc]))
  have hgworks : WorksOn r (some (targetPart p).1) (targetPart p).2 (openGate x).driven :=
    (hworks.of_acted hgate).of_slp (State.driven_slp (openGate x))
  obtain ⟨e, heng⟩ := hgworks.judgeEngine_eq
  have hgtrain : inTrain ((openGate x).heads.get u).state = true := openGate_inTrain (by rw [hsheads, hheads]; exact hu)
  have hgactive : (openGate x).driven.cyc.active = some active := by
    rw [State.driven_cyc, hgcyc, hcyc]
    exact hactive
  have hwaits : judgeRelease (openGate x).driven = (openGate x).driven :=
    judgeRelease_waits hgactive hin (by rw [State.driven_heads]; exact hgtrain)
  rw [hno.afterAxis_eq, hwaits, heng]
  refine ⟨e, State.InWorkOrOut.seek_eq fun _ => .inr (.inl ?_)⟩
  show (openGate x).cyc.phase = .working
  rw [hgcyc, hcyc]

end complete

/-- Settles O33: the record written, the axes started, and the engine's judgement in its own part. -/
theorem targetPassStartsAxes : Obligations.TargetPassStartsAxes := by
  intro s dt p r active hpower heng hmode hphase hcurrent hfirst hseq hstate hactive htrain hidle lat lvlL lvlR hlat hL hR
    target now
  obtain ⟨hworks, hflags, hcyc, haxes, hheads, hkept⟩ := targetWritten_leaves (s := s.beginAt dt) (p := p) hfirst hseq hstate
  have hexec : exec (.targetPassComplete dt) s = .next (arbitrate (completeTarget p (s.beginAt dt))) := by
    show execTargetPassComplete dt s = _
    rw [execTargetPassComplete, hpower, heng]
  let v : AxisId → Int := fun a => match a with
    | .liftL => lvlL
    | .liftR => lvlR
    | .line => lat
  have hreading (a : AxisId) : axisReading a ((s.beginAt dt).targetWritten p) = some (v a) := by
    refine (axisReading_of_kept hkept).trans ?_
    cases a with
    | liftL => exact hL
    | liftR => exact hR
    | line => exact hlat
  have hparams := params_of_fixed (Kept.fixed_eq hkept)
  have hclock := clock_of_fixed (Kept.fixed_eq hkept)
  have hstarted (a : AxisId) : ((s.beginAt dt).targetStarted p).axes.get a
      = startedAxis a (versineOf target a) (v a) s.params now (s.axes.get a) := by
    have h := startAxes_get (t := (targetPart p).1) (by rw [haxes]; exact hidle) hreading a
    rw [haxes, hparams, hclock] at h
    exact h
  obtain ⟨e, hcomplete⟩ := completeTarget_eq (s := s.beginAt dt) hfirst hseq hstate hactive htrain fun a => by
    rw [hstarted a]
    exact startedAxis_not_cut _ _ _
  have hacted := (startAxes_acted (targetPart p).1 ((s.beginAt dt).targetWritten p)).trans (Acted.openGate _)
  have htcyc := hacted.cyc.trans hcyc
  have htkept := Kept.fixed_eq (hacted.kept.trans hkept)
  have htworks := hworks.of_acted hacted
  have htflags := fun f hf => hacted.flagIn (hflags f hf)
  have htaxes : (openGate ((s.beginAt dt).targetStarted p)).axes = ((s.beginAt dt).targetStarted p).axes := openGate_axes _
  refine ⟨_, hexec, ?_⟩
  rw [hcomplete]
  simp only [arbitrate_cyc, arbitrate_slp, arbitrate_cond, arbitrate_axes, arbitrate_count, arbitrate_params,
    arbitrate_headSet, arbitrate_store, State.driven_axes, State.driven_cyc, State.driven_slp, State.driven_cond]
  have hget (a : AxisId) := (congrArg (fun x => x.get a) htaxes).trans (hstarted a)
  have hunfold : openGate (startAxes (targetPart p).1 ((s.beginAt dt).targetWritten p))
      = openGate ((s.beginAt dt).targetStarted p) := rfl
  rw [hunfold] at htcyc htkept htworks htflags
  generalize openGate ((s.beginAt dt).targetStarted p) = t at *
  obtain ⟨r', hfirst', hparts⟩ := htworks
  have hcount := count_of_fixed htkept
  have hparams' := params_of_fixed htkept
  have hset := headSet_of_fixed htkept
  have hstore := store_of_fixed htkept
  refine ⟨by rw [htcyc]; exact hmode, by rw [htcyc], by rw [htcyc]; rfl, by rw [htcyc]; rfl,
    ⟨r', List.mem_of_find?_eq_some hfirst', ?_⟩, htflags, fun a vt vm ha => ?_, ?_, hcount, hparams', hset, hstore⟩
  · rw [← hseq]
    exact hparts
  · have hlift : a ≠ .line ∧ vt = versineOf target a ∧ vm = v a ∧ axisLatch a s.params = ⟨s.params.p19, s.params.p21, 0⟩ := by
      rcases ha with ⟨rfl, hvt, hvm⟩ | ⟨rfl, hvt, hvm⟩
      · exact ⟨by decide, hvt, hvm, rfl⟩
      · exact ⟨by decide, hvt, hvm, rfl⟩
    obtain ⟨hline, rfl, rfl, hlatch⟩ := hlift
    rw [hget a]
    obtain ⟨hon, htarget, hlatched⟩ := startedAxis_order a (versineOf target a) (v a) s.params now (s.axes.get a)
    refine ⟨hon, htarget, hlatched.trans (congrArg some hlatch), fun hin => ?_, fun hout => ?_⟩
    · obtain ⟨hhold, houtcome, hmotion, hover⟩ := startedAxis_in a (versineOf target a) (v a) s.params now (s.axes.get a)
        ((inBand_iff _ _ _ _).mpr (.inl ⟨hline, by rw [hlatch]; exact hin⟩))
      exact ⟨hhold, houtcome, hmotion, hover hline⟩
    · obtain ⟨hmoving, hstage, hmotion, -⟩ := startedAxis_out a (versineOf target a) (v a) s.params now (s.axes.get a)
        (Bool.eq_false_iff.mpr fun h => by
          rcases (inBand_iff _ _ _ _).mp h with ⟨-, hle⟩ | ⟨hl, -⟩
          · rw [hlatch] at hle
            exact absurd hle (not_le.mpr hout)
          · exact hline hl)
      rw [hlatch] at hmotion
      exact ⟨hmoving, hstage, hmotion⟩
  · have hlineget : t.axes.line = _ := hget .line
    rw [hlineget]
    obtain ⟨hon, htarget, hlatched⟩ := startedAxis_order .line target.vtLat lat s.params now (s.axes.get .line)
    have hmoves (hpos : 0 ≤ s.params.p20) (hout : s.params.p20 < ((lat - target.vtLat).natAbs : Int)) :=
      startedAxis_out .line target.vtLat lat s.params now (s.axes.get .line)
        (Bool.eq_false_iff.mpr fun h => by
          rcases (inBand_iff _ _ _ _).mp h with ⟨hne, -⟩ | ⟨-, hle⟩
          · exact hne rfl
          · exact absurd hle (not_le.mpr hout))
    refine ⟨hon, htarget, hlatched, fun hin => ?_, fun hpos hout => ?_, fun hpos hout => ?_⟩
    · obtain ⟨hhold, houtcome, hmotion, -⟩ := startedAxis_in .line target.vtLat lat s.params now (s.axes.get .line)
        ((inBand_iff _ _ _ _).mpr (.inr ⟨rfl, by
          show ((lat - target.vtLat).natAbs : Int) ≤ s.params.p20
          omega⟩))
      exact ⟨hhold, houtcome, hmotion⟩
    · obtain ⟨hmoving, hstage, hmotion, hdir⟩ := hmoves hpos (by omega)
      exact ⟨hmoving, hstage, (hdir rfl).trans (congrArg some (if_pos (by omega))), hmotion⟩
    · obtain ⟨hmoving, hstage, hmotion, hdir⟩ := hmoves hpos (by omega)
      exact ⟨hmoving, hstage, (hdir rfl).trans (congrArg some (if_neg (by omega))), hmotion⟩

end Sys2Proof.Machine
end


section
/-! ### The loss of a null, block by block (O26) -/

namespace Sys2Proof.Machine

/-! #### The channel itself -/

section channel
variable {s : State} {c : ChannelId}

theorem reading_none (h : (s.count.get c).nulled = false) : reading c s = none := if_neg (by rw [h]; decide)

/-- The channel after an illegal transition that has lost its null. -/
def Channel.lost (ch : Channel) : Channel := { ch.acceptedBoth with fault := true, nulled := false }

/-- The blocks act on the loss before CHANNEL_FAULT is raised (log 14). -/
theorem channelFault_nulled {ch : Channel} (h : ch.nulled = true) (t0 : Nat) :
    channelFault c (s.accepting c ch.acceptedBoth t0)
      = raiseFlag .channelFault (nullLost c (s.accepting c ch.lost t0)) := by
  have hnulled : (((s.accepting c ch.acceptedBoth t0).modCount fun q => q.set c { q.get c with fault := true }).count.get
      c).nulled = true := by
    simp only [State.modCount, State.accepting, CountUnit.get_set]
    exact h
  have hlost : ((s.accepting c ch.acceptedBoth t0).modCount fun q => q.set c { q.get c with fault := true }).modCount
      (fun q => q.set c { q.get c with nulled := false }) = s.accepting c ch.lost t0 := by
    simp only [State.modCount, State.accepting, CountUnit.get_set, CountUnit.set_set]
    rfl
  unfold channelFault clearNull
  rw [if_pos hnulled, hlost]

theorem accepting_lost_reading (ch : Channel) (t0 : Nat) : reading c (s.accepting c ch.lost t0) = none :=
  reading_none (by simp [State.accepting, Channel.lost])

end channel

/-! #### The satellite drive (R31) -/

/-- The drive is RIDING with output STOP and nothing of an index or a hold left. -/
def Position.Rides (p : Position) : Prop :=
  p.drive = .riding ∧ p.output = .stop ∧ p.target = none ∧ p.holdLost = false ∧ p.strokeEnd = false

section rides
variable {s : State}

theorem refreshDemand_rides (h : s.pos.Rides) : (refreshDemand s).pos.Rides := by
  obtain ⟨cond, slot, heq⟩ := refreshDemand_eq s
  rw [heq]
  exact h

theorem rideDrive_rides (s : State) : (rideDrive s).pos.Rides := by
  unfold rideDrive
  exact refreshDemand_rides ⟨rfl, rfl, rfl, rfl, rfl⟩

theorem setFlag_rides (h : s.pos.Rides) (f : Flag) : (setFlag f s).pos.Rides := by
  rw [setFlag_pos]
  exact h

theorem actOnStop_rides (h : s.pos.Rides) : (actOnStop s).pos.Rides := by
  unfold actOnStop
  split
  · next f _ =>
    split
    · have hpos := (orders_halted .flagStop (some (.flag f)) s).pos
      rw [orderlyHalt, haltOrders_halted, hpos]
      exact ⟨rfl, rfl, rfl, rfl, rfl⟩
    · exact h
  · exact h

theorem hardHalt_rides (h : s.cyc.mode = .work) (cause : HaltCause) (detail : Option Detail) :
    (hardHalt cause detail s).pos.Rides := by
  have hpos := (hardHalt_halted (.inl h) cause detail).pos
  rw [hpos]
  exact ⟨rfl, rfl, rfl, rfl, rfl⟩

/-- After an orderly halt, or in a phase other than SEEK, no record is selected. -/
theorem seek_of_not_seeking (h : s.cyc.mode = .work → s.cyc.phase ≠ .seek) : seek s = s := by
  have hdue : seekDue s = false := by
    refine Bool.eq_false_iff.mpr fun hd => ?_
    unfold seekDue at hd
    rw [Bool.and_eq_true, decide_eq_true_eq] at hd
    exact h hd.1.1 hd.1.2.1
  unfold seek seekLoop
  rw [if_neg (by rw [hdue]; decide)]

theorem actOnStop_not_seeking (h : s.cyc.mode = .work → s.cyc.phase ≠ .seek) :
    (actOnStop s).cyc.mode = .work → (actOnStop s).cyc.phase ≠ .seek := by
  unfold actOnStop
  split
  · next f _ =>
    split
    · have hcyc := (orders_halted .flagStop (some (.flag f)) s).cyc
      rw [orderlyHalt, haltOrders_halted, hcyc]
      exact nofun
    · exact h
  · exact h

theorem loseSatellite_moved (h : s.pos.drive ≠ .riding) :
    loseSatellite s = afterDrive (rideDrive s, [.channelLost]) := by
  unfold loseSatellite
  split
  · next hr => exact absurd hr h
  · rfl
  · rfl

theorem rideDrive_cyc (s : State) : (rideDrive s).cyc = s.cyc := refreshDemand_cyc _

/-- A drive that indexes or holds rides after the loss, and a cycle that used it is halted (R31, R150). -/
theorem loseSatellite_halts (hdrive : s.pos.drive ≠ .riding) (hmode : s.cyc.mode = .work)
    (hwait : s.cyc.phase ≠ .waitDesign) (hnone : s.cyc.phase ≠ .none) :
    loseSatellite s = refreshDemand (hardHalt .channelLost (some (.channel .sat)) (rideDrive s))
      ∧ (loseSatellite s).pos.Rides
      ∧ (loseSatellite s).cyc = haltedCycle .channelLost (some (.channel .sat)) s.cyc.resetCause := by
  have hrcyc := rideDrive_cyc s
  have hphase : indexPhase (rideDrive s).cyc.phase || recordPhase (rideDrive s).cyc.phase := by
    rw [hrcyc]
    cases hp : s.cyc.phase with
    | waitDesign => exact absurd hp hwait
    | none => exact absurd hp hnone
    | _ => rfl
  have hreport : onDriveReport (rideDrive s) .channelLost = hardHalt .channelLost (some (.channel .sat)) (rideDrive s) := by
    unfold onDriveReport
    rw [if_pos (by rw [hrcyc]; exact hmode)]
    exact if_pos hphase
  have hhalted := hardHalt_halted (s := rideDrive s) (.inl (by rw [hrcyc]; exact hmode)) .channelLost (some (.channel .sat))
  have hcyc := hhalted.cyc
  have hpos := hhalted.pos
  rw [hrcyc] at hcyc
  have hrides := refreshDemand_rides (s := hardHalt .channelLost (some (.channel .sat)) (rideDrive s))
    (by rw [hpos]; exact ⟨rfl, rfl, rfl, rfl, rfl⟩)
  have hafter : loseSatellite s = refreshDemand (hardHalt .channelLost (some (.channel .sat)) (rideDrive s)) := by
    rw [loseSatellite_moved hdrive, afterDrive, List.foldl_cons, List.foldl_nil, hreport]
    generalize hardHalt .channelLost (some (.channel .sat)) (rideDrive s) = t at hcyc
    have hmode' : (refreshDemand t).cyc.mode ≠ .work := by
      rw [refreshDemand_cyc, hcyc]
      exact nofun
    rw [actOnStop_of_not_work hmode', seek_of_not_work hmode']
  refine ⟨hafter, by rw [hafter]; exact hrides, ?_⟩
  rw [hafter, refreshDemand_cyc]
  exact hcyc

/-- In any mode and phase the drive rides after the loss. -/
theorem loseSatellite_rides (hdrive : s.pos.drive ≠ .riding) : (loseSatellite s).pos.Rides := by
  by_cases hhalts : s.cyc.mode = .work ∧ s.cyc.phase ≠ .waitDesign ∧ s.cyc.phase ≠ .none
  · obtain ⟨hmode, hwait, hnone⟩ := hhalts
    exact (loseSatellite_halts hdrive hmode hwait hnone).2.1
  · have hrcyc := rideDrive_cyc s
    have hseek : s.cyc.mode = .work → s.cyc.phase ≠ .seek := fun hm hp => hhalts ⟨hm, by rw [hp]; decide, by rw [hp]; decide⟩
    have hreport : onDriveReport (rideDrive s) .channelLost = rideDrive s := by
      unfold onDriveReport
      split
      · next hmode =>
        refine if_neg fun hphase => hhalts ?_
        rw [hrcyc] at hmode hphase
        refine ⟨hmode, fun hp => ?_, fun hp => ?_⟩ <;> rw [hp] at hphase <;> exact Bool.false_ne_true hphase
      · rfl
    have hseek' : (refreshDemand (rideDrive s)).cyc.mode = .work → (refreshDemand (rideDrive s)).cyc.phase ≠ .seek := by
      rw [refreshDemand_cyc, hrcyc]
      exact hseek
    rw [loseSatellite_moved hdrive, afterDrive, List.foldl_cons, List.foldl_nil, hreport,
      seek_of_not_seeking (actOnStop_not_seeking hseek')]
    exact actOnStop_rides (refreshDemand_rides (rideDrive_rides s))

end rides

/-! #### A measuring axis (R116) -/

/-- An axis that has been CUT, with its timers stopped and an overshoot. -/
def Axis.WasCut (o : Option Int) (x : Axis) : Prop :=
  x.state ≠ .moving ∧ x.outcome = some .cut ∧ x.motion = none ∧ x.settle = none ∧ x.stage = none ∧ x.overshoot = o

section cut
variable {s : State} {a : AxisId} {o : Option Int}

theorem releaseAxis_cut (b : AxisId) (h : (s.axes.get a).WasCut o) : ((releaseAxis b s).axes.get a).WasCut o := by
  obtain ⟨hstate, houtcome, hmotion, hsettle, hstage, hover⟩ := h
  by_cases hab : a = b
  · subst hab
    unfold releaseAxis
    split
    · rw [State.modAxis_axes, Three.get_set]
      exact ⟨hstate, houtcome, hmotion, hsettle, hstage, hover⟩
    · unfold takeRelease
      split
      · next hm => exact absurd hm hstate
      · unfold finishRelease
        rw [State.modAxis_axes, Three.get_set]
        exact ⟨nofun, houtcome, rfl, rfl, rfl, hover⟩
      · rw [State.modAxis_axes, Three.get_set]
        exact ⟨hstate, houtcome, hmotion, hsettle, hstage, hover⟩
  · have hsame : (releaseAxis b s).axes.get a = s.axes.get a := by
      unfold releaseAxis
      split
      · rw [State.modAxis_axes, Three.get_set_ne _ _ hab]
      · obtain ⟨x, hx, -⟩ := takeRelease_idle b s
        rw [hx, Three.get_set_ne _ _ hab]
    rw [hsame]
    exact ⟨hstate, houtcome, hmotion, hsettle, hstage, hover⟩

theorem releaseAxes_cut (h : (s.axes.get a).WasCut o) : ((releaseAxes s).axes.get a).WasCut o :=
  List.foldlRecOn (motive := fun t => (t.axes.get a).WasCut o) allAxes (fun s b => releaseAxis b s) h
    fun _ ht b _ => releaseAxis_cut b ht

theorem abortHeads_axes (s : State) : (abortHeads s).axes = s.axes :=
  foldl_same State.axes (fun s u => abortHead u s) (fun s u => axes_of_aside (abortHead_aside u s)) allUnits s

/-- A halt leaves a CUT axis with what the cut gave it. -/
theorem Halted.cut {cause : HaltCause} {detail : Option Detail} {t : State} (h : Halted cause detail s t)
    (hcut : (s.axes.get a).WasCut o) : (t.axes.get a).WasCut o := by
  obtain ⟨x, -, hxaxes, -, -, haxes⟩ := h.plant
  rw [haxes]
  exact releaseAxes_cut (by rw [abortHeads_axes, hxaxes]; exact hcut)

theorem openGate_lowers (h : s.LowersPendRaising) : (openGate s).LowersPendRaising :=
  List.foldlRecOn (motive := State.LowersPendRaising) allUnits (fun s u => judgeGate u s) h
    fun _ ht u _ => ht.after_judgeGate u

/-- The state in which the cycle controller takes the report CHANNEL_LOST of an axis: the gate opened before it or
not. -/
theorem axisChannelLost_eq (c : ChannelId) (s : State) : ∃ x,
    axisChannelLost c s = afterAxis (hardHalt .channelLost (some (.channel c)) x)
      ∧ x.axes = s.axes ∧ x.cyc = s.cyc ∧ x.count = s.count ∧ (s.LowersPendRaising → x.LowersPendRaising) := by
  have hgate (t : State) (haxes : t.axes = s.axes) (hcyc : t.cyc = s.cyc) (hkept : t.kept = s.kept)
      (hlower : s.LowersPendRaising → t.LowersPendRaising) (b : Bool) :
      (if b then openGate t else t).axes = s.axes ∧ (if b then openGate t else t).cyc = s.cyc
        ∧ (if b then openGate t else t).count = s.count
        ∧ (s.LowersPendRaising → (if b then openGate t else t).LowersPendRaising) := by
    have hgcyc := (Acted.openGate t).cyc
    cases b with
    | false => exact ⟨haxes, hcyc, count_of_fixed (Kept.fixed_eq hkept), hlower⟩
    | true =>
      exact ⟨(openGate_axes t).trans haxes, hgcyc.trans hcyc,
        count_of_fixed (Kept.fixed_eq ((openGate_kept t).trans hkept)), fun h => openGate_lowers (hlower h)⟩
  unfold axisChannelLost
  dsimp only
  split
  · exact ⟨_, rfl, hgate s.freeOrder.2 rfl rfl rfl (fun h => h.of_heads rfl) s.freeOrder.1⟩
  · exact ⟨_, rfl, hgate s rfl rfl rfl id false⟩

end cut

end Sys2Proof.Machine
end


section
namespace Sys2Proof.Machine

section axis
variable {s : State} {a : AxisId}

/-- The loss of a MOVING axis's channel (R116): the axis is CUT, and what follows is by the mode. -/
theorem loseAxisChannel_moving (hmoving : (s.axes.get a).state = .moving) (hreading : axisReading a s = none) :
    ((loseAxisChannel a s).axes.get a).WasCut (if a = .line then (s.axes.get a).overshoot else some 0)
      ∧ (s.cyc.mode = .work ∨ s.cyc.mode = .paused →
        (loseAxisChannel a s).cyc = haltedCycle .channelLost (some (.channel (axisChannel a))) s.cyc.resetCause
          ∧ (s.LowersPendRaising → ∀ b, ((loseAxisChannel a s).axes.get b).state = .idle))
      ∧ (s.cyc.mode = .ready ∨ s.cyc.mode = .halted →
        (loseAxisChannel a s).cyc = s.cyc ∧ ((loseAxisChannel a s).axes.get a).state = .hold) := by
  have hcutAxis : cutAxis a s = enterHold a .cut s := if_pos hmoving
  have hover : measuredOvershoot a s = if a = .line then (s.axes.get a).overshoot else some 0 := by
    rw [measuredOvershoot, hreading]
    rfl
  have hheld : (enterHold a .cut s).axes.get a = heldAxis a .cut s := by rw [enterHold_held, Three.get_set]
  have hcyc : (enterHold a .cut s).cyc = s.cyc := (Acted.enterHold a .cut s).cyc
  have hlose : loseAxisChannel a s = axisChannelLost (axisChannel a) (enterHold a .cut s) := by
    unfold loseAxisChannel
    rw [if_pos hmoving, hcutAxis]
  obtain ⟨x, heq, hxaxes, hxcyc, -, hlower⟩ := axisChannelLost_eq (axisChannel a) (enterHold a .cut s)
  have hxget : x.axes.get a = heldAxis a .cut s := by rw [hxaxes, hheld]
  have hxcut : (x.axes.get a).WasCut (if a = .line then (s.axes.get a).overshoot else some 0) := by
    rw [hxget, ← hover]
    exact ⟨nofun, rfl, rfl, rfl, rfl, rfl⟩
  have hlower' (h : s.LowersPendRaising) : x.LowersPendRaising :=
    hlower (h.of_heads (enterHold_heads a .cut s))
  rw [hcyc] at hxcyc
  rw [hlose, heq]
  have hafter (t : State) (ht : t.cyc.mode ≠ .work) : afterAxis t = (openGate t).driven :=
    State.InWorkOrOut.afterAxis_eq fun h => absurd h ht
  have hgcyc (t : State) : (openGate t).cyc = t.cyc := (Acted.openGate t).cyc
  by_cases hruns : s.cyc.mode = .work ∨ s.cyc.mode = .paused
  · have hhalted := hardHalt_halted (s := x) (by rw [hxcyc]; exact hruns) .channelLost (some (.channel (axisChannel a)))
    have htcyc := hhalted.cyc
    have htcut := hhalted.cut hxcut
    have hcleared := hhalted.cleared
    generalize hardHalt .channelLost (some (.channel (axisChannel a))) x = t at htcyc htcut hcleared
    rw [hxcyc] at htcyc
    rw [hafter t (by rw [htcyc]; exact nofun), State.driven_axes, State.driven_cyc, openGate_axes, hgcyc]
    refine ⟨htcut, fun _ => ⟨htcyc, fun hl => (hcleared (hlower' hl)).2⟩, fun hrests => ?_⟩
    rcases hrests with h | h <;> rcases hruns with h' | h' <;> rw [h] at h' <;> cases h'
  · have hrests : s.cyc.mode = .ready ∨ s.cyc.mode = .halted := by
      cases hm : s.cyc.mode <;> simp_all
    rw [hardHalt_of_resting (by rw [hxcyc]; exact hrests), hafter x (by rw [hxcyc]; exact fun h => hruns (.inl h)),
      State.driven_axes, State.driven_cyc, openGate_axes, hgcyc]
    exact ⟨hxcut, fun h => absurd h hruns, fun _ => ⟨hxcyc, by rw [hxget]; rfl⟩⟩

end axis

/-! #### A depth channel (R130) -/

section depth
variable {s : State} {u : UnitId}

/-- The unit has nothing more to lose: FAULTED, or in its blind raise. -/
def Head.OutOfDepth (h : Head) : Prop := h.state = .faulted ∨ h.state = .raising ∧ h.stage = some .blind

/-- The unit that has lost its depth. -/
def Head.depthless (h : Head) : Head := { h with pendingLower := false, report := { h.report with faulted := true } }

/-- The unit by the table of R130, at instant `now`. -/
def Head.lostDepth (h : Head) (p : Params) (now : Nat) : Head :=
  if h.state = .parking then h.depthless
  else if h.state = .up then { h.depthless with state := .faulted, stage := none, timer := none, latched := none }
  else
    { h.depthless with
      state := .raising
      stage := some .blind
      timer := some ⟨p.p28, now⟩
      latched := if h.state = .raising then h.latched else some ⟨p.p25, p.p26⟩ }

theorem loseDepth_out (h : (s.heads.get u).OutOfDepth) : loseDepth u s = s := by
  unfold loseDepth
  dsimp only
  rcases h with h | ⟨h, hstage⟩
  · rw [h]
  · rw [h]
    exact if_pos hstage

theorem loseDepth_in (h : ¬ (s.heads.get u).OutOfDepth) :
    loseDepth u s = setFlag .unitFault (s.setHead u ((s.heads.get u).lostDepth s.params s.clock)) := by
  have hmarked (t : State) (x : Head) (ht : t = s.setHead u x) :
      markFaulted u t = setFlag .unitFault (s.setHead u x.depthless) := by
    rw [ht, markFaulted, State.setHead_modHead]
    rfl
  have hblind (hpark : (s.heads.get u).state ≠ .parking) (hup : (s.heads.get u).state ≠ .up) :
      markFaulted u (enterBlind u s) = setFlag .unitFault (s.setHead u ((s.heads.get u).lostDepth s.params s.clock)) := by
    rw [hmarked (enterBlind u s) _ rfl, Head.lostDepth, if_neg hpark, if_neg hup]
    rfl
  unfold loseDepth
  dsimp only
  split
  · next hs => rw [hmarked s (s.heads.get u) (by rw [State.setHead, Four.set_get]), Head.lostDepth, if_pos hs]
  · next hs =>
    rw [hmarked (enterFaulted u s) _ rfl, Head.lostDepth, if_neg (by rw [hs]; decide), if_pos hs]
    rfl
  · next hs => rw [if_neg fun hstage => h (.inr ⟨hs, hstage⟩), hblind (by rw [hs]; decide) (by rw [hs]; decide)]
  · next hs => exact absurd (.inl hs) h
  · next hs => exact hblind (by rw [hs]; decide) (by rw [hs]; decide)
  · next hs => exact hblind (by rw [hs]; decide) (by rw [hs]; decide)
  · next hs => exact hblind (by rw [hs]; decide) (by rw [hs]; decide)
  · next hs => exact hblind (by rw [hs]; decide) (by rw [hs]; decide)
  · next hs => exact hblind (by rw [hs]; decide) (by rw [hs]; decide)

/-- The loss of a unit's depth where nothing of the cycle waits for the unit. -/
theorem nullLost_depth (hund : s.Undisturbed u) (hno : s.NoRelease) :
    (nullLost (.dep u) s).axes = s.axes ∧ (nullLost (.dep u) s).cyc = s.cyc
      ∧ (∀ v, v ≠ u → (nullLost (.dep u) s).heads.get v = s.heads.get v)
      ∧ ((s.heads.get u).OutOfDepth → (nullLost (.dep u) s).heads.get u = s.heads.get u)
      ∧ (¬ (s.heads.get u).OutOfDepth →
        (nullLost (.dep u) s).heads.get u = (s.heads.get u).lostDepth s.params s.clock
          ∧ flagIn .unitFault (nullLost (.dep u) s).cond.flags = true) := by
  have hlost : nullLost (.dep u) s = afterUnit u (loseDepth u s) := rfl
  rw [hlost]
  by_cases hout : (s.heads.get u).OutOfDepth
  · rw [loseDepth_out hout, hund.afterUnit_eq hno]
    exact ⟨rfl, rfl, fun _ _ => rfl, fun _ => rfl, fun h => absurd hout h⟩
  · let x := s.setHead u ((s.heads.get u).lostDepth s.params s.clock)
    have hund' : (setFlag .unitFault x).Undisturbed u := hund.of_same (setFlag_cyc _ _) fun v hv => by
      rw [setFlag_heads]
      exact Four.get_set_ne _ _ hv
    have hno' : (setFlag .unitFault x).NoRelease := hno.of_axes (setFlag_axes _ _)
    rw [loseDepth_in hout, hund'.afterUnit_eq hno', State.driven_axes, State.driven_cyc, State.driven_heads,
      State.driven_cond, setFlag_axes, setFlag_cyc, setFlag_heads]
    exact ⟨rfl, rfl, fun v hv => Four.get_set_ne _ _ hv, fun h => absurd h hout, fun _ =>
      ⟨Four.get_set _ _ _, (flagIn_setFlag _ _ _).trans (by simp)⟩⟩

end depth

/-- Settles O26: the loss by the channel; CHANNEL_FAULT is raised behind it. -/
theorem nullLossActs : Obligations.NullLossActs := by
  intro s c t0 hpower hodo hsince hpaired hnulled now channelLost
  let L := s.accepting c (s.count.get c).lost t0
  have hexec : exec (.filterWindowExpiry (.channelA c)) s
      = .next (arbitrate (raiseFlag .channelFault (nullLost c L))) := by
    rw [exec_filterWindowExpiry (l := .channelA c) hpower hsince, acceptLine_bothA hpaired, channelFault_nulled hnulled]
  have hkept : (raiseFlag .channelFault (nullLost c L)).kept.fixed = L.kept.fixed :=
    Kept.fixed_eq ((raiseFlag_kept _ _).trans (nullLost_kept c L))
  have hclock := clock_of_fixed hkept
  have hcount := count_of_fixed hkept
  have hquiet (h : (nullLost c L).InWorkOrOut) : (raiseFlag .channelFault (nullLost c L)).pos = (nullLost c L).pos
      ∧ (raiseFlag .channelFault (nullLost c L)).axes = (nullLost c L).axes
      ∧ (raiseFlag .channelFault (nullLost c L)).heads = (nullLost c L).heads
      ∧ (raiseFlag .channelFault (nullLost c L)).cyc = (nullLost c L).cyc := by
    rw [h.raiseFlag_eq]
    exact ⟨setFlag_pos _ _, setFlag_axes _ _, setFlag_heads _ _, setFlag_cyc _ _⟩
  refine ⟨_, hexec, by rw [arbitrate_clock, hclock]; rfl, ?_, ?_⟩
  · refine reading_none ?_
    rw [arbitrate_count, hcount]
    simp [L, State.accepting, Channel.lost]
  simp -zeta only [arbitrate_pos, arbitrate_cyc, arbitrate_axes, arbitrate_heads, arbitrate_cond]
  refine ⟨fun hc hdrive hno => ?_, fun hc hdrive => ?_, fun a ha => ⟨fun hstill hno => ?_, fun hmoving => ?_⟩, fun hc hno => ?_,
    fun u hc hund hno => ?_⟩
  · subst hc
    have hsame : nullLost .sat L = L.driven := by
      show loseSatellite L = L.driven
      have hd : L.pos.drive = .riding := hdrive
      unfold loseSatellite
      rw [hd]
      rfl
    rw [hsame] at hquiet ⊢
    obtain ⟨hpos, -, -, hcyc⟩ := hquiet (hno.of_cyc rfl)
    have hstop : driveCommand L = .stop := by
      have hd : L.pos.drive = .riding := hdrive
      unfold driveCommand
      rw [hd]
    rw [hpos, hcyc]
    exact ⟨hdrive, hstop, rfl⟩
  · subst hc
    have hmoved : L.pos.drive ≠ .riding := hdrive
    have hrides : (raiseFlag .channelFault (loseSatellite L)).pos.Rides :=
      actOnStop_rides (setFlag_rides (loseSatellite_rides hmoved) _)
    obtain ⟨hd, hout, htgt, hhold, hend⟩ := hrides
    refine ⟨hd, hout, htgt, hhold, hend, fun hmode hwait hnone => ?_⟩
    have hcyc := (loseSatellite_halts hmoved hmode hwait hnone).2.2
    obtain ⟨-, -, -, hraised⟩ := hquiet fun h => by
      have hcyc' : (nullLost .sat L).cyc = _ := hcyc
      rw [hcyc'] at h
      cases h
    exact hraised.trans hcyc
  · have hsame : nullLost c L = L := by
      rcases ha with ⟨rfl, rfl⟩ | ⟨rfl, rfl⟩ | ⟨rfl, rfl⟩ <;> exact if_neg hstill
    rw [hsame] at hquiet ⊢
    obtain ⟨hpos, haxes, hheads, hcyc⟩ := hquiet (hno.of_cyc rfl)
    exact ⟨haxes, hheads, hpos, hcyc⟩
  · have hchannel : axisChannel a = c := by rcases ha with ⟨rfl, rfl⟩ | ⟨rfl, rfl⟩ | ⟨rfl, rfl⟩ <;> rfl
    have hlost : nullLost c L = loseAxisChannel a L := by
      rcases ha with ⟨rfl, rfl⟩ | ⟨rfl, rfl⟩ | ⟨rfl, rfl⟩ <;> rfl
    have hreading : axisReading a L = none := by
      unfold axisReading
      rw [hchannel]
      exact accepting_lost_reading _ _
    obtain ⟨hcut, hruns, hrests⟩ := loseAxisChannel_moving (s := L) hmoving hreading
    rw [hchannel] at hruns
    rw [hlost] at hquiet ⊢
    have hnot : (loseAxisChannel a L).cyc.mode ≠ .work := by
      have hm : L.cyc.mode = s.cyc.mode := rfl
      cases hmode : s.cyc.mode with
      | ready => rw [(hrests (.inl hmode)).1, hm, hmode]; decide
      | halted => rw [(hrests (.inr hmode)).1, hm, hmode]; decide
      | work => rw [(hruns (.inl hmode)).1]; exact nofun
      | paused => rw [(hruns (.inr hmode)).1]; exact nofun
    obtain ⟨-, haxes, -, hcyc⟩ := hquiet fun h => absurd h hnot
    rw [haxes, hcyc]
    obtain ⟨-, houtcome, hmotion, hsettle, hstage, hover⟩ := hcut
    exact ⟨houtcome, hmotion, hsettle, hstage, fun hline => hover.trans (if_neg hline), hruns, hrests⟩
  · subst hc
    obtain ⟨hpos, haxes, hheads, hcyc⟩ := hquiet (hno.of_cyc rfl)
    exact ⟨haxes, hheads, hpos, hcyc⟩
  · subst hc
    intro h lost out
    obtain ⟨haxes, hcyc, hothers, hout, hin⟩ := nullLost_depth (s := L) (hund.of_same rfl fun _ _ => rfl) (hno.of_axes rfl)
    obtain ⟨-, hraxes, hrheads, hrcyc⟩ := hquiet ((hund.inWorkOrOut).of_cyc (hcyc.trans rfl))
    have hflag (hnot : ¬ out) : flagIn .unitFault (raiseFlag .channelFault (nullLost (.dep u) L)).cond.flags = true :=
      flagIn_actOnStop ((flagIn_setFlag _ _ _).trans (by rw [(hin hnot).2, Bool.or_true]))
    rw [hraxes, hrheads, hrcyc]
    have hfault (hstate : h.state = .parking ∨ h.state = .up) : ¬ out := by
      rintro (hf | ⟨hr, -⟩) <;> rcases hstate with hs | hs <;> simp_all
    refine ⟨hothers, haxes, hcyc, hout, hflag, fun hpark => ?_, fun hup => ?_, fun hnot hpark hup => ?_⟩
    · rw [(hin (hfault (.inl hpark))).1]
      exact if_pos hpark
    · rw [(hin (hfault (.inr hup))).1]
      exact (if_neg (by rw [show (L.heads.get u).state = .up from hup]; decide)).trans (if_pos hup)
    · rw [(hin hnot).1]
      exact (if_neg hpark).trans (if_neg hup)

end Sys2Proof.Machine
end


section
/-! ### The drive's command by its state (O27) -/

namespace Sys2Proof.Machine

section command
variable {s : State} {tgt h o : Int}

/-- The stroke limit, as the statements give it (R23). -/
theorem strokeLimited_eq (stroke offset : Int) (c : DriveCommand) : strokeLimited stroke offset c
    = if (c = .fwdFast ∨ c = .fwdSlow) ∧ stroke ≤ offset ∨ (c = .backFast ∨ c = .backSlow) ∧ offset ≤ 0 then .stop else c := by
  cases c <;> simp [strokeLimited]

theorem driveCommand_riding (hdrive : s.pos.drive = .riding) : driveCommand s = .stop := by
  unfold driveCommand
  rw [hdrive]

theorem driveCommand_no_offset (hoffset : satOffset s = none) : driveCommand s = .stop := by
  have hhead : headChainage s = none := by
    unfold headChainage
    rw [hoffset]
    rfl
  unfold driveCommand
  rw [hoffset, hhead]
  split <;> simp_all

theorem driveCommand_indexing (hdrive : s.pos.drive = .indexing) (htarget : s.pos.target = some tgt)
    (hhead : headChainage s = some h) (hoffset : satOffset s = some o) :
    driveCommand s = strokeLimited s.params.p09 o
      (if allPermitFast s then indexingCommand s.params.p13 h tgt else slowed (indexingCommand s.params.p13 h tgt)) := by
  unfold driveCommand
  rw [hdrive, htarget, hhead, hoffset]

theorem driveCommand_holding (hdrive : s.pos.drive = .holding) (htarget : s.pos.target = some tgt)
    (hhead : headChainage s = some h) (hoffset : satOffset s = some o) :
    driveCommand s = strokeLimited s.params.p09 o (holdingCommand s.params.p12 h tgt) := by
  unfold driveCommand
  rw [hdrive, htarget, hhead, hoffset]

/-- Every unit is clear of what forbids the fast speeds (R24). -/
def State.Permitted (s : State) : Prop := ∀ u, (s.heads.get u).state = .up ∨ (s.heads.get u).state = .tilting
  ∨ (s.heads.get u).state = .parking ∨ (s.heads.get u).state = .faulted

theorem permitted_iff (s : State) : allPermitFast s = true ↔ s.Permitted :=
  (allPermitFast_iff s).trans (forall_congr' fun _ => permitsFast_iff _)

/-- The direction toward the target and the speed, fast beyond the slow zone where every unit permits it (R24, R26). -/
theorem indexing_toward (hdrive : s.pos.drive = .indexing) (htarget : s.pos.target = some tgt)
    (hhead : headChainage s = some h) (hoffset : satOffset s = some o) :
    let far := s.params.p13 < ((h - tgt).natAbs : Int)
    (h < tgt → far → s.Permitted → driveCommand s = strokeLimited s.params.p09 o .fwdFast)
      ∧ (h < tgt → (¬ far ∨ ¬ s.Permitted) → driveCommand s = strokeLimited s.params.p09 o .fwdSlow)
      ∧ (tgt < h → far → s.Permitted → driveCommand s = strokeLimited s.params.p09 o .backFast)
      ∧ (tgt < h → (¬ far ∨ ¬ s.Permitted) → driveCommand s = strokeLimited s.params.p09 o .backSlow) := by
  intro far
  have hforward (hlt : h < tgt) : indexingCommand s.params.p13 h tgt = if far then .fwdFast else .fwdSlow := by
    have hiff : tgt - h > s.params.p13 ↔ far := by
      show _ ↔ s.params.p13 < _
      omega
    unfold indexingCommand
    rw [if_pos hlt, if_congr hiff rfl rfl]
  have hback (hlt : tgt < h) : indexingCommand s.params.p13 h tgt = if far then .backFast else .backSlow := by
    have hiff : h - tgt > s.params.p13 ↔ far := by
      show _ ↔ s.params.p13 < _
      omega
    unfold indexingCommand
    rw [if_neg (by omega), if_pos hlt, if_congr hiff rfl rfl]
  rw [driveCommand_indexing hdrive htarget hhead hoffset]
  have hperm := permitted_iff s
  refine ⟨fun hlt hfar hp => ?_, fun hlt hslow => ?_, fun hlt hfar hp => ?_, fun hlt hslow => ?_⟩
  · rw [hforward hlt, if_pos hfar, if_pos (hperm.mpr hp)]
  · rw [hforward hlt]
    by_cases hfar : far
    · rw [if_pos hfar, if_neg fun h' => hslow.elim (fun hn => hn hfar) fun hn => hn (hperm.mp h')]
      rfl
    · rw [if_neg hfar]
      split <;> rfl
  · rw [hback hlt, if_pos hfar, if_pos (hperm.mpr hp)]
  · rw [hback hlt]
    by_cases hfar : far
    · rw [if_pos hfar, if_neg fun h' => hslow.elim (fun hn => hn hfar) fun hn => hn (hperm.mp h')]
      rfl
    · rw [if_neg hfar]
      split <;> rfl

/-- Slow and back into the window while HOLDING (R28). -/
theorem holding_back (hdrive : s.pos.drive = .holding) (htarget : s.pos.target = some tgt)
    (hhead : headChainage s = some h) (hoffset : satOffset s = some o) (hp12 : 0 ≤ s.params.p12) :
    (s.params.p12 < h - tgt → driveCommand s = strokeLimited s.params.p09 o .backSlow)
      ∧ (h - tgt < -s.params.p12 → driveCommand s = strokeLimited s.params.p09 o .fwdSlow)
      ∧ (((h - tgt).natAbs : Int) ≤ s.params.p12 → driveCommand s = .stop) := by
  rw [driveCommand_holding hdrive htarget hhead hoffset]
  unfold holdingCommand
  refine ⟨fun hbeyond => ?_, fun hshort => ?_, fun hin => ?_⟩
  · rw [if_pos hbeyond]
  · rw [if_neg (by omega), if_pos hshort]
  · rw [if_neg (by omega), if_neg (by omega)]
    rfl

end command

/-- The first part of O27: the command in each state. -/
theorem drive_commanded (s : State) : (s.pos.drive = .riding ∨ satOffset s = none → driveCommand s = .stop)
    ∧ ∀ tgt h o, s.pos.target = some tgt → headChainage s = some h → satOffset s = some o →
      let limited := fun c : DriveCommand =>
        if (c = .fwdFast ∨ c = .fwdSlow) ∧ s.params.p09 ≤ o ∨ (c = .backFast ∨ c = .backSlow) ∧ o ≤ 0 then .stop
        else c
      let permitted := ∀ u, (s.heads.get u).state = .up ∨ (s.heads.get u).state = .tilting
        ∨ (s.heads.get u).state = .parking ∨ (s.heads.get u).state = .faulted
      let far := s.params.p13 < ((h - tgt).natAbs : Int)
      (s.pos.drive = .indexing →
          (h < tgt → far → permitted → driveCommand s = limited .fwdFast)
            ∧ (h < tgt → (¬ far ∨ ¬ permitted) → driveCommand s = limited .fwdSlow)
            ∧ (tgt < h → far → permitted → driveCommand s = limited .backFast)
            ∧ (tgt < h → (¬ far ∨ ¬ permitted) → driveCommand s = limited .backSlow))
        ∧ (s.pos.drive = .holding → 0 ≤ s.params.p12 →
          (s.params.p12 < h - tgt → driveCommand s = limited .backSlow)
            ∧ (h - tgt < -s.params.p12 → driveCommand s = limited .fwdSlow)
            ∧ (((h - tgt).natAbs : Int) ≤ s.params.p12 → driveCommand s = .stop)) := by
  refine ⟨fun hor => hor.elim driveCommand_riding driveCommand_no_offset, ?_⟩
  intro tgt h o htarget hhead hoffset limited permitted far
  have hlimited (c : DriveCommand) : strokeLimited s.params.p09 o c = limited c := strokeLimited_eq _ _ c
  refine ⟨fun hdrive => ?_, fun hdrive hp12 => ?_⟩
  · have htoward := indexing_toward hdrive htarget hhead hoffset
    simp -zeta only [hlimited] at htoward
    exact htoward
  · have hback := holding_back hdrive htarget hhead hoffset hp12
    simp -zeta only [hlimited] at hback
    exact hback

end Sys2Proof.Machine
end


section
/-! ### Arrival (R151) -/

namespace Sys2Proof.Machine

/-! #### The orders of an arrival flag no record -/

section slp
variable {s : State}

/-- A pressure line seen ends no phase with LOW_PRESSURE. -/
theorem seePressure_slp (u : UnitId) (s : State) : (seePressure u s).slp = s.slp := by
  unfold seePressure
  dsimp only
  split
  · split
    · rw [endPhase_eq, if_pos (by simp)]
      rfl
    · rfl
  · rfl

theorem judgeGate_slp (u : UnitId) (s : State) : (judgeGate u s).slp = s.slp := by
  unfold judgeGate
  split
  · unfold enterSqueezing
    dsimp only
    split
    · exact seePressure_slp u _
    · rfl
  · rfl

theorem enterLowering_slp (u : UnitId) (s : State) : (enterLowering u s).slp = s.slp := by
  unfold enterLowering judgeLowering
  split
  · split
    · exact judgeGate_slp u _
    · rfl
  · rfl

theorem takeLower_slp (u : UnitId) (p : HeadPlan) (s : State) : (takeLower u p s).slp = s.slp := by
  unfold takeLower
  dsimp only
  split
  · exact enterLowering_slp u _
  · rfl

theorem arrivalOrder_slp (u : UnitId) (plan : Option HeadPlan) (s : State) : (arrivalOrder u plan s).slp = s.slp := by
  unfold arrivalOrder
  dsimp only
  split
  · rfl
  · split
    · split
      · exact takeLower_slp u _ _
      · exact setFlag_slp _ _
    · rfl
    · rfl

theorem arrivalOrder_axes (u : UnitId) (plan : Option HeadPlan) (s : State) : (arrivalOrder u plan s).axes = s.axes :=
  axes_of_aside (arrivalOrder_aside u plan s)

/-- The plan that the arrival order gives to a unit (R151). -/
def State.givenPlan (s : State) (r : Sleeper) (withPlans : Bool) (u : UnitId) : Option HeadPlan :=
  if withPlans && unitIn u (s.cyc.active.getD 0) then some (headPlan u r s) else none

/-- The orders to the four units, before the drive's command is given. -/
def State.ordered (s : State) (r : Sleeper) (withPlans : Bool) : State :=
  allUnits.foldl (fun t u => arrivalOrder u (s.givenPlan r withPlans u) t) s

theorem arrivalOrders_eq (r : Sleeper) (withPlans : Bool) (s : State) :
    arrivalOrders r withPlans s = (s.ordered r withPlans).driven := rfl

theorem ordered_acted (r : Sleeper) (withPlans : Bool) (s : State) : Acted s (s.ordered r withPlans) :=
  Acted.foldl (fun t u => Acted.arrivalOrder u (s.givenPlan r withPlans u) t) allUnits s

theorem ordered_slp (r : Sleeper) (withPlans : Bool) (s : State) : (s.ordered r withPlans).slp = s.slp :=
  foldl_same State.slp _ (fun t u => arrivalOrder_slp u (s.givenPlan r withPlans u) t) allUnits s

theorem ordered_axes (r : Sleeper) (withPlans : Bool) (s : State) : (s.ordered r withPlans).axes = s.axes :=
  foldl_same State.axes _ (fun t u => arrivalOrder_axes u (s.givenPlan r withPlans u) t) allUnits s

/-- What a unit's order does it does whatever the orders to the other units have done before. -/
theorem ordered_head {P : Head → Prop} {r : Sleeper} {withPlans : Bool} {u : UnitId}
    (h : ∀ t : State, Acted s t → t.heads.get u = s.heads.get u → t.axes = s.axes →
      P ((arrivalOrder u (s.givenPlan r withPlans u) t).heads.get u)) :
    P ((s.ordered r withPlans).heads.get u) := by
  have hacted (t : State) (ht : Acted s t) (v : UnitId) : Acted s (arrivalOrder v (s.givenPlan r withPlans v) t) :=
    ht.trans (.arrivalOrder v _ t)
  have haxes (t : State) (ht : t.axes = s.axes) (v : UnitId) :
      (arrivalOrder v (s.givenPlan r withPlans v) t).axes = s.axes := (arrivalOrder_axes v _ t).trans ht
  have hother (t : State) (v : UnitId) (hv : u ≠ v) (ht : t.heads.get u = s.heads.get u) :
      (arrivalOrder v (s.givenPlan r withPlans v) t).heads.get u = s.heads.get u := (arrivalOrder_other hv _ t).trans ht
  have h0 := Acted.refl s
  simp only [State.ordered, allUnits, List.foldl_cons, List.foldl_nil]
  cases u with
  | LO =>
    rw [arrivalOrder_other (by decide), arrivalOrder_other (by decide), arrivalOrder_other (by decide)]
    exact h s h0 rfl rfl
  | LI =>
    rw [arrivalOrder_other (by decide), arrivalOrder_other (by decide)]
    exact h _ (hacted _ h0 .LO) (hother _ .LO (by decide) rfl) (haxes _ rfl .LO)
  | RI =>
    rw [arrivalOrder_other (by decide)]
    exact h _ (hacted _ (hacted _ h0 .LO) .LI) (hother _ .LI (by decide) (hother _ .LO (by decide) rfl))
      (haxes _ (haxes _ rfl .LO) .LI)
  | RO =>
    exact h _ (hacted _ (hacted _ (hacted _ h0 .LO) .LI) .RI)
      (hother _ .RI (by decide) (hother _ .LI (by decide) (hother _ .LO (by decide) rfl)))
      (haxes _ (haxes _ (haxes _ rfl .LO) .LI) .RI)

end slp

/-! #### The record, the cycle and the axes at an arrival -/

section arriving
variable {s : State} {r : Sleeper}

/-- The record IN_WORK, the phase ARRIVED with the stopwatch running, and the axes prepared. -/
def State.arrivedAt (s : State) (r : Sleeper) : State :=
  prepareAxes (setPhase .arrived ((modRecord r.seq (fun r => { r with state := .inWork }) s).modCyc fun c =>
    { c with stopwatch := some s.clock }))

theorem arrival_read (hcur : currentRecord s = some r) {v : Readings} (hv : snapshotReadings s = some v) :
    arrival s = arrivalOrders r true (requestTarget ⟨r.seq, v⟩ (s.arrivedAt r)) := by
  unfold arrival
  rw [hcur]
  dsimp only
  rw [hv]
  rfl

theorem arrival_blind (hcur : currentRecord s = some r) (hv : snapshotReadings s = none) :
    arrival s = hardHalt .channelLost (some (.channel (missingChannel s))) (arrivalOrders r false (s.arrivedAt r)) := by
  unfold arrival
  rw [hcur]
  dsimp only
  rw [hv]
  rfl

/-- An axis as the prepare order leaves it (R106). -/
def Axis.prepared (x : Axis) : Axis :=
  if x.state = .idle then
    { x with
      started := false, released := false, target := none, latched := none, outcome := none, overshoot := none
      final := none, lastDir := none, reversals := 0 }
  else x

theorem prepareAxes_eq (s : State) : prepareAxes s
    = { s with axes := ⟨s.axes.liftL.prepared, s.axes.liftR.prepared, s.axes.line.prepared⟩ } := rfl

theorem prepareAxes_get (a : AxisId) (s : State) : (prepareAxes s).axes.get a = (s.axes.get a).prepared := by
  cases a <;> rfl

/-- What an arrival leaves before its orders to the units. -/
theorem arrivedAt_leaves (s : State) (r : Sleeper) :
    (s.arrivedAt r).slp = (modRecord r.seq (fun r => { r with state := .inWork }) s).slp
      ∧ (s.arrivedAt r).cyc = { s.cyc with phase := .arrived, stopwatch := some s.clock }
      ∧ (s.arrivedAt r).heads = s.heads
      ∧ (∀ a, (s.arrivedAt r).axes.get a = (s.axes.get a).prepared)
      ∧ (∃ demand term, (s.arrivedAt r).pos = { s.pos with demand := demand, strokeTerm := term })
      ∧ (s.arrivedAt r).kept = s.kept ∧ (s.arrivedAt r).eng = s.eng ∧ (s.arrivedAt r).seg = s.seg := by
  let taken := (modRecord r.seq (fun r => { r with state := .inWork }) s).modCyc fun c => { c with stopwatch := some s.clock }
  have hkept : taken.kept = s.kept := modRecord_kept r.seq _ s fun _ => ⟨rfl, rfl, rfl⟩
  have hphase : (setPhase .arrived taken).kept = s.kept := (setPhase_kept _ _).trans hkept
  obtain ⟨cond, slot, heq⟩ := setPhase_eq .arrived taken
  have hunfold : s.arrivedAt r = prepareAxes (setPhase .arrived taken) := rfl
  have hprepared : (prepareAxes (setPhase .arrived taken)).kept = s.kept := (prepareAxes_kept _).trans hphase
  have haxes (a : AxisId) : (prepareAxes (setPhase .arrived taken)).axes.get a = (s.axes.get a).prepared :=
    (prepareAxes_get a _).trans (congrArg (fun x : Three Axis => (x.get a).prepared) (refreshDemand_axes _))
  rw [hunfold]
  refine ⟨?_, ?_, ?_, haxes, ?_, hprepared, ?_, ?_⟩
  all_goals rw [prepareAxes_eq, heq]
  · rfl
  · rfl
  · rfl
  · exact ⟨_, _, rfl⟩
  · rfl
  · rfl

theorem currentRecord_of (hcur : s.cyc.current = some r.seq) (hr : unfinishedRecord r.seq s = some r) :
    currentRecord s = some r := by
  unfold currentRecord
  rw [hcur]
  exact hr

/-- The unfinished record of a number after a change that leaves it unfinished. -/
theorem unfinishedRecord_modRecord {f : Sleeper → Sleeper} (hr : unfinishedRecord r.seq s = some r)
    (hf : ∀ x : Sleeper, (f x).state.finished = false ∧ (f x).seq = x.seq) :
    unfinishedRecord r.seq (modRecord r.seq f s) = some (f r) := by
  have hmem := List.mem_of_find?_eq_some hr
  have hpred := List.find?_some hr
  have hmap : (modRecord r.seq f s).slp.records
      = s.slp.records.map fun x => if !x.state.finished && decide (x.seq = r.seq) then f x else x := rfl
  have hcomp : ((fun x : Sleeper => !x.state.finished && decide (x.seq = r.seq)) ∘ fun x =>
      if !x.state.finished && decide (x.seq = r.seq) then f x else x)
      = fun x => !x.state.finished && decide (x.seq = r.seq) := by
    funext x
    dsimp only [Function.comp]
    split
    · next h =>
      obtain ⟨hfin, hseq⟩ := hf x
      rw [hfin, hseq]
      rw [Bool.and_eq_true] at h
      rw [h.1, h.2]
      rfl
    · rfl
  unfold unfinishedRecord at hr ⊢
  rw [hmap, List.find?_map, hcomp, hr, Option.map_some, if_pos hpred]

theorem mem_modRecord {f : Sleeper → Sleeper} (hr : unfinishedRecord r.seq s = some r) :
    f r ∈ (modRecord r.seq f s).slp.records :=
  List.mem_map.mpr ⟨r, List.mem_of_find?_eq_some hr, if_pos (List.find?_some hr)⟩

end arriving

end Sys2Proof.Machine
end


section
/-! ### What the cycle controller makes of the drive's reports -/

namespace Sys2Proof.Machine

section reports
variable {s t : State} {r : Sleeper}

/-- The command depends on the drive's state, the units and what is fixed. -/
theorem driveCommand_of_fixed (hfixed : t.kept.fixed = s.kept.fixed) (hdrive : t.pos.drive = s.pos.drive)
    (htarget : t.pos.target = s.pos.target) (hheads : t.heads = s.heads) : driveCommand t = driveCommand s := by
  have hoffset : satOffset t = satOffset s :=
    reading_congr (congrArg (fun q : CountUnit => q.get .sat) (count_of_fixed hfixed)) (params_of_fixed hfixed)
  have hhead : headChainage t = headChainage s := by
    unfold headChainage
    rw [hoffset, frameChainage_of_fixed hfixed]
  unfold driveCommand allPermitFast
  rw [hdrive, htarget, hhead, hoffset, hheads, params_of_fixed hfixed]

theorem driveCommand_arbitrate (s : State) : driveCommand (arbitrate s) = driveCommand s := by
  rw [arbitrate_eq]
  rfl

theorem driveCommand_refreshDemand (s : State) : driveCommand (refreshDemand s) = driveCommand s := by
  obtain ⟨cond, slot, heq⟩ := refreshDemand_eq s
  exact driveCommand_of_fixed (Kept.fixed_eq (refreshDemand_kept s)) (by rw [heq]) (by rw [heq]) (refreshDemand_heads s)

/-- With no index or hold the demand's stroke term is GO, and no flag is raised. -/
theorem refreshDemand_go (h : strokeTermOf s = .go) :
    refreshDemand s = { s with pos := { s.pos with demand := demandOf s, strokeTerm := .go } } := by
  have hloose : tightened s.pos.strokeTerm .go = false := by cases s.pos.strokeTerm <;> rfl
  unfold refreshDemand
  rw [h]
  dsimp only
  rw [if_neg (by rw [hloose]; decide)]
  rfl

theorem strokeTermOf_not_holding (h : s.pos.drive ≠ .holding) : strokeTermOf s = .go := if_neg fun h' => h h'.2

/-- Where its reports leave no stop to act on at once and no selection to make, nothing but the demand follows a
re-determination of the drive. -/
theorem afterDrive_eq {p : State × List DriveReport} (h : (p.2.foldl onDriveReport p.1).InWorkOrOut) :
    afterDrive p = refreshDemand (p.2.foldl onDriveReport p.1) := by
  have hno := h.of_cyc (refreshDemand_cyc (p.2.foldl onDriveReport p.1))
  rw [afterDrive, hno.actOnStop_eq, hno.seek_eq]

theorem inWorkOrOut_of_not_work (h : s.cyc.mode ≠ .work) : s.InWorkOrOut := fun h' => absurd h' h

/-- A report that ends the work leaves those behind it without effect. -/
theorem afterDrive_ended {report : DriveReport} {rest : List DriveReport} (h : onDriveReport s report = t)
    (ht : t.cyc.mode ≠ .work) : afterDrive (s, report :: rest) = refreshDemand t := by
  have hreports : (report :: rest).foldl onDriveReport s = t := by
    rw [List.foldl_cons, h, onDriveReports_of_not_work ht]
  rw [afterDrive_eq (p := (s, report :: rest)) (by
    dsimp only
    rw [hreports]
    exact inWorkOrOut_of_not_work ht)]
  exact congrArg refreshDemand hreports

theorem recordPhase_of (h : s.cyc.phase = .arrived ∨ s.cyc.phase = .working ∨ s.cyc.phase = .clearing) :
    recordPhase s.cyc.phase = true := by
  rcases h with h | h | h <;> rw [h] <;> rfl

theorem onDriveReport_holdLost (hmode : s.cyc.mode = .work)
    (hphase : s.cyc.phase = .arrived ∨ s.cyc.phase = .working ∨ s.cyc.phase = .clearing) :
    onDriveReport s .holdLost = hardHalt .holdLost none (refreshDemand s) := by
  unfold onDriveReport
  rw [if_pos hmode]
  exact if_pos (recordPhase_of hphase)

theorem onDriveReport_strokeEnd (hmode : s.cyc.mode = .work)
    (hphase : s.cyc.phase = .arrived ∨ s.cyc.phase = .working ∨ s.cyc.phase = .clearing) :
    onDriveReport s .strokeEnd = hardHalt .strokeEnd none (refreshDemand s) := by
  unfold onDriveReport
  rw [if_pos hmode]
  exact if_pos (recordPhase_of hphase)

/-- A hard halt on a report, and the demand behind it. -/
theorem afterDrive_halted {report : DriveReport} {rest : List DriveReport} {cause : HaltCause} {detail : Option Detail}
    {x : State} (hreport : onDriveReport s report = hardHalt cause detail x) (hmode : x.cyc.mode = .work) :
    (afterDrive (s, report :: rest)).cyc = haltedCycle cause detail x.cyc.resetCause
      ∧ (afterDrive (s, report :: rest)).pos.Rides := by
  have hhalted := hardHalt_halted (s := x) (.inl hmode) cause detail
  have hcyc := hhalted.cyc
  have hrides := hardHalt_rides (s := x) hmode cause detail
  rw [afterDrive_ended (rest := rest) hreport (by rw [hcyc]; exact nofun), refreshDemand_cyc]
  exact ⟨hcyc, refreshDemand_rides hrides⟩

end reports

/-! #### The arrival, as a whole -/

/-- What an arrival on a record with the four readings leaves (R151). -/
structure Arrived (s t : State) (r : Sleeper) (v : Readings) : Prop where
  slp : t.slp = (modRecord r.seq (fun r => { r with state := .inWork }) s).slp
  cyc : t.cyc = { s.cyc with phase := .arrived, stopwatch := some s.clock }
  drive : t.pos.drive = s.pos.drive
  target : t.pos.target = s.pos.target
  output : t.pos.output = driveCommand t
  holdLost : t.pos.holdLost = s.pos.holdLost
  strokeEnd : t.pos.strokeEnd = s.pos.strokeEnd
  eng : t.eng = (requestTarget ⟨r.seq, v⟩ (s.arrivedAt r)).eng
  axes : ∀ a, t.axes.get a = (s.axes.get a).prepared
  heads : t.heads = ((requestTarget ⟨r.seq, v⟩ (s.arrivedAt r)).ordered r true).heads
  kept : t.kept = s.kept

section arrived
variable {s t : State} {r : Sleeper} {v : Readings}

theorem requestTarget_eq (req : TargetRequest) (s : State) :
    requestTarget req s = { s with eng := (requestTarget req s).eng } := by
  unfold requestTarget
  dsimp only
  split
  · unfold beginTarget
    split <;> rfl
  · rfl

theorem arrival_arrived (hcur : currentRecord s = some r) (hv : snapshotReadings s = some v) : Arrived s (arrival s) r v := by
  obtain ⟨hslp, hcyc, -, haxes, ⟨demand, term, hpos⟩, hkept, -, -⟩ := arrivedAt_leaves s r
  have hreq := requestTarget_eq ⟨r.seq, v⟩ (s.arrivedAt r)
  have hacted := ordered_acted r true (requestTarget ⟨r.seq, v⟩ (s.arrivedAt r))
  have hoslp := ordered_slp r true (requestTarget ⟨r.seq, v⟩ (s.arrivedAt r))
  have hoaxes := ordered_axes r true (requestTarget ⟨r.seq, v⟩ (s.arrivedAt r))
  have hocyc := hacted.cyc
  have hopos := hacted.pos
  have hoeng := hacted.eng
  have hokept := hacted.kept
  have hrkept : (requestTarget ⟨r.seq, v⟩ (s.arrivedAt r)).kept = s.kept := (requestTarget_kept _ _).trans hkept
  have hrslp : (requestTarget ⟨r.seq, v⟩ (s.arrivedAt r)).slp = (s.arrivedAt r).slp := by rw [hreq]
  have hrcyc : (requestTarget ⟨r.seq, v⟩ (s.arrivedAt r)).cyc = (s.arrivedAt r).cyc := by rw [hreq]
  have hrpos : (requestTarget ⟨r.seq, v⟩ (s.arrivedAt r)).pos = (s.arrivedAt r).pos := by rw [hreq]
  have hraxes : (requestTarget ⟨r.seq, v⟩ (s.arrivedAt r)).axes = (s.arrivedAt r).axes := by rw [hreq]
  rw [arrival_read hcur hv, arrivalOrders_eq]
  generalize hX : (requestTarget ⟨r.seq, v⟩ (s.arrivedAt r)).ordered r true = X at *
  have hXpos : X.pos = { s.pos with demand := demand, strokeTerm := term } := hopos.trans (hrpos.trans hpos)
  have hXdriven : X.driven.pos = { X.pos with output := driveCommand X } := rfl
  have hXheads : X.heads = _ := congrArg State.heads hX.symm
  exact {
    slp := hoslp.trans (hrslp.trans hslp)
    cyc := hocyc.trans (hrcyc.trans hcyc)
    drive := by rw [hXdriven, hXpos]
    target := by rw [hXdriven, hXpos]
    output := rfl
    holdLost := by rw [hXdriven, hXpos]
    strokeEnd := by rw [hXdriven, hXpos]
    eng := hoeng
    axes := fun a => by rw [State.driven_axes, hoaxes, hraxes, haxes a]
    heads := hXheads
    kept := hokept.trans hrkept }

theorem Arrived.refreshDemand (h : Arrived s t r v) : Arrived s (refreshDemand t) r v := by
  obtain ⟨cond, slot, heq⟩ := refreshDemand_eq t
  exact {
    slp := (refreshDemand_slp t).trans h.slp
    cyc := (refreshDemand_cyc t).trans h.cyc
    drive := by rw [heq]; exact h.drive
    target := by rw [heq]; exact h.target
    output := (refreshDemand_output t).trans (h.output.trans (driveCommand_refreshDemand t).symm)
    holdLost := by rw [heq]; exact h.holdLost
    strokeEnd := by rw [heq]; exact h.strokeEnd
    eng := by rw [heq]; exact h.eng
    axes := fun a => by rw [refreshDemand_axes]; exact h.axes a
    heads := (refreshDemand_heads t).trans h.heads
    kept := (refreshDemand_kept t).trans h.kept }

theorem Arrived.inWorkOrOut (h : Arrived s t r v) : t.InWorkOrOut := fun _ => .inl (by rw [h.cyc])

/-- The report ARRIVED taken (R150, R151). -/
theorem afterDrive_arrived (hmode : s.cyc.mode = .work) (hphase : indexPhase s.cyc.phase = true)
    (hcur : currentRecord s = some r) (hv : snapshotReadings s = some v) : Arrived s (afterDrive (s, [.arrived])) r v := by
  have harrived := arrival_arrived hcur hv
  have hreports : [DriveReport.arrived].foldl onDriveReport s = arrival s := by
    rw [List.foldl_cons, List.foldl_nil, onDriveReport_arrived hmode hphase]
  rw [afterDrive_eq (p := (s, [.arrived])) (by
    dsimp only
    rw [hreports]
    exact harrived.inWorkOrOut)]
  dsimp only
  rw [hreports]
  exact harrived.refreshDemand

theorem reading_isSome {c : ChannelId} (h : (s.count.get c).nulled = true) : ∃ x, reading c s = some x := by
  unfold reading
  dsimp only
  rw [if_pos h]
  split
  · exact ⟨_, rfl⟩
  · exact ⟨_, rfl⟩

theorem reading_isSome_iff {c : ChannelId} : (reading c s).isSome = (s.count.get c).nulled := by
  cases h : (s.count.get c).nulled with
  | true =>
    obtain ⟨x, hx⟩ := reading_isSome h
    rw [hx]
    rfl
  | false =>
    rw [reading_none h]
    rfl

end arrived

end Sys2Proof.Machine
end


section
/-! ### An arrival without a reading, and the counts of SAT (O27) -/

namespace Sys2Proof.Machine

section blind
variable {s t : State} {r : Sleeper} {u : UnitId}

/-! #### The units -/

theorem arrivalOrder_none (u : UnitId) (s : State) : arrivalOrder u none s
    = s.setHead u { s.heads.get u with report := .cleared, pendingLower := false, plan := none } := rfl

theorem givenPlan_false (s : State) (r : Sleeper) (u : UnitId) : s.givenPlan r false u = none := rfl

/-- Without plans every unit's report is cleared, and it has no plan. -/
theorem ordered_without (s : State) (r : Sleeper) (u : UnitId) : (s.ordered r false).heads.get u
    = { s.heads.get u with report := .cleared, pendingLower := false, plan := none } :=
  ordered_head (P := (· = _)) fun t _ ht _ => by
    rw [givenPlan_false, arrivalOrder_none, State.setHead_get, ht]

/-- A unit without a plan keeps its report through an abort order. -/
theorem abortHead_unplanned (h : (s.heads.get u).plan = none) :
    ((abortHead u s).heads.get u).plan = none ∧ ((abortHead u s).heads.get u).report = (s.heads.get u).report := by
  have hraised : ((enterRaising u s).heads.get u).plan = none
      ∧ ((enterRaising u s).heads.get u).report = (s.heads.get u).report := by
    unfold enterRaising judgeRaising
    split
    · split
      · unfold enterUp
        dsimp only
        rw [show ((s.modHead u _).heads.get u).plan = none from (congrArg Head.plan (Four.get_set _ _ _)).trans h]
        simp [h]
      · simp [h]
    · simp [h]
  unfold abortHead
  split
  · exact hraised
  · exact hraised
  · simp [enterOpening, h]
  · simp [h]
  · simp [h]
  · simp [h]
  · exact ⟨h, rfl⟩
  · exact ⟨h, rfl⟩
  · exact ⟨h, rfl⟩

/-- A unit that has no plan as a halt begins keeps its report. -/
theorem Halted.unplanned {cause : HaltCause} {detail : Option Detail} (h : Halted cause detail s t)
    (hplan : (s.heads.get u).plan = none) :
    (t.heads.get u).plan = none ∧ (t.heads.get u).report = (s.heads.get u).report := by
  obtain ⟨x, hxheads, -, -, hheads, -⟩ := h.plant
  rw [hheads]
  refine abortHeads_head (P := fun h' => h'.plan = none ∧ h'.report = (s.heads.get u).report) fun y hy => ?_
  rw [hxheads] at hy
  rw [← hy]
  exact abortHead_unplanned (by rw [hy]; exact hplan)

/-! #### The axes -/

theorem releaseAxis_idle {a : AxisId} (b : AxisId) (h : (s.axes.get a).state = .idle) :
    ((releaseAxis b s).axes.get a).state = .idle := by
  by_cases hab : a = b
  · subst hab
    unfold releaseAxis
    split
    · rw [State.modAxis_axes, Three.get_set]
      exact h
    · obtain ⟨x, hx, hidle⟩ := takeRelease_idle a s
      rw [hx, Three.get_set]
      exact hidle
  · unfold releaseAxis
    split
    · rw [State.modAxis_axes, Three.get_set_ne _ _ hab]
      exact h
    · obtain ⟨x, hx, -⟩ := takeRelease_idle b s
      rw [hx, Three.get_set_ne _ _ hab]
      exact h

theorem Halted.idle {cause : HaltCause} {detail : Option Detail} {a : AxisId} (h : Halted cause detail s t)
    (hidle : (s.axes.get a).state = .idle) : (t.axes.get a).state = .idle := by
  obtain ⟨x, -, hxaxes, -, -, haxes⟩ := h.plant
  rw [haxes]
  refine List.foldlRecOn (motive := fun t => (t.axes.get a).state = .idle) allAxes (fun s b => releaseAxis b s) ?_
    fun _ ht b _ => releaseAxis_idle b ht
  rw [abortHeads_axes, hxaxes]
  exact hidle

theorem Axis.prepared_idle {x : Axis} (h : x.state = .idle) : x.prepared = { x with
    started := false, released := false, target := none, latched := none, outcome := none, overshoot := none
    final := none, lastDir := none, reversals := 0 } := if_pos h

/-! #### The whole arrival -/

/-- What an arrival without a reading of a measuring channel comes to (R151): the halt of CHANNEL_LOST, no plans, and
the record ABORTED with nothing measured. -/
theorem arrival_without (hmode : s.cyc.mode = .work) (hcur : s.cyc.current = some r.seq)
    (hr : unfinishedRecord r.seq s = some r) (hidle : ∀ x, (s.axes.get x).state = .idle) (hv : snapshotReadings s = none) :
    (arrival s).cyc = haltedCycle .channelLost (some (.channel (missingChannel s))) s.cyc.resetCause
      ∧ (arrival s).pos.Rides
      ∧ (∀ x, ((arrival s).axes.get x).state = .idle)
      ∧ (∀ u, ((arrival s).heads.get u).report = .cleared ∧ ((arrival s).heads.get u).plan = none)
      ∧ ∃ result, { r with state := .aborted, result := some result } ∈ (arrival s).slp.records
        ∧ result.active = s.cyc.active.getD 0 ∧ result.skip = none ∧ result.cycleTime = 0
        ∧ (∀ u, result.units.get u = .cleared)
        ∧ ∀ x, result.axes.get x = ⟨none, none, none, none⟩ := by
  obtain ⟨hslp, hcyc, -, haxes, -, hkept, -, -⟩ := arrivedAt_leaves s r
  have hacted := ordered_acted r false (s.arrivedAt r)
  have hocyc := hacted.cyc
  have hokept := hacted.kept
  have hoslp := ordered_slp r false (s.arrivedAt r)
  have hoaxes := ordered_axes r false (s.arrivedAt r)
  have hoheads := ordered_without (s.arrivedAt r) r
  rw [arrival_blind (currentRecord_of hcur hr) hv, arrivalOrders_eq]
  generalize (s.arrivedAt r).ordered r false = X at *
  have hXcyc : X.driven.cyc = { s.cyc with phase := .arrived, stopwatch := some s.clock } := hocyc.trans hcyc
  have hXclock : X.driven.clock = s.clock := (clock_of_fixed (Kept.fixed_eq hokept)).trans (clock_of_fixed (Kept.fixed_eq hkept))
  have hXmode : X.driven.cyc.mode = .work := by rw [hXcyc]; exact hmode
  have hhalted := hardHalt_halted (.inl hXmode) .channelLost (some (.channel (missingChannel s)))
  have hrides := hardHalt_rides hXmode .channelLost (some (.channel (missingChannel s)))
  obtain ⟨-, hfinished⟩ := hardHalt_records (.inl hXmode) .channelLost (some (.channel (missingChannel s)))
  have hcurrent : currentRecord X.driven = some { r with state := .inWork } := by
    have hmod := unfinishedRecord_modRecord (f := fun r => { r with state := .inWork }) hr fun _ => ⟨rfl, rfl⟩
    unfold currentRecord
    rw [hXcyc]
    dsimp only
    rw [hcur]
    dsimp only
    unfold unfinishedRecord at hmod ⊢
    rw [State.driven_slp, hoslp, hslp]
    exact hmod
  have hwrites := abortCurrent_writes hcurrent rfl
  have haxis (x : AxisId) : (X.driven.axes.get x).state = .idle ∧ (X.driven.axes.get x).started = false := by
    rw [State.driven_axes, hoaxes, haxes x, Axis.prepared_idle (hidle x)]
    exact ⟨hidle x, rfl⟩
  have hreport (x : AxisId) : axisReport x X.driven = ⟨none, none, none, none⟩ := by
    unfold axisReport
    dsimp only
    rw [if_neg (by rw [(haxis x).2]; decide)]
    rfl
  have hunit (u : UnitId) : (X.driven.heads.get u).report = .cleared ∧ (X.driven.heads.get u).plan = none := by
    rw [State.driven_heads, hoheads u]
    exact ⟨rfl, rfl⟩
  refine ⟨?_, hrides, fun x => hhalted.idle (haxis x).1, fun u => ?_,
    workedResult r.flags X.driven, hfinished _ hwrites rfl, ?_, rfl, ?_, fun u => ?_, fun x => ?_⟩
  · have hcyc' := hhalted.cyc
    rw [hXcyc] at hcyc'
    exact hcyc'
  · obtain ⟨hplan, hrep⟩ := hhalted.unplanned (hunit u).2
    exact ⟨hrep.trans (hunit u).1, hplan⟩
  · show X.driven.cyc.active.getD 0 = _
    rw [hXcyc]
  · show cycleTime X.driven = 0
    unfold cycleTime
    rw [hXcyc, hXclock]
    simp
  · cases u with
    | LO => exact (hunit .LO).1
    | LI => exact (hunit .LI).1
    | RI => exact (hunit .RI).1
    | RO => exact (hunit .RO).1
  · cases x with
    | liftL => exact hreport .liftL
    | liftR => exact hreport .liftR
    | line => exact hreport .line

end blind

end Sys2Proof.Machine
end


section
namespace Sys2Proof.Machine

section counts
variable {s : State} {tgt h o : Int}

theorem redetermine_far (hdrive : s.pos.drive = .indexing) (htarget : s.pos.target = some tgt)
    (hhead : headChainage s = some h) (hoffset : satOffset s = some o) (hahead : frameChainage s ≤ tgt)
    (hfar : s.params.p12 < ((h - tgt).natAbs : Int)) : redetermine s = (s.driven, []) := by
  unfold redetermine
  rw [hdrive, htarget, hhead, hoffset]
  dsimp only
  rw [if_neg (by omega), if_neg (by omega)]
  rfl

theorem redetermine_reached (hdrive : s.pos.drive = .indexing) (htarget : s.pos.target = some tgt)
    (hhead : headChainage s = some h) (hoffset : satOffset s = some o) (hahead : frameChainage s ≤ tgt)
    (hnear : ((h - tgt).natAbs : Int) ≤ s.params.p12) : redetermine s = enterHolding tgt o s := by
  unfold redetermine
  rw [hdrive, htarget, hhead, hoffset]
  dsimp only
  rw [if_neg (by omega), if_pos hnear]

theorem redetermine_holding (hdrive : s.pos.drive = .holding) (htarget : s.pos.target = some tgt)
    (hhead : headChainage s = some h) (hoffset : satOffset s = some o) :
    redetermine s = holdingReports (decide (((h - tgt).natAbs : Int) > s.params.p14)) (decide (o ≤ 0)) s := by
  unfold redetermine
  rw [hdrive, htarget, hhead, hoffset]

theorem redetermine_riding (hdrive : s.pos.drive = .riding) : redetermine s = (s.driven, []) := by
  unfold redetermine
  rw [hdrive]
  rfl

/-- A drive that goes on, with nothing to act on. -/
theorem afterDrive_goesOn (hno : s.InWorkOrOut) : DriveGoesOn s (afterDrive (s.driven, [])) := by
  obtain ⟨cond, slot, heq⟩ := refreshDemand_eq s.driven
  have hafter : afterDrive (s.driven, []) = refreshDemand s.driven := afterDrive_eq (p := (s.driven, [])) (hno.of_cyc rfl)
  rw [hafter, heq]
  exact ⟨rfl, rfl, rfl, rfl⟩

theorem actOnStop_of_unarmed (h : s.cond.armed = none) : actOnStop s = s := by
  unfold actOnStop
  rw [h]

/-- An indexing drive that goes on, with no stop armed. -/
theorem afterDrive_indexing (hdrive : s.pos.drive = .indexing) (hphase : s.cyc.phase = .indexing)
    (harmed : s.cond.armed = none) : DriveGoesOn s (afterDrive (s.driven, [])) := by
  have hgo : strokeTermOf s.driven = .go := strokeTermOf_not_holding (by
    show s.pos.drive ≠ .holding
    rw [hdrive]
    decide)
  have hafter : afterDrive (s.driven, []) = refreshDemand s.driven := by
    show seek (actOnStop (refreshDemand s.driven)) = _
    rw [refreshDemand_go hgo, actOnStop_of_unarmed (by exact harmed), seek_of_not_seeking fun _ => by
      show s.cyc.phase ≠ .seek
      rw [hphase]
      decide]
  rw [hafter, refreshDemand_go hgo]
  exact ⟨rfl, rfl, rfl, rfl⟩

/-- The drive HOLDING with its two markers as they are found. -/
def State.marked (s : State) (lost atEnd : Bool) : State :=
  (s.modPos fun p => { p with holdLost := lost, strokeEnd := atEnd }).driven

theorem marked_goesOn (lost atEnd : Bool) (hno : s.InWorkOrOut) :
    DriveGoesOn s (afterDrive (s.marked lost atEnd, []))
      ∧ (afterDrive (s.marked lost atEnd, [])).pos.holdLost = lost
      ∧ (afterDrive (s.marked lost atEnd, [])).pos.strokeEnd = atEnd := by
  obtain ⟨cond, slot, heq⟩ := refreshDemand_eq (s.marked lost atEnd)
  have hafter : afterDrive (s.marked lost atEnd, []) = refreshDemand (s.marked lost atEnd) :=
    afterDrive_eq (p := (s.marked lost atEnd, [])) (hno.of_cyc rfl)
  rw [hafter, heq]
  exact ⟨⟨rfl, rfl, rfl, rfl⟩, rfl, rfl⟩

/-- The drive HOLDING, judged (R28, R29, R30). -/
theorem holding_judged (hdrive : s.pos.drive = .holding) (htarget : s.pos.target = some tgt)
    (hhead : headChainage s = some h) (hoffset : satOffset s = some o) (hmode : s.cyc.mode = .work)
    (hphase : s.cyc.phase = .arrived ∨ s.cyc.phase = .working ∨ s.cyc.phase = .clearing) :
    HoldingJudged s (afterDrive (redetermine s)) ((h - tgt).natAbs : Int) o := by
  let lost := decide (((h - tgt).natAbs : Int) > s.params.p14)
  let atEnd := decide (o ≤ 0)
  have hlost : lost = true ↔ s.params.p14 < ((h - tgt).natAbs : Int) := decide_eq_true_iff
  have hatEnd : atEnd = true ↔ o ≤ 0 := decide_eq_true_iff
  have hrides (x : State) (report : DriveReport) (rest : List DriveReport) (cause : HaltCause) (hx : x.cyc = s.cyc)
      (hreport : onDriveReport x report = hardHalt cause none (refreshDemand x)) :
      (afterDrive (x, report :: rest)).cyc = haltedCycle cause none s.cyc.resetCause
        ∧ (afterDrive (x, report :: rest)).pos.drive = .riding ∧ (afterDrive (x, report :: rest)).pos.output = .stop := by
    have hxcyc : (refreshDemand x).cyc = s.cyc := (refreshDemand_cyc x).trans hx
    obtain ⟨hcyc, hdrv, hout, -⟩ := afterDrive_halted (rest := rest) hreport (by rw [hxcyc]; exact hmode)
    rw [hxcyc] at hcyc
    exact ⟨hcyc, hdrv, hout⟩
  have hlostHalts (x : State) (rest : List DriveReport) (hx : x.cyc = s.cyc) :=
    hrides x .holdLost rest .holdLost hx (onDriveReport_holdLost (by rw [hx]; exact hmode) (by rw [hx]; exact hphase))
  have hendHalts (x : State) (rest : List DriveReport) (hx : x.cyc = s.cyc) :=
    hrides x .strokeEnd rest .strokeEnd hx (onDriveReport_strokeEnd (by rw [hx]; exact hmode) (by rw [hx]; exact hphase))
  rw [redetermine_holding hdrive htarget hhead hoffset]
  have hreports : holdingReports lost atEnd s
      = match lost && !s.pos.holdLost, atEnd && !s.pos.strokeEnd with
        | true, true => ((s.marked lost atEnd).freeOrder.2,
            if (s.marked lost atEnd).freeOrder.1 then [.holdLost, .strokeEnd] else [.strokeEnd, .holdLost])
        | true, false => (s.marked lost atEnd, [.holdLost])
        | false, true => (s.marked lost atEnd, [.strokeEnd])
        | false, false => (s.marked lost atEnd, []) := by
    unfold holdingReports
    dsimp only
    cases lost && !s.pos.holdLost <;> cases atEnd && !s.pos.strokeEnd <;> rfl
  have hdueLost : (lost && !s.pos.holdLost) = true ↔ s.params.p14 < ((h - tgt).natAbs : Int) ∧ s.pos.holdLost = false := by
    rw [Bool.and_eq_true, hlost, Bool.not_eq_true']
  have hdueEnd : (atEnd && !s.pos.strokeEnd) = true ↔ o ≤ 0 ∧ s.pos.strokeEnd = false := by
    rw [Bool.and_eq_true, hatEnd, Bool.not_eq_true']
  have hnotLost (himp : s.params.p14 < ((h - tgt).natAbs : Int) → s.pos.holdLost = true) :
      (lost && !s.pos.holdLost) = false := Bool.eq_false_iff.mpr fun hd => by
    obtain ⟨h1, h2⟩ := hdueLost.mp hd
    exact Bool.false_ne_true (h2.symm.trans (himp h1))
  have hnotEnd (himp : o ≤ 0 → s.pos.strokeEnd = true) : (atEnd && !s.pos.strokeEnd) = false :=
    Bool.eq_false_iff.mpr fun hd => by
      obtain ⟨h1, h2⟩ := hdueEnd.mp hd
      exact Bool.false_ne_true (h2.symm.trans (himp h1))
  show HoldingJudged s (afterDrive (holdingReports lost atEnd s)) _ o
  rw [hreports]
  refine ⟨fun hl he => ?_, fun hl hs he => ?_, fun he hs hl => ?_, fun hl hs he hs' => ?_⟩
  · rw [hnotLost hl, hnotEnd he]
    obtain ⟨hgo, hmarkLost, hmarkEnd⟩ := marked_goesOn lost atEnd fun _ => hphase
    refine ⟨hgo, ?_, ?_⟩
    · rw [hmarkLost]
      exact hlost
    · rw [hmarkEnd]
      exact hatEnd
  · rw [hdueLost.mpr ⟨hl, hs⟩, hnotEnd he]
    exact hlostHalts _ _ rfl
  · rw [hnotLost hl, hdueEnd.mpr ⟨he, hs⟩]
    exact hendHalts _ _ rfl
  · rw [hdueLost.mpr ⟨hl, hs⟩, hdueEnd.mpr ⟨he, hs'⟩]
    dsimp only
    split
    · exact .inl (hlostHalts _ _ rfl)
    · exact .inr (hendHalts _ _ rfl)

end counts

/-- The first channel without a reading (R151). -/
theorem missingChannel_eq {s : State} {m : ChannelId} (h : let has := fun c : ChannelId => (s.count.get c).nulled
    m = .lat ∧ has .lat = false
      ∨ m = .lvlL ∧ has .lat = true ∧ has .lvlL = false
      ∨ m = .lvlR ∧ has .lat = true ∧ has .lvlL = true ∧ has .lvlR = false
      ∨ m = .xl ∧ has .lat = true ∧ has .lvlL = true ∧ has .lvlR = true ∧ has .xl = false) :
    missingChannel s = m ∧ snapshotReadings s = none := by
  have hnone (c : ChannelId) (hc : (s.count.get c).nulled = false) : reading c s = none := reading_none hc
  have hsome (c : ChannelId) (hc : (s.count.get c).nulled = true) : ∃ x, reading c s = some x := reading_isSome hc
  unfold missingChannel snapshotReadings
  rcases h with ⟨rfl, h1⟩ | ⟨rfl, h1, h2⟩ | ⟨rfl, h1, h2, h3⟩ | ⟨rfl, h1, h2, h3, h4⟩
  · rw [hnone .lat h1]
    exact ⟨rfl, rfl⟩
  · obtain ⟨a, ha⟩ := hsome .lat h1
    rw [ha, hnone .lvlL h2]
    exact ⟨rfl, rfl⟩
  · obtain ⟨a, ha⟩ := hsome .lat h1
    obtain ⟨b, hb⟩ := hsome .lvlL h2
    rw [ha, hb, hnone .lvlR h3]
    exact ⟨rfl, rfl⟩
  · obtain ⟨a, ha⟩ := hsome .lat h1
    obtain ⟨b, hb⟩ := hsome .lvlL h2
    obtain ⟨c, hc⟩ := hsome .lvlR h3
    rw [ha, hb, hc, hnone .xl h4]
    exact ⟨rfl, rfl⟩

theorem snapshotReadings_some {s : State} (h : ∀ c, c = .lat ∨ c = .lvlL ∨ c = .lvlR ∨ c = .xl → (s.count.get c).nulled = true) :
    ∃ v, snapshotReadings s = some v := by
  obtain ⟨a, ha⟩ := reading_isSome (h .lat (by simp))
  obtain ⟨b, hb⟩ := reading_isSome (h .lvlL (by simp))
  obtain ⟨c, hc⟩ := reading_isSome (h .lvlR (by simp))
  obtain ⟨d, hd⟩ := reading_isSome (h .xl (by simp))
  unfold snapshotReadings
  rw [ha, hb, hc, hd]
  exact ⟨_, rfl⟩

/-- Settles O27: the command, and the re-determination that follows a count. -/
theorem satelliteJudged : Obligations.SatelliteJudged := by
  refine ⟨drive_commanded, ?_⟩
  intro s t0 n hpower hsince hpaired ch hn hlo hhi counted has
  have hexec : exec (.filterWindowExpiry (.channelA .sat)) s = .next (arbitrate (afterDrive (redetermine counted))) :=
    exec_countA (c := .sat) hpower hpaired hsince hn hlo hhi
  have hkept := Kept.fixed_eq (redetermined_kept counted)
  have hcount := count_of_fixed hkept
  have hclock := clock_of_fixed hkept
  refine ⟨_, hexec, by rw [arbitrate_count, hcount], fun hdrive hno => ?_, fun tgt h o htarget hhead hoffset =>
    ⟨fun hdrive hmode hphase harmed hahead hfar => ?_, ?_, ?_, fun hdrive hmode hphase => ?_⟩⟩
  · rw [redetermine_riding (s := counted) hdrive]
    have hgo := afterDrive_goesOn (s := counted) (hno.of_cyc rfl)
    unfold DriveGoesOn at hgo ⊢
    rw [arbitrate_pos, arbitrate_cyc]
    exact hgo
  · rw [redetermine_far (s := counted) hdrive htarget hhead hoffset hahead hfar]
    have hgo := afterDrive_indexing (s := counted) hdrive hphase harmed
    unfold DriveGoesOn at hgo ⊢
    rw [arbitrate_pos, arbitrate_cyc]
    exact hgo
  · intro r hdrive hmode hphase hcur hr hstate hahead hnear hpositive hnulled
    have hholding : redetermine counted = ((enterHolding tgt o counted).1, [.arrived]) := by
      rw [redetermine_reached (s := counted) hdrive htarget hhead hoffset hahead hnear]
      unfold enterHolding
      dsimp only
      rw [if_neg (by simp [hpositive])]
    obtain ⟨v, hv⟩ := snapshotReadings_some (s := (enterHolding tgt o counted).1) fun c hc => by
      rcases hc with rfl | rfl | rfl | rfl
      · exact hnulled .lat (by simp)
      · exact hnulled .lvlL (by simp)
      · exact hnulled .lvlR (by simp)
      · exact hnulled .xl (by simp)
    have hcurrent : currentRecord (enterHolding tgt o counted).1 = some r :=
      currentRecord_of (s := (enterHolding tgt o counted).1) hcur hr
    have hphase' : indexPhase (enterHolding tgt o counted).1.cyc.phase = true := congrArg indexPhase hphase
    have harrived := afterDrive_arrived (s := (enterHolding tgt o counted).1) hmode hphase' hcurrent hv
    rw [← hholding] at harrived
    obtain ⟨hslp, hcyc, hdrv, htgt, hout, hlost, hend, -⟩ := harrived
    rw [arbitrate_pos, arbitrate_cyc, arbitrate_slp, driveCommand_arbitrate, arbitrate_clock, hslp, hclock]
    exact ⟨hdrv, htgt, hout, hlost, hend.trans (decide_eq_false (not_le.mpr hpositive)), hcyc,
      mem_modRecord (s := (enterHolding tgt o counted).1) (f := fun r => { r with state := .inWork }) hr⟩
  · intro r m hdrive hmode hphase hcur hr hstate hahead hnear hidle hmissing
    obtain ⟨hchannel, hv⟩ := missingChannel_eq (s := (enterHolding tgt o counted).1) (m := m) hmissing
    have hreport : onDriveReport (enterHolding tgt o counted).1 .arrived = arrival (enterHolding tgt o counted).1 :=
      onDriveReport_arrived (s := (enterHolding tgt o counted).1) hmode (congrArg indexPhase hphase)
    obtain ⟨hcyc, hrides, haxes, hheads, hrecord⟩ :=
      arrival_without (s := (enterHolding tgt o counted).1) hmode hcur hr hidle hv
    have hafter : afterDrive (redetermine counted) = refreshDemand (arrival (enterHolding tgt o counted).1) := by
      rw [redetermine_reached (s := counted) hdrive htarget hhead hoffset hahead hnear]
      have hreports : enterHolding tgt o counted = ((enterHolding tgt o counted).1,
          .arrived :: if decide (o ≤ 0) = true then [.strokeEnd] else []) := by
        unfold enterHolding
        dsimp only
        split <;> rfl
      rw [hreports]
      exact afterDrive_ended hreport (by rw [hcyc]; exact nofun)
    rw [hchannel] at hcyc
    rw [arbitrate_pos, arbitrate_cyc, arbitrate_slp, arbitrate_axes, arbitrate_heads, hafter]
    generalize arrival (enterHolding tgt o counted).1 = t at *
    obtain ⟨hdrv, hout, htgt, -⟩ := refreshDemand_rides hrides
    rw [refreshDemand_cyc, refreshDemand_axes, refreshDemand_heads, refreshDemand_slp]
    exact ⟨hcyc, hdrv, hout, htgt, haxes, hheads, hrecord⟩
  · have hjudged := holding_judged (s := counted) hdrive htarget hhead hoffset hmode hphase
    unfold HoldingJudged DriveGoesOn at hjudged ⊢
    rw [arbitrate_pos, arbitrate_cyc]
    exact hjudged

end Sys2Proof.Machine
end


section
/-! ### SEGMENT_APPEND: its checks (O47, first part) -/

namespace Sys2Proof.Machine

theorem bounded_iff {m x : Int} : bounded m x = true ↔ -m ≤ x ∧ x ≤ m := decide_eq_true_iff

theorem chainageOk_iff {x : Int} : chainageOk x = true ↔ -2000000000 ≤ x ∧ x ≤ 2000000000 := decide_eq_true_iff

theorem ascending_iff {l : List Nat} : ascending l = true ↔ l.Pairwise (· < ·) := by
  refine ⟨pairwise_of_ascending, fun h => ?_⟩
  induction l using ascending.induct with
  | case1 => rfl
  | case2 x => rfl
  | case3 x y rest ih =>
    obtain ⟨hx, hrest⟩ := List.pairwise_cons.mp h
    simp only [ascending, Bool.and_eq_true, decide_eq_true_eq]
    exact ⟨hx y List.mem_cons_self, ih hrest⟩

theorem gradeOf_isSome {g : Byte} : (gradeOf g).isSome = true ↔ g = 0 ∨ g = 1 := by
  unfold gradeOf
  split_ifs <;> simp_all

theorem gradeOf_left {g : Byte} (h : g = 0 ∨ g = 1) : (gradeOf g).getD .left = .left ↔ g = 0 := by
  rcases h with rfl | rfl <;> decide

theorem surveyOk_iff {v : Survey} : surveyOk v = true ↔
    (-5000 ≤ v.lat0 ∧ v.lat0 ≤ 5000) ∧ (-5000 ≤ v.lat1 ∧ v.lat1 ≤ 5000) ∧ (-5000 ≤ v.vert0 ∧ v.vert0 ≤ 5000)
      ∧ (-5000 ≤ v.vert1 ∧ v.vert1 ≤ 5000) := by
  simp only [surveyOk, Bool.and_eq_true, bounded_iff, and_assoc]

theorem bearerOk_iff {length : Int} {e : BearerBody} : bearerOk length e = true ↔
    (e.offset : Int) < length ∧ e.tamp.toNat < 16 ∧ e.tilt.toNat < 16 ∧ 1 ≤ e.insertions ∧ e.insertions ≤ 4
      ∧ (-50 ≤ e.depthOffset ∧ e.depthOffset ≤ 50) := by
  simp only [bearerOk, unitsOnly, Bool.and_eq_true, decide_eq_true_eq, bounded_iff, and_assoc]

section checks
variable {b : SegmentBody} {segs : List Segment} {s : State}

/-- The start and the end that a body proposes lie in the chainage range. -/
theorem stretch_inRange : (b.start.all chainageOk = true ∧ (proposedEnd b segs).all chainageOk = true) ↔
    (∀ x, b.start = some x → (-2000000000 ≤ x ∧ x ≤ 2000000000)
        ∧ (-2000000000 ≤ x + b.length ∧ x + b.length ≤ 2000000000))
      ∧ (b.start = none → ∀ e, queueEnd segs = some e →
        -2000000000 ≤ e + b.length ∧ e + b.length ≤ 2000000000) := by
  unfold proposedEnd
  cases b.start with
  | some x => simp [chainageOk_iff]
  | none => cases queueEnd segs <;> simp [chainageOk_iff]

/-- Step 1 of R42, the bearer list apart. -/
theorem bearers_inRange : ((listOf b).length ≤ 24 ∧ (∀ e ∈ listOf b, bearerOk b.length e = true)
      ∧ ascending ((listOf b).map (·.offset)) = true) ↔
    ∀ l, b.bearers = some l → l.length ≤ 24 ∧ (l.map (·.offset)).Pairwise (· < ·)
      ∧ ∀ e ∈ l, (e.offset : Int) < b.length ∧ e.tamp.toNat < 16 ∧ e.tilt.toNat < 16
        ∧ 1 ≤ e.insertions ∧ e.insertions ≤ 4 ∧ (-50 ≤ e.depthOffset ∧ e.depthOffset ≤ 50) := by
  simp only [bearerOk_iff, ascending_iff, listOf]
  cases b.bearers with
  | some l => simp only [Option.getD_some, Option.some.injEq, forall_eq', and_comm (b := ∀ e ∈ l, _)]
  | none => simp

theorem survey_inRange : b.survey.all surveyOk = true ↔ ∀ v, b.survey = some v →
    (-5000 ≤ v.lat0 ∧ v.lat0 ≤ 5000) ∧ (-5000 ≤ v.lat1 ∧ v.lat1 ≤ 5000) ∧ (-5000 ≤ v.vert0 ∧ v.vert0 ≤ 5000)
      ∧ (-5000 ≤ v.vert1 ∧ v.vert1 ≤ 5000) := by
  cases b.survey <;> simp [surveyOk_iff]

/-- Step 1 of the validation, written out (R42). -/
theorem segmentInRange_iff : segmentInRange b segs = true ↔
    (1000 ≤ b.length ∧ b.length ≤ 500000)
      ∧ (∀ x, b.start = some x → (-2000000000 ≤ x ∧ x ≤ 2000000000)
        ∧ (-2000000000 ≤ x + b.length ∧ x + b.length ≤ 2000000000))
      ∧ (b.start = none → ∀ e, queueEnd segs = some e →
        -2000000000 ≤ e + b.length ∧ e + b.length ≤ 2000000000)
      ∧ (-10000 ≤ b.kh0 ∧ b.kh0 ≤ 10000) ∧ (-10000 ≤ b.kh1 ∧ b.kh1 ≤ 10000)
      ∧ (-1000 ≤ b.kv0 ∧ b.kv0 ≤ 1000) ∧ (-1000 ≤ b.kv1 ∧ b.kv1 ≤ 1000)
      ∧ (-2000 ≤ b.cant0 ∧ b.cant0 ≤ 2000) ∧ (-2000 ≤ b.cant1 ∧ b.cant1 ≤ 2000) ∧ (b.grade = 0 ∨ b.grade = 1)
      ∧ (∀ v, b.survey = some v →
        (-5000 ≤ v.lat0 ∧ v.lat0 ≤ 5000) ∧ (-5000 ≤ v.lat1 ∧ v.lat1 ≤ 5000)
          ∧ (-5000 ≤ v.vert0 ∧ v.vert0 ≤ 5000) ∧ (-5000 ≤ v.vert1 ∧ v.vert1 ≤ 5000))
      ∧ (∀ l, b.bearers = some l → l.length ≤ 24 ∧ (l.map (·.offset)).Pairwise (· < ·)
        ∧ ∀ e ∈ l, (e.offset : Int) < b.length ∧ e.tamp.toNat < 16 ∧ e.tilt.toNat < 16
          ∧ 1 ≤ e.insertions ∧ e.insertions ≤ 4 ∧ (-50 ≤ e.depthOffset ∧ e.depthOffset ≤ 50)) := by
  rw [← and_assoc (a := ∀ x, b.start = some x → _), ← stretch_inRange, ← bearers_inRange, ← survey_inRange,
    ← gradeOf_isSome]
  simp only [segmentInRange, Bool.and_eq_true, decide_eq_true_eq, List.all_eq_true, bounded_iff, and_assoc]

/-- Step 2 refuses a start that is not the queue end, and a missing one with an empty queue (R43). -/
theorem segmentGap_iff : segmentGap b segs = true ↔
    segs ≠ [] ∧ (∃ x, b.start = some x ∧ queueEnd segs ≠ some x) ∨ segs = [] ∧ b.start = none := by
  unfold segmentGap queueEnd
  rcases List.eq_nil_or_concat segs with rfl | ⟨init, g, rfl⟩
  · cases b.start <;> simp
  · cases b.start <;> simp [ne_comm]

/-- Step 3 refuses a first segment at or below the rear bound (R43). -/
theorem segmentBehind_iff : segmentBehind b s = true ↔
    s.seg.segments = [] ∧ ∃ x, b.start = some x ∧ x + b.length ≤ rearBound s := by
  unfold segmentBehind
  cases b.start <;> simp

end checks

section refusals
variable {b : SegmentBody} {s : State}

theorem appendRefusal_outOfRange (h : segmentInRange b s.seg.segments = false) :
    appendRefusal b s = some .outOfRange := by
  rw [appendRefusal, h]
  rfl

theorem appendRefusal_gap (h : segmentInRange b s.seg.segments = true) (hgap : segmentGap b s.seg.segments = true) :
    appendRefusal b s = some .segGap := by
  rw [appendRefusal, h, hgap]
  rfl

theorem appendRefusal_behind (h : segmentInRange b s.seg.segments = true)
    (hgap : ¬ segmentGap b s.seg.segments = true) (hbehind : segmentBehind b s = true) :
    appendRefusal b s = some .segBehind := by
  rw [appendRefusal, h, (Bool.not_eq_true _).mp hgap, hbehind]
  rfl

theorem appendRefusal_room (h : segmentInRange b s.seg.segments = true)
    (hgap : ¬ segmentGap b s.seg.segments = true) (hbehind : ¬ segmentBehind b s = true) :
    appendRefusal b s = if maxSegments ≤ s.seg.segments.length then some .segFull
      else if freeEntries s.seg.segments < (listOf b).length then some .poolFull else none := by
  rw [appendRefusal, h, (Bool.not_eq_true _).mp hgap, (Bool.not_eq_true _).mp hbehind]
  rfl

end refusals

end Sys2Proof.Machine
end


section
/-! ### SEGMENT_APPEND: the addition (O47) -/

namespace Sys2Proof.Machine

/-! #### What an IDLE engine takes next -/

section engine
variable {s : State} {q : Sleeper} {before after : List Sleeper}

theorem find_first {α : Type} {p : α → Bool} {xs ys : List α} {x : α} (hbefore : ∀ z ∈ xs, p z = false) (hx : p x = true) :
    (xs ++ x :: ys).find? p = some x := by
  rw [List.find?_append, List.find?_eq_none.mpr (fun z hz => by simp [hbefore z hz]), List.find?_cons_of_pos hx]
  rfl

theorem oldestQueued_split (hrecords : s.slp.records = before ++ q :: after) (hq : q.state = .queued)
    (hbefore : ∀ z ∈ before, z.state ≠ .queued) : oldestQueued s = some q := by
  rw [oldestQueued, hrecords]
  exact find_first (fun z hz => decide_eq_false (hbefore z hz)) (decide_eq_true hq)

theorem oldestQueued_none (h : ∀ q ∈ s.slp.records, q.state ≠ .queued) : oldestQueued s = none :=
  List.find?_eq_none.mpr fun q hq => by simp [h q hq]

theorem firstUnfinished_split (hrecords : s.slp.records = before ++ q :: after) (hq : q.state.finished = false)
    (hbefore : ∀ z ∈ before, z.state.finished = true) : firstUnfinished s = some q := by
  rw [firstUnfinished, hrecords]
  exact find_first (fun z hz => by simp [hbefore z hz]) (by simp [hq])

theorem judgeEngine_waits (heng : s.eng = ⟨.idle, none⟩) (hjudged : judgeDesign s = .wait) : judgeEngine s = s := by
  unfold judgeEngine engineLoop
  rw [heng]
  dsimp only
  rw [hjudged]

theorem judgeEngine_begins (heng : s.eng = ⟨.idle, none⟩) (hjudged : judgeDesign s = .begin q) :
    judgeEngine s = beginDesign q s := by
  unfold judgeEngine engineLoop
  rw [heng]
  dsimp only
  rw [hjudged]

theorem judgeEngine_skips (heng : s.eng = ⟨.idle, none⟩) (hjudged : judgeDesign s = .skip q) :
    judgeEngine s = engineLoop s.slp.records.length (noCoverSkip q s) := by
  rw [judgeEngine, engineLoop, heng]
  dsimp only
  rw [hjudged]

theorem judgeDesign_none (h : oldestQueued s = none) : judgeDesign s = .wait := by
  rw [judgeDesign, h]

/-- The judgement of R83 for an oldest QUEUED record whose rear point is covered. -/
theorem judgeDesign_ahead (hq : oldestQueued s = some q) {a b : Int} (ha : queueStart s.seg.segments = some a)
    (hb : queueEnd s.seg.segments = some b) (hrear : a ≤ q.chainage - bMax s.params) :
    judgeDesign s = if b < q.chainage + aMax s.params then .wait else .begin q := by
  rw [judgeDesign, hq, ha, hb]
  exact if_neg (not_lt.mpr hrear)

theorem beginDesign_eq (s : State) (q : Sleeper) :
    beginDesign q s = { s with eng := { s.eng with activity := .designing (designBegun s.params s.seg.segments q) } } :=
  rfl

end engine

/-! #### The addition -/

section addition
variable {s : State} {b : SegmentBody}

/-- In READY and HALTED the look-ahead and the engine alone act on an append. -/
theorem afterAppend_resting (h : s.cyc.mode = .ready ∨ s.cyc.mode = .halted) :
    afterAppend s = judgeEngine (judgeLookAhead true s) := by
  have hwork : s.cyc.mode ≠ .work := by rcases h with h | h <;> rw [h] <;> decide
  have hpaused : s.cyc.mode ≠ .paused := by rcases h with h | h <;> rw [h] <;> decide
  have hlook : (judgeLookAhead true s).cyc = s.cyc := by rw [judgeLookAhead_eq]
  have houtside := (judgeEngine_of_not_work (s := judgeLookAhead true s) (by rw [hlook]; exact hwork)).1
  rw [afterAppend_of_not_work hwork, judgePassing_closed (takesEntries_closed (by rw [hlook]; exact hwork) (by rw [hlook]; exact hpaused)),
    seek_of_not_work (by rw [cyc_of_outside houtside, hlook]; exact hwork)]

theorem appendStart_given (hgap : ¬ segmentGap b s.seg.segments = true) :
    b.start = some (appendStart b s.seg.segments)
      ∨ b.start = none ∧ queueEnd s.seg.segments = some (appendStart b s.seg.segments) := by
  rw [segmentGap_iff, not_or] at hgap
  obtain ⟨-, hfirst⟩ := hgap
  unfold appendStart
  cases hstart : b.start with
  | some x => exact Or.inl rfl
  | none =>
    refine Or.inr ⟨rfl, ?_⟩
    rcases List.eq_nil_or_concat s.seg.segments with hnil | ⟨init, g, hsegs⟩
    · exact absurd ⟨hnil, hstart⟩ hfirst
    · rw [hsegs, queueEnd]
      simp

theorem queueEnd_concat (segs : List Segment) (g : Segment) : queueEnd (segs ++ [g]) = some g.endAt := by
  simp [queueEnd]

theorem poolOf_concat (segs : List Segment) (g : Segment) : poolOf (segs ++ [g]) = poolOf segs ++ g.bearers := by
  simp [poolOf]

/-- The bytes of an append's reply (R44). -/
theorem appendReply_eq (b : SegmentBody) (s : State) :
    appendReply (heldSegment (appendStart b s.seg.segments) b) (appendSegment b s)
      = beBytes 2 b.id ++ signedField 4 (appendStart b s.seg.segments)
        ++ signedField 4 (appendStart b s.seg.segments + b.length)
        ++ [BitVec.ofNat 8 (s.seg.segments.length + 1)]
        ++ [BitVec.ofNat 8 (192 - ((poolOf s.seg.segments).length + ((b.bearers.getD []).length : Nat)))] := by
  have hsegments : (appendSegment b s).seg.segments
      = s.seg.segments ++ [heldSegment (appendStart b s.seg.segments) b] := rfl
  have hbearers : (heldSegment (appendStart b s.seg.segments) b).bearers.length = (b.bearers.getD []).length :=
    List.length_map _
  rw [appendReply, hsegments, freeEntries, bearersHeld_eq, poolOf_concat, List.length_append, List.length_append, hbearers]
  rfl

variable {dt : Nat} {tag : Byte}

/-- An accepted append in READY and HALTED, with what the engine makes of the longer queue. -/
theorem append_resting (hs : s.Listens) (hmode : s.cyc.mode = .ready ∨ s.cyc.mode = .halted)
    (hb : appendRefusal b s = none) {g : Segment} (hg : g = heldSegment (appendStart b s.seg.segments) b) {reach : Int}
    (hreach : reach = detectorChainage s + max s.params.p01 s.params.p03 + s.params.p36) {t0 : State}
    (ht0 : t0 = judgeLookAhead true (appendSegment b (s.arriving dt 0x05 tag (.segmentAppend b)))) {eng : Engine}
    (heng : judgeEngine t0 = { t0 with eng := eng }) :
    exec (.segmentAppend dt tag b) s = .next { s.beginAt dt with
      seg := { s.seg with segments := s.seg.segments ++ [g], lookAhead := wanting (s.seg.segments ++ [g]) reach }
      eng := eng
      link := { s.answering dt (.segmentAppend b) tag .ok
          (beBytes 2 b.id ++ signedField 4 (appendStart b s.seg.segments)
            ++ signedField 4 (appendStart b s.seg.segments + b.length)
            ++ [BitVec.ofNat 8 (s.seg.segments.length + 1)]
            ++ [BitVec.ofNat 8 (192 - ((poolOf s.seg.segments).length + ((b.bearers.getD []).length : Nat)))]) with
        segSlot := s.wantedSlot (s.seg.segments ++ [g]) reach true } } := by
  have htaken := takeAppend_taken (s := s.arriving dt 0x05 tag (.segmentAppend b)) (body := b) hb
  rw [afterAppend_resting (s := appendSegment b (s.arriving dt 0x05 tag (.segmentAppend b))) hmode, ← ht0, heng,
    appendReply_eq] at htaken
  have hseg : t0 = { s.arriving dt 0x05 tag (.segmentAppend b) with
      seg := { s.seg with segments := s.seg.segments ++ [g], lookAhead := wanting (s.seg.segments ++ [g]) reach }
      link := { (s.arriving dt 0x05 tag (.segmentAppend b)).link with
        segSlot := s.wantedSlot (s.seg.segments ++ [g]) reach true } } := by
    rw [ht0, judgeLookAhead_eq, hg, hreach, wantedSlot_eq]
    rfl
  rw [hseg] at htaken
  exact congrArg Host.Outcome.next
    ((request_answered_fixed (r := .segmentAppend b) hs htaken (by rfl)).trans (by rfl))

end addition

end Sys2Proof.Machine
end


section
/-! ### SEGMENT_APPEND as a whole (O47) -/

namespace Sys2Proof.Machine

section append
variable {s : State} {b : SegmentBody} {dt : Nat} {tag : Byte}

theorem append_refused (hs : s.Listens) {status : Status} (h : appendRefusal b s = some status) :
    exec (.segmentAppend dt tag b) s
      = .next { s.beginAt dt with link := s.answering dt (.segmentAppend b) tag status [] } :=
  congrArg Host.Outcome.next (request_refused (r := .segmentAppend b) hs
    (takeAppend_refused (s := s.arriving dt 0x05 tag (.segmentAppend b)) h))

end append

/-- Settles O47: the checks in their order, and what the engine makes of the longer queue. -/
theorem segmentAppended : Obligations.SegmentAppended := by
  intro s dt tag b hs r segs refused gap behind count within reach
  have hgap : segmentGap b segs = true ↔ gap := segmentGap_iff
  have hbehind : segmentBehind b s = true ↔ behind := segmentBehind_iff
  have hfree : freeEntries segs = 192 - (poolOf segs).length := by
    rw [freeEntries, bearersHeld_eq, poolSize]
  refine ⟨segmentInRange_iff, fun h => append_refused hs (appendRefusal_outOfRange h),
    fun h hg => append_refused hs (appendRefusal_gap h (hgap.mpr hg)),
    fun h hg hb => append_refused hs (appendRefusal_behind h (hgap.not.mpr hg) (hbehind.mpr hb)),
    fun h hg hb hlong => ?_, fun h hg hb hshort hpool hheld => ?_, fun h hg hb hshort hpool hmode => ?_⟩
  · refine append_refused hs ?_
    rw [appendRefusal_room h (hgap.not.mpr hg) (hbehind.not.mpr hb)]
    exact if_pos hlong
  · refine append_refused hs ?_
    have hlack : 192 - (poolOf segs).length < (b.bearers.getD []).length := by
      change 192 < (poolOf segs).length + (b.bearers.getD []).length at hpool
      omega
    exact (appendRefusal_room h (hgap.not.mpr hg) (hbehind.not.mpr hb)).trans
      ((if_neg (not_le.mpr hshort)).trans (if_pos (hfree.symm ▸ hlack)))
  have hnone : appendRefusal b s = none := by
    have hroom : ¬ 192 - (poolOf segs).length < (b.bearers.getD []).length := by
      change (poolOf segs).length + (b.bearers.getD []).length ≤ 192 at hpool
      omega
    exact (appendRefusal_room h (hgap.not.mpr hg) (hbehind.not.mpr hb)).trans
      ((if_neg (not_le.mpr hshort)).trans (if_neg (hfree.symm ▸ hroom)))
  have hgrade : b.grade = 0 ∨ b.grade = 1 := by
    obtain ⟨-, -, -, -, -, -, -, -, -, hgrade, -⟩ := segmentInRange_iff.mp h
    exact hgrade
  have hplanned : b.bearers.isSome = true ↔ b.bearers ≠ none := Option.isSome_iff_ne_none
  refine ⟨heldSegment (appendStart b segs) b, appendStart b segs, appendStart_given (hgap.not.mpr hg), rfl, rfl, rfl,
    rfl, rfl, rfl, rfl, rfl, rfl, gradeOf_left hgrade, rfl, hplanned, rfl, ?_⟩
  intro leaves
  let g := heldSegment (appendStart b segs) b
  let t0 := judgeLookAhead true (appendSegment b (s.arriving dt 0x05 tag (.segmentAppend b)))
  have hadded : ∀ eng, judgeEngine t0 = { t0 with eng := eng } → leaves eng := fun eng heng =>
    append_resting hs hmode hnone (g := g) rfl rfl rfl heng
  have ht0 : t0.eng = s.eng ∧ t0.slp = s.slp ∧ t0.params = s.params ∧ t0.seg.segments = segs ++ [g] := by
    rw [show t0 = _ from judgeLookAhead_eq _ _]
    exact ⟨rfl, rfl, rfl, rfl⟩
  clear_value t0
  obtain ⟨heng, hslp, hparams, hsegs⟩ := ht0
  have hstays : judgeEngine t0 = t0 → leaves s.eng := fun h => hadded s.eng (by rw [h, ← heng])
  refine ⟨fun hbusy => hstays (judgeEngine_busy ?_), fun hidle hnoneQueued => hstays (judgeEngine_waits ?_ ?_),
    fun hidle before q after hrecords hq hbefore first hfirst hrear => ?_⟩
  · obtain ⟨p, hp⟩ := hbusy
    rw [heng, hp]
    exact nofun
  · rw [heng, hidle]
  · exact judgeDesign_none (oldestQueued_none (by rw [hslp]; exact hnoneQueued))
  have hqueued : oldestQueued t0 = some q := oldestQueued_split (by rw [hslp]; exact hrecords) hq hbefore
  have hstart : queueStart t0.seg.segments = some first.start := by rw [hsegs, queueStart, hfirst]; rfl
  have hend : queueEnd t0.seg.segments = some g.endAt := by rw [hsegs]; exact queueEnd_concat segs g
  have hjudged := judgeDesign_ahead hqueued hstart hend (by rw [hparams]; exact hrear)
  have hfront : q.chainage + aMax t0.params = q.chainage + max s.params.p01 s.params.p03 := by rw [hparams]; rfl
  have hidle0 : t0.eng = ⟨.idle, none⟩ := heng.trans hidle
  refine ⟨fun hcovered => ?_, fun hshortfall => hstays ?_⟩
  · refine hadded _ ?_
    rw [hfront] at hjudged
    rw [judgeEngine_begins hidle0 (hjudged.trans (if_neg (not_lt.mpr hcovered))), beginDesign_eq, hidle0, hparams, hsegs]
  · rw [hfront] at hjudged
    exact judgeEngine_waits hidle0 (hjudged.trans (if_pos hshortfall))

end Sys2Proof.Machine
end


section
/-! ### START and the selection of SEEK (O50) -/

namespace Sys2Proof.Machine

/-! #### Sets of units -/

theorem unitIn_unitsWhere (u : UnitId) (p : UnitId → Bool) : unitIn u (unitsWhere p) = p u := by
  have hbit (b : Bool) (x : UnitSet) (i : Nat) : (if b then x else 0#4).getLsbD i = (b && x.getLsbD i) := by
    cases b
    · simp
    · simp
  unfold unitIn unitsWhere
  simp only [BitVec.getLsbD_or, hbit]
  cases u <;> simp [unitNumber]

theorem unitSet_ext {a b : UnitSet} (h : ∀ u, unitIn u a = unitIn u b) : a = b := by
  refine BitVec.eq_of_getLsbD_eq fun i hi => ?_
  match i, hi with
  | 0, _ => exact h .LO
  | 1, _ => exact h .LI
  | 2, _ => exact h .RI
  | 3, _ => exact h .RO

theorem unitIn_planTamp (u : UnitId) (r : Sleeper) :
    unitIn u (planTamp r) = true ↔ r.plan = none ∨ ∃ p, r.plan = some p ∧ unitIn u p.tamp = true := by
  have hall : unitIn u allUnitSet = true := by cases u <;> decide
  unfold planTamp
  cases r.plan <;> simp [hall]

/-- A unit that can work a record (R146): of its tamp set and of the head set, and not FAULTED. -/
def State.Usable (s : State) (r : Sleeper) (u : UnitId) : Prop :=
  (r.plan = none ∨ ∃ p, r.plan = some p ∧ unitIn u p.tamp = true)
    ∧ unitIn u s.headSet = true ∧ (s.heads.get u).state ≠ .faulted

theorem unitIn_activeSetFor (u : UnitId) (r : Sleeper) (s : State) :
    unitIn u (activeSetFor r s) = true ↔ s.Usable r u := by
  rw [activeSetFor, unitIn_unitsWhere, Bool.and_eq_true, Bool.and_eq_true, unitIn_planTamp, decide_eq_true_eq, and_assoc]
  rfl

/-- The active set of a record is the one that the units fix. -/
theorem activeSetFor_eq {r : Sleeper} {s : State} {active : UnitSet} (h : ∀ u, unitIn u active = true ↔ s.Usable r u) :
    activeSetFor r s = active :=
  unitSet_ext fun u => Bool.eq_iff_iff.mpr ((unitIn_activeSetFor u r s).trans (h u).symm)

/-! #### The checks of START -/

section checks
variable {s : State}

theorem startNulled_iff : startNulled s = true ↔
    (∀ c, c = .sat ∨ c = .lat ∨ c = .lvlL ∨ c = .lvlR ∨ c = .xl → (s.count.get c).nulled = true)
      ∧ ∀ u, (s.heads.get u).state = .faulted ∨ (s.count.get (.dep u)).nulled = true := by
  have hunits : (∀ u ∈ allUnits, (s.heads.get u).state = .faulted ∨ (s.count.get (.dep u)).nulled = true)
      ↔ ∀ u, (s.heads.get u).state = .faulted ∨ (s.count.get (.dep u)).nulled = true :=
    ⟨fun h u => h u (mem_allUnits u), fun h u _ => h u⟩
  simp only [startNulled, Bool.and_eq_true, Bool.or_eq_true, List.all_eq_true, decide_eq_true_eq, hunits]
  simp

theorem anyParking_iff : anyParking s = true ↔ ∃ u, (s.heads.get u).state = .parking := by
  simp [anyParking, mem_allUnits]

end checks

/-! #### The entry into WORK -/

section entry
variable {s : State}

/-- The state right after the entry into WORK, the demand not yet judged (R140, R141, R158). -/
def State.entering (s : State) : State :=
  { s with
    cyc := modeCycle .work s.cyc
    link := { s.link with
      modeSlot := some ⟨⟨.work, s.cyc.cause, s.cyc.detail, s.cyc.resetCause⟩,
        (s.link.modeSlot.map (·.age)).getD s.eventNo⟩ } }

theorem enterMode_work (s : State) : enterMode .work s = refreshDemand s.entering := by
  have hfilled := fillMode_eq ((((s.modCyc (modeCycle .work)).modCond fun c =>
    { c with armed := if Mode.work = .paused ∨ Mode.work = .halted then none else c.armed }).modSlp fun q =>
      if Mode.work = .halted then { q with detection := none, held := [] } else q).modSeg fun q =>
        { q with starved := if Mode.work = .work then q.starved else false })
  rw [enterMode, hfilled]
  rfl

/-- The queue term of the demand with the base term behind it (R35). -/
def baseDemand (s : State) : Demand := if 15 ≤ s.slp.records.length then .stop else .go

/-- The state that START leaves before SEEK selects, with the drive at rest and the queue not starved. -/
def State.startedWork (s : State) : State :=
  { s.entering with
    seg := { s.seg with starved := false }
    pos := { s.pos with demand := baseDemand s, strokeTerm := .go } }

theorem demandOf_resting_drive {phase : Phase} (hmode : s.cyc.mode = .work) (hdrive : s.pos.drive ≠ .holding)
    (hphase : s.cyc.phase = phase) (hwait : phase ≠ .waitDesign) : demandOf s = baseDemand s := by
  unfold demandOf baseDemand
  rw [hmode, hphase, strokeTermOf_not_holding hdrive]
  dsimp only
  by_cases h : 15 ≤ s.slp.records.length
  · rw [if_pos h, if_pos (.inl h)]
  · rw [if_neg h, if_neg (by simp [h, hwait])]

theorem isStarved_false {e : Int} (hend : queueEnd s.seg.segments = some e) (h : detectorChainage s ≤ e) :
    isStarved s = false := by
  rw [isStarved, hend]
  exact decide_eq_false (by omega)

theorem judgeStarved_fed (hmode : s.cyc.mode = .work) (h : isStarved s = false) :
    judgeStarved s = { s with seg := { s.seg with starved := false } } := by
  unfold judgeStarved
  rw [if_pos hmode, h]
  rfl

theorem startedWork_eq (hdrive : s.pos.drive ≠ .holding) (hfed : isStarved s = false) (harmed : s.cond.armed = none) :
    actOnStop (judgeStarved (enterMode .work s)) = s.startedWork := by
  have hgo : strokeTermOf s.entering = .go := strokeTermOf_not_holding (s := s.entering) hdrive
  have hdemand : demandOf s.entering = baseDemand s := demandOf_resting_drive (phase := .seek) rfl hdrive rfl (by decide)
  rw [enterMode_work, refreshDemand_go hgo, hdemand, judgeStarved_fed (by rfl) (by exact hfed),
    actOnStop_of_unarmed (by exact harmed)]
  rfl

end entry

end Sys2Proof.Machine
end


section
namespace Sys2Proof.Machine

/-! #### The selection of SEEK -/

section seeking
variable {s : State} {r : Sleeper}

theorem seekLoop_settled (n : Nat) (h : seekDue s = false) : seekLoop n s = s := by
  cases n with
  | zero => rfl
  | succ n => rw [seekLoop, if_neg (by rw [h]; decide)]

theorem seekDue_false (h : s.cyc.mode = .work → s.cyc.phase = .seek → s.cyc.current = none →
    s.cyc.pausePending = false ∧ firstUnfinished s = none) : seekDue s = false := by
  refine Bool.eq_false_iff.mpr fun hd => ?_
  unfold seekDue at hd
  rw [Bool.and_eq_true, decide_eq_true_eq, Bool.or_eq_true] at hd
  obtain ⟨⟨hmode, hphase, hcur⟩, hsome⟩ := hd
  obtain ⟨hpause, hnone⟩ := h hmode hphase hcur
  rw [hpause, hnone] at hsome
  simp at hsome

theorem seek_settled (h : seekDue s = false) : seek s = s := seekLoop_settled _ h

theorem firstUnfinished_none (h : ∀ r ∈ s.slp.records, r.state.finished = true) : firstUnfinished s = none :=
  List.find?_eq_none.mpr fun r hr => by simp [h r hr]

/-- With nothing current SEEK selects the first unfinished record, and goes on from there. -/
theorem seek_selects (hmode : s.cyc.mode = .work) (hphase : s.cyc.phase = .seek) (hcur : s.cyc.current = none)
    (hpause : s.cyc.pausePending = false) (hfirst : firstUnfinished s = some r) :
    seek s = seekLoop s.slp.records.length (selectRecord r s) := by
  have hdue : seekDue s = true := by simp [seekDue, hmode, hphase, hcur, hfirst]
  have hone : seekOnce s = selectRecord r s := by
    unfold seekOnce
    rw [if_neg (by rw [hpause]; decide), hfirst]
  rw [seek, seekLoop, if_pos hdue, hone]

/-- The selection of a record that is waited for ends SEEK's rounds. -/
theorem seek_waits (hmode : s.cyc.mode = .work) (hphase : s.cyc.phase = .seek) (hcur : s.cyc.current = none)
    (hpause : s.cyc.pausePending = false) (hfirst : firstUnfinished s = some r) {t : State} (ht : selectRecord r s = t)
    (hcurrent : t.cyc.current ≠ none) : seek s = t := by
  rw [seek_selects hmode hphase hcur hpause hfirst, ht]
  exact seekLoop_settled _ (seekDue_false fun _ _ h => absurd h hcurrent)

/-- The record selected, with its active set (R146). -/
def State.chosen (s : State) (r : Sleeper) (active : UnitSet) : State :=
  { s with cyc := { s.cyc with current := some r.seq, active := some active } }

theorem selectRecord_queued {active : UnitSet} (hactive : activeSetFor r s = active) (hsome : active ≠ 0)
    (hr : r.state = .queued) : selectRecord r s = setPhase .waitDesign (s.chosen r active) := by
  unfold selectRecord
  rw [hactive]
  dsimp only
  rw [if_neg hsome, hr]
  rfl

theorem selectRecord_designed {active : UnitSet} (hactive : activeSetFor r s = active) (hsome : active ≠ 0)
    (hr : r.state = .designed) : selectRecord r s = judgeReach r (s.chosen r active) := by
  unfold selectRecord
  rw [hactive]
  dsimp only
  rw [if_neg hsome, hr]
  rfl

/-- A change of phase while the drive holds at no sleeper. -/
theorem setPhase_resting (hdrive : s.pos.drive ≠ .holding) (p : Phase) : setPhase p s = { s with
    cyc := { s.cyc with phase := p }
    pos := { s.pos with demand := demandOf { s with cyc := { s.cyc with phase := p } }, strokeTerm := .go } } :=
  refreshDemand_go (s := { s with cyc := { s.cyc with phase := p } }) (strokeTermOf_not_holding hdrive)

theorem demandOf_waiting (hmode : s.cyc.mode = .work) (hphase : s.cyc.phase = .waitDesign) : demandOf s = .stop := by
  unfold demandOf
  rw [hmode]
  exact if_pos (.inr hphase)

/-- The reach judgement of a record too far ahead (R147). -/
theorem judgeReach_far (hahead : 0 ≤ r.chainage - frameChainage s) (hfar : s.params.p09 < r.chainage - frameChainage s) :
    judgeReach r s = setPhase .seek s := by
  unfold judgeReach
  dsimp only
  rw [if_neg (by omega), if_neg (by omega)]

/-- The reach judgement of a record in reach: the index order (R147). -/
theorem judgeReach_near (hahead : 0 ≤ r.chainage - frameChainage s) (hnear : r.chainage - frameChainage s ≤ s.params.p09) :
    judgeReach r s = if (indexOrder r.chainage (setPhase .seek s)).1.pos.drive = .indexing then
        setPhase .indexing (indexOrder r.chainage (setPhase .seek s)).1
      else (indexOrder r.chainage (setPhase .seek s)).2.foldl onDriveReport (indexOrder r.chainage (setPhase .seek s)).1 := by
  unfold judgeReach
  dsimp only
  rw [if_neg (by omega), if_pos hnear]

/-- The drive on its way to a sleeper, with the command it gives (R24, R25). -/
def State.indexingTo (s : State) (target : Int) : State :=
  { s with pos := { s.pos with drive := .indexing, target := some target } }.driven

theorem indexOrder_far {h o : Int} {target : Int} (hhead : headChainage s = some h) (hoffset : satOffset s = some o)
    (hahead : 0 ≤ target - frameChainage s) (hfar : s.params.p12 < ((h - target).natAbs : Int)) :
    indexOrder target s = (s.indexingTo target, []) := by
  unfold indexOrder
  rw [hhead, hoffset]
  dsimp only
  rw [if_neg (by omega), if_neg (by omega)]
  rfl

theorem indexOrder_reached {h o : Int} {target : Int} (hhead : headChainage s = some h) (hoffset : satOffset s = some o)
    (hahead : 0 ≤ target - frameChainage s) (hnear : ((h - target).natAbs : Int) ≤ s.params.p12) :
    indexOrder target s = enterHolding target o s := by
  unfold indexOrder
  rw [hhead, hoffset]
  dsimp only
  rw [if_neg (by omega), if_pos hnear]

theorem satOffset_of_fixed {t : State} (h : t.kept.fixed = s.kept.fixed) : satOffset t = satOffset s :=
  reading_congr (congrArg (fun q : CountUnit => q.get .sat) (count_of_fixed h)) (params_of_fixed h)

theorem headChainage_of_fixed {t : State} (h : t.kept.fixed = s.kept.fixed) : headChainage t = headChainage s := by
  unfold headChainage
  rw [satOffset_of_fixed h, frameChainage_of_fixed h]

theorem offset_of_head {h : Int} (hhead : headChainage s = some h) : ∃ o, satOffset s = some o := by
  unfold headChainage at hhead
  exact ⟨_, (Option.map_eq_some_iff.mp hhead).choose_spec.1⟩

/-- A record in reach and outside the window: it is indexed to. -/
theorem judgeReach_indexes {h : Int} (hahead : 0 ≤ r.chainage - frameChainage s)
    (hnear : r.chainage - frameChainage s ≤ s.params.p09) (hhead : headChainage s = some h)
    (hfar : s.params.p12 < ((h - r.chainage).natAbs : Int)) :
    judgeReach r s = setPhase .indexing ((setPhase .seek s).indexingTo r.chainage) := by
  have hfixed := Kept.fixed_eq (setPhase_kept .seek s)
  have hhead' : headChainage (setPhase .seek s) = some h := by rw [← hhead]; exact headChainage_of_fixed hfixed
  obtain ⟨o, hoffset⟩ := offset_of_head hhead'
  rw [judgeReach_near hahead hnear, indexOrder_far hhead' hoffset (by rw [frameChainage_of_fixed hfixed]; exact hahead)
    (by rw [params_of_fixed hfixed]; exact hfar)]
  exact if_pos rfl

end seeking

end Sys2Proof.Machine
end


section
namespace Sys2Proof.Machine

/-! #### START -/

section start
variable {s : State} {dt : Nat} {tag : Byte}

/-- START taken where nothing refuses it (R141). -/
theorem takeStart_taken (hmode : s.cyc.mode = .ready ∨ s.cyc.mode = .paused) (hnulled : startNulled s = true)
    (hparking : ∀ u, (s.heads.get u).state ≠ .parking) :
    takeStart s = accepted (seek (actOnStop (judgeStarved (enterMode .work s)))) [] := by
  have hmode' : ¬ (s.cyc.mode = .work ∨ s.cyc.mode = .halted) := by rcases hmode with h | h <;> rw [h] <;> decide
  have hfree : ¬ anyParking s = true := fun h => by
    obtain ⟨u, hu⟩ := anyParking_iff.mp h
    exact hparking u hu
  rw [takeStart, if_neg hmode', if_neg (by rw [hnulled]; decide), if_neg hfree]

theorem takeStart_kept (s : State) :
    (seek (actOnStop (judgeStarved (enterMode .work s)))).kept = s.kept := by
  rw [seek_kept, actOnStop_kept, judgeStarved_kept, enterMode_kept]

/-- What START leaves, its reply apart. -/
theorem start_taken (hs : s.Listens) (hmode : s.cyc.mode = .ready ∨ s.cyc.mode = .paused)
    (hnulled : startNulled s = true) (hparking : ∀ u, (s.heads.get u).state ≠ .parking) {t : State}
    (ht : seek (actOnStop (judgeStarved (enterMode .work (s.arriving dt 0x08 tag .start)))) = t) :
    exec (.start dt tag) s = .next { t with link := { s.answering dt .start tag .ok [] with
      modeSlot := t.link.modeSlot
      condSlot := t.link.condSlot
      segSlot := t.link.segSlot } } := by
  have htaken := takeStart_taken (s := s.arriving dt 0x08 tag .start) hmode hnulled hparking
  have hfixed := Kept.fixed_eq (takeStart_kept (s.arriving dt 0x08 tag .start))
  rw [ht] at htaken hfixed
  exact congrArg Host.Outcome.next (request_answered_fixed (r := .start) hs htaken hfixed)

theorem start_refused (hs : s.Listens) {status : Status}
    (h : takeStart (s.arriving dt 0x08 tag .start) = refusedWith status (s.arriving dt 0x08 tag .start)) :
    exec (.start dt tag) s = .next { s.beginAt dt with link := s.answering dt .start tag status [] } :=
  congrArg Host.Outcome.next (request_refused (r := .start) hs h)

/-- A queue that is found starved at START (R55). -/
theorem start_starved (hstarved : isStarved s = true) (hfree : s.seg.starved = false)
    (hkeeps : ∀ q ∈ s.link.requests, q.progress ≠ .replied → q.request.KeepsFlags) :
    flagIn .segStarved (seek (actOnStop (judgeStarved (enterMode .work s)))).cond.flags = true := by
  have hup := upheld_flagHeld .segStarved
  have hfixed : (enterMode .work s).kept.fixed = s.kept.fixed := Kept.fixed_eq (enterMode_kept .work s)
  have hmode : (enterMode .work s).cyc.mode = .work := by rw [enterMode_work, refreshDemand_cyc]; rfl
  have hseg : (enterMode .work s).seg = s.seg := by
    obtain ⟨cond, slot, heq⟩ := refreshDemand_eq s.entering
    rw [enterMode_work, heq]
    rfl
  have hlate : isStarved (enterMode .work s) = true := by
    rw [← hstarved]
    unfold isStarved
    rw [hseg, detectorChainage_of_fixed hfixed]
  have hset : judgeStarved (enterMode .work s)
      = setFlag .segStarved ((enterMode .work s).modSeg fun q => { q with starved := true }) := by
    unfold judgeStarved
    rw [if_pos hmode, hlate, hseg, hfree]
    rfl
  refine (hup.after_seek (hup.after_actOnStop ⟨?_, ?_⟩)).1
  · rw [hset, flagIn_setFlag]
    simp
  · rw [requests_of_fixed (Kept.fixed_eq (judgeStarved_kept _)), requests_of_fixed hfixed]
    exact hkeeps

end start

end Sys2Proof.Machine
end


section
namespace Sys2Proof.Machine

/-! #### What START comes to (O50) -/

section outcome
variable {s : State} {r : Sleeper} {active : UnitSet}

/-- The state that START leaves in a phase, a record and its active set chosen, and the drive with a target. -/
def State.working (s : State) (phase : Phase) (current : Option Nat) (active : Option UnitSet) (demand : Demand)
    (drive : Drive) (target : Option Int) : State :=
  { s.entering with
    cyc := { s.cyc with
      mode := .work, phase := phase, pausePending := false, current := current, active := active
      stopwatch := none }
    seg := { s.seg with starved := false }
    pos := { s.pos with demand := demand, strokeTerm := .go, drive := drive, target := target } }

theorem startedWork_working (hdrive : s.pos.drive = .riding) :
    s.startedWork = s.working .seek none none (baseDemand s) .riding s.pos.target := by
  have hpos : { s.pos with demand := baseDemand s, strokeTerm := .go }
      = { s.pos with demand := baseDemand s, strokeTerm := .go, drive := .riding, target := s.pos.target } := by
    rw [← hdrive]
  exact congrArg (fun p : Position => { s.startedWork with pos := p }) hpos

theorem started_none (h : ∀ r ∈ s.slp.records, r.state.finished = true) : seek s.startedWork = s.startedWork :=
  seek_settled (seekDue_false fun _ _ _ => ⟨rfl, firstUnfinished_none h⟩)

theorem started_waits (hfirst : firstUnfinished s = some r) {t : State} (ht : selectRecord r s.startedWork = t)
    (hcurrent : t.cyc.current ≠ none) : seek s.startedWork = t :=
  seek_waits (s := s.startedWork) rfl rfl rfl rfl hfirst ht hcurrent

theorem started_queued (hfirst : firstUnfinished s = some r) (hdrive : s.pos.drive = .riding)
    (hactive : activeSetFor r s = active) (hsome : active ≠ 0) (hr : r.state = .queued) :
    seek s.startedWork = s.working .waitDesign (some r.seq) (some active) .stop .riding s.pos.target := by
  have hrest : (s.startedWork.chosen r active).pos.drive ≠ .holding := by
    show s.pos.drive ≠ .holding
    rw [hdrive]
    decide
  have hphase := setPhase_resting hrest .waitDesign
  rw [demandOf_waiting (by rfl) (by rfl), startedWork_working hdrive] at hphase
  refine started_waits hfirst ?_ nofun
  rw [selectRecord_queued (s := s.startedWork) hactive hsome hr, startedWork_working hdrive, hphase]
  rfl

theorem started_designed (hfirst : firstUnfinished s = some r) (hactive : activeSetFor r s = active) (hsome : active ≠ 0)
    (hr : r.state = .designed) {t : State} (ht : judgeReach r (s.startedWork.chosen r active) = t)
    (hcurrent : t.cyc.current ≠ none) : seek s.startedWork = t :=
  started_waits hfirst ((selectRecord_designed (s := s.startedWork) hactive hsome hr).trans ht) hcurrent

/-- SEEK entered again with the record chosen. -/
theorem chosen_seeking (hdrive : s.pos.drive = .riding) : setPhase .seek (s.startedWork.chosen r active)
    = s.working .seek (some r.seq) (some active) (baseDemand s) .riding s.pos.target := by
  have hrest : (s.startedWork.chosen r active).pos.drive ≠ .holding := by
    show s.pos.drive ≠ .holding
    rw [hdrive]
    decide
  have hphase := setPhase_resting hrest .seek
  rw [demandOf_resting_drive (phase := .seek) (by rfl) (by exact hrest) (by rfl) (by decide),
    startedWork_working hdrive] at hphase
  rw [startedWork_working hdrive, hphase]
  rfl

theorem started_far (hfirst : firstUnfinished s = some r) (hdrive : s.pos.drive = .riding)
    (hactive : activeSetFor r s = active) (hsome : active ≠ 0) (hr : r.state = .designed)
    (hahead : 0 ≤ r.chainage - frameChainage s) (hfar : s.params.p09 < r.chainage - frameChainage s) :
    seek s.startedWork = s.working .seek (some r.seq) (some active) (baseDemand s) .riding s.pos.target := by
  refine started_designed hfirst hactive hsome hr ?_ nofun
  rw [judgeReach_far (s := s.startedWork.chosen r active) hahead hfar, chosen_seeking hdrive]

theorem started_indexes (hfirst : firstUnfinished s = some r) (hdrive : s.pos.drive = .riding)
    (hactive : activeSetFor r s = active) (hsome : active ≠ 0) (hr : r.state = .designed)
    (hahead : 0 ≤ r.chainage - frameChainage s) (hnear : r.chainage - frameChainage s ≤ s.params.p09) {h : Int}
    (hhead : headChainage s = some h) (hfar : s.params.p12 < ((h - r.chainage).natAbs : Int)) :
    seek s.startedWork
      = (s.working .indexing (some r.seq) (some active) (baseDemand s) .indexing (some r.chainage)).driven := by
  have hreach := judgeReach_indexes (s := s.startedWork.chosen r active) hahead hnear hhead hfar
  rw [chosen_seeking hdrive] at hreach
  let ordered := (s.working .seek (some r.seq) (some active) (baseDemand s) .riding s.pos.target).indexingTo r.chainage
  have hrest : ordered.pos.drive ≠ .holding := by
    show Drive.indexing ≠ .holding
    decide
  have hphase := setPhase_resting hrest .indexing
  rw [demandOf_resting_drive (phase := .indexing) (by rfl) (by exact hrest) (by rfl) (by decide)] at hphase
  have hcommand : driveCommand (s.working .indexing (some r.seq) (some active) (baseDemand s) .indexing (some r.chainage))
      = ordered.pos.output :=
    driveCommand_of_fixed rfl rfl rfl rfl
  refine started_designed hfirst hactive hsome hr ?_ nofun
  rw [hreach, hphase, State.driven, hcommand]
  rfl

end outcome

end Sys2Proof.Machine
end


section
namespace Sys2Proof.Machine

/-- Settles O50: the checks of START, and the selection of the first unfinished record. -/
theorem startEntersWork : Obligations.StartEntersWork := by
  intro s dt tag hs refused nulled startable selects working base
  have hnulled : startNulled s = true ↔ nulled := startNulled_iff
  have hwork {m : Mode} (h : startable) (hm : m = .work ∨ m = .halted) : s.cyc.mode ≠ m := by
    rcases h with h | h <;> rcases hm with rfl | rfl <;> rw [h] <;> decide
  have hgoes (h : startable) : ¬ (s.cyc.mode = .work ∨ s.cyc.mode = .halted) := fun h' =>
    h'.elim (hwork h (.inl rfl)) (hwork h (.inr rfl))
  let s' := s.arriving dt 0x08 tag .start
  refine ⟨fun h => start_refused hs (if_pos h), fun h hn => start_refused hs ?_, fun h hn hp => start_refused hs ?_,
    fun h hn hp hfree hlate => ?_, fun h hn hp hfed harmed hdrive => ?_⟩
  · have hbad : (!startNulled s') = true := by
      rw [Bool.not_eq_true']
      exact Bool.eq_false_iff.mpr (hnulled.not.mpr hn)
    exact (if_neg (hgoes h)).trans (if_pos hbad)
  · have hgood : ¬ (!startNulled s') = true := by
      rw [Bool.not_eq_true', Bool.not_eq_false]
      exact hnulled.mpr hn
    have hparks : anyParking s' = true := anyParking_iff.mpr hp
    exact (if_neg (hgoes h)).trans ((if_neg hgood).trans (if_pos hparks))
  · have hstarved : isStarved s' = true := by
      have hsegs : s'.seg.segments = s.seg.segments := rfl
      unfold isStarved
      rw [hsegs]
      split
      · next e he => exact decide_eq_true (hlate e he)
      · rfl
    have hkeeps : ∀ q ∈ s'.link.requests, q.progress ≠ .replied → q.request.KeepsFlags := by
      intro q hq hwaits set hset
      rcases List.mem_append.mp hq with hq | hq
      · exact hwaits (hs.settled q hq)
      · rw [List.mem_singleton.mp hq] at hset
        cases hset
    exact ⟨_, start_taken hs h (hnulled.mpr hn) hp rfl, start_starved hstarved hfree hkeeps⟩
  have hstarted : actOnStop (judgeStarved (enterMode .work s')) = s'.startedWork := by
    obtain ⟨e, hend, hle⟩ := hfed
    refine startedWork_eq (s := s') ?_ (isStarved_false (s := s') hend hle) harmed
    show s.pos.drive ≠ .holding
    rw [hdrive]
    decide
  have hexec {t : State} (ht : seek s'.startedWork = t) := start_taken hs h (hnulled.mpr hn) hp (hstarted ▸ ht)
  refine ⟨fun hall => ?_, fun before r after hrecords hbefore active hselects hsome => ⟨fun hr => ?_, fun hr hahead hfar => ?_,
    fun hr hahead hnear hd hhead hfar => ?_⟩⟩
  · exact (hexec ((started_none (s := s') hall).trans (startedWork_working (s := s') hdrive))).trans rfl
  all_goals
    have hfirst : firstUnfinished s' = some r :=
      firstUnfinished_split (s := s') hrecords (by rw [hr]; rfl) hbefore
    have hactive : activeSetFor r s' = active := activeSetFor_eq (s := s') hselects
  · exact (hexec (started_queued (s := s') hfirst hdrive hactive hsome hr)).trans rfl
  · exact (hexec (started_far (s := s') hfirst hdrive hactive hsome hr hahead hfar)).trans rfl
  · exact (hexec (started_indexes (s := s') hfirst hdrive hactive hsome hr hahead hnear hhead hfar)).trans rfl

end Sys2Proof.Machine
end


section
/-! ### The arrival from the reach judgement (O53) -/

namespace Sys2Proof.Machine

section arriving
variable {s t : State} {r : Sleeper} {v : Readings} {h o : Int} {u : UnitId}

theorem reading_of_fixed (c : ChannelId) (hfixed : t.kept.fixed = s.kept.fixed) : reading c t = reading c s :=
  reading_congr (congrArg (fun q : CountUnit => q.get c) (count_of_fixed hfixed)) (params_of_fixed hfixed)

theorem snapshotReadings_of_fixed (hfixed : t.kept.fixed = s.kept.fixed) : snapshotReadings t = snapshotReadings s := by
  unfold snapshotReadings
  rw [reading_of_fixed .lat hfixed, reading_of_fixed .lvlL hfixed, reading_of_fixed .lvlR hfixed, reading_of_fixed .xl hfixed]

/-- The drive HOLDING at a target ahead of the stroke's end, from SEEK. -/
def State.holdingAt (s : State) (target : Int) : State :=
  { setPhase .seek s with pos := { (setPhase .seek s).pos with
      drive := .holding, target := some target, holdLost := false, strokeEnd := false } }.driven

/-- What the reach judgement leaves before the arrival is taken. -/
theorem holdingAt_leaves (s : State) (target : Int) :
    (s.holdingAt target).slp = s.slp ∧ (s.holdingAt target).cyc = { s.cyc with phase := .seek }
      ∧ (s.holdingAt target).pos.drive = .holding ∧ (s.holdingAt target).pos.target = some target
      ∧ (s.holdingAt target).eng = s.eng ∧ (s.holdingAt target).axes = s.axes ∧ (s.holdingAt target).heads = s.heads
      ∧ (s.holdingAt target).kept = s.kept := by
  have hkept := setPhase_kept .seek s
  obtain ⟨cond, slot, heq⟩ := setPhase_eq .seek s
  refine ⟨setPhase_slp .seek s, ?_, rfl, rfl, ?_, ?_, ?_, hkept⟩
  all_goals unfold State.holdingAt; rw [heq]; rfl

/-- A record inside the window at the reach judgement is arrived at (R25, R151). -/
theorem judgeReach_arrives (hmode : s.cyc.mode = .work) (hahead : 0 ≤ r.chainage - frameChainage s)
    (hnear : r.chainage - frameChainage s ≤ s.params.p09) (hhead : headChainage s = some h) (hoffset : satOffset s = some o)
    (hpositive : 0 < o) (hwindow : ((h - r.chainage).natAbs : Int) ≤ s.params.p12) (hcur : s.cyc.current = some r.seq)
    (hr : unfinishedRecord r.seq s = some r) (hv : snapshotReadings s = some v) :
    Arrived (s.holdingAt r.chainage) (judgeReach r s) r v := by
  obtain ⟨hslp, hcyc, -, -, -, -, -, hkept⟩ := holdingAt_leaves s r.chainage
  have hfixed := Kept.fixed_eq (setPhase_kept .seek s)
  have hordered : indexOrder r.chainage (setPhase .seek s) = (s.holdingAt r.chainage, [.arrived]) := by
    rw [indexOrder_reached ((headChainage_of_fixed hfixed).trans hhead) ((satOffset_of_fixed hfixed).trans hoffset)
      (by rw [frameChainage_of_fixed hfixed]; exact hahead) (by rw [params_of_fixed hfixed]; exact hwindow)]
    unfold enterHolding
    dsimp only
    rw [decide_eq_false (not_le.mpr hpositive)]
    rfl
  have hdrive : (s.holdingAt r.chainage).pos.drive ≠ .indexing := by
    show Drive.holding ≠ .indexing
    decide
  have hcurrent : currentRecord (s.holdingAt r.chainage) = some r := by
    refine currentRecord_of (by rw [hcyc]; exact hcur) ?_
    unfold unfinishedRecord
    rw [hslp]
    exact hr
  have hreport : onDriveReport (s.holdingAt r.chainage) .arrived = arrival (s.holdingAt r.chainage) :=
    onDriveReport_arrived (by rw [hcyc]; exact hmode) (by rw [hcyc]; rfl)
  have hreads : snapshotReadings (s.holdingAt r.chainage) = some v :=
    (snapshotReadings_of_fixed (Kept.fixed_eq hkept)).trans hv
  rw [judgeReach_near hahead hnear, hordered]
  dsimp only
  rw [if_neg hdrive, List.foldl_cons, List.foldl_nil, hreport]
  exact arrival_arrived hcurrent hreads

/-- A target pass asked of an IDLE engine begins at once (R85, R86). -/
theorem requestTarget_idle {x : Sleeper} {part : DesignPart} (hidle : s.eng.activity = .idle)
    (hx : unfinishedRecord r.seq s = some x) (hpart : x.design = some part) :
    (requestTarget ⟨r.seq, v⟩ s).eng = ⟨.targeting (targetBegun s.params r.seq v part), none⟩ := by
  have hfound : (unfinishedRecord r.seq (s.modEng fun e => { e with request := some ⟨r.seq, v⟩ })).bind (·.design)
      = some part := by
    rw [show unfinishedRecord r.seq (s.modEng fun e => { e with request := some ⟨r.seq, v⟩ }) = some x from hx]
    exact hpart
  unfold requestTarget
  rw [hidle]
  dsimp only
  unfold beginTarget
  dsimp only
  rw [hfound]
  rfl

/-- The target pass of an arrival (R86, R100, R101). -/
theorem Arrived.eng_begun (harr : Arrived s t r v) (hidle : s.eng.activity = .idle) (hr : unfinishedRecord r.seq s = some r)
    {part : DesignPart} (hpart : r.design = some part) :
    t.eng = ⟨.targeting (targetBegun s.params r.seq v part), none⟩ := by
  obtain ⟨hslp, -, -, -, -, hkept, heng, -⟩ := arrivedAt_leaves s r
  have hfound : unfinishedRecord r.seq (s.arrivedAt r) = some { r with state := .inWork } := by
    have hmod := unfinishedRecord_modRecord (f := fun r => { r with state := .inWork }) hr fun _ => ⟨rfl, rfl⟩
    unfold unfinishedRecord at hmod ⊢
    rw [hslp]
    exact hmod
  rw [harr.eng, requestTarget_idle (by rw [heng]; exact hidle) hfound hpart, params_of_fixed (Kept.fixed_eq hkept)]

/-! #### The units at an arrival -/

/-- The state in which an arrival gives its orders to the units. -/
theorem ordering_leaves (s : State) (r : Sleeper) (v : Readings) :
    (requestTarget ⟨r.seq, v⟩ (s.arrivedAt r)).kept = s.kept
      ∧ (requestTarget ⟨r.seq, v⟩ (s.arrivedAt r)).heads = s.heads
      ∧ (requestTarget ⟨r.seq, v⟩ (s.arrivedAt r)).cyc.active = s.cyc.active
      ∧ ∀ a, (requestTarget ⟨r.seq, v⟩ (s.arrivedAt r)).axes.get a = (s.axes.get a).prepared := by
  obtain ⟨-, hcyc, hheads, haxes, -, hkept, -, -⟩ := arrivedAt_leaves s r
  have hreq := requestTarget_eq ⟨r.seq, v⟩ (s.arrivedAt r)
  refine ⟨(requestTarget_kept _ _).trans hkept, ?_, ?_, fun a => ?_⟩
  · rw [hreq]
    exact hheads
  · rw [hreq, hcyc]
  · rw [hreq]
    exact haxes a

theorem headPlan_of_fixed (u : UnitId) (r : Sleeper) (hfixed : t.kept.fixed = s.kept.fixed) :
    headPlan u r t = headPlan u r s := by
  unfold headPlan
  rw [params_of_fixed hfixed]

/-- A unit outside the active set is given no plan (R151). -/
theorem Arrived.unit_out (harr : Arrived s t r v) (hout : unitIn u (s.cyc.active.getD 0) = false) :
    t.heads.get u = { s.heads.get u with report := .cleared, pendingLower := false, plan := none } := by
  obtain ⟨-, hheads, hactive, -⟩ := ordering_leaves s r v
  rw [harr.heads]
  refine ordered_head (P := (· = _)) fun x _ hx _ => ?_
  rw [State.givenPlan, hactive, hout]
  rw [show (if (true && false) = true then some (headPlan u r (requestTarget ⟨r.seq, v⟩ (s.arrivedAt r))) else none)
    = none from rfl, arrivalOrder_none, State.setHead_get, hx, hheads]

/-- The order to a unit in UP with a depth and a plan is its lower order (R121). -/
theorem arrivalOrder_up {p : HeadPlan} {d : Int} (hup : (s.heads.get u).state = .up) (hd : depthOf u s = some d) :
    arrivalOrder u (some p) s = takeLower u p
      (s.setHead u { s.heads.get u with report := .cleared, pendingLower := false, plan := some p }) := by
  have hsome : (depthOf u s).isSome = true := by rw [hd]; rfl
  unfold arrivalOrder
  dsimp only
  split
  · exact if_pos hsome
  · next h _ => cases hup.symm.trans h
  · next h _ => exact (h hup).elim

end arriving

end Sys2Proof.Machine
end


section
namespace Sys2Proof.Machine

section lowering
variable {s t : State} {r : Sleeper} {v : Readings} {u : UnitId} {p : HeadPlan} {d : Int}

/-- A lower order to a unit in its wanted tilt, already at its target with the gate closed (R121, R123). -/
theorem takeLower_inserts (htilt : p.tilted = (s.heads.get u).tilted) (hd : depthOf u s = some d)
    (hplan : (s.heads.get u).plan = some p) (hdeep : p.depth ≤ d) (hgate : gateOpen s = false) :
    takeLower u p s = s.setHead u { s.heads.get u with
      state := .inserted
      timer := none
      report := { (s.heads.get u).report with participated := true, deepest := some d } } := by
  let joined : Head := { s.heads.get u with
    report := { (s.heads.get u).report with participated := true, deepest := some d } }
  let lowering : Head := { joined with state := .lowering, timer := some ⟨s.params.p27, s.clock⟩ }
  have hlowered : takeLower u p s = judgeLowering u (s.setHead u lowering) := by
    rw [takeLower, if_pos htilt, hd, State.modHead_eq]
    unfold enterLowering
    rw [State.setHead_modHead]
    rfl
  have hjudged : judgeLowering u (s.setHead u lowering) = enterInserted u (s.setHead u lowering) :=
    judgeLowering_reached (s := s.setHead u lowering) hd (by rw [State.setHead_get]; exact hplan) hdeep
  rw [hlowered, hjudged, enterInserted_waits (s := s.setHead u lowering) hgate, State.setHead_get, State.setHead_setHead]

/-- What an arrival makes of a unit in UP that takes part, with the axes IDLE (R121, R122, R123). -/
structure Head.Ordered (h : Head) (s : State) (p : HeadPlan) (d : Int) (h' : Head) : Prop where
  plan : h'.plan = some p
  participated : h'.report.participated = true
  deepest : h'.report.deepest = some d
  tilts : p.tilted ≠ h.tilted →
    h'.state = .tilting ∧ h'.tilted = p.tilted ∧ h'.timer = some ⟨s.params.p32, s.clock⟩
  lowers : p.tilted = h.tilted → d < p.depth → h'.state = .lowering ∧ h'.timer = some ⟨s.params.p27, s.clock⟩
  inserts : p.tilted = h.tilted → p.depth ≤ d → h'.state = .inserted ∧ h'.timer = none

theorem takeLower_ordered (hd : depthOf u s = some d) (hplan : (s.heads.get u).plan = some p)
    (hgate : gateOpen s = false) : (s.heads.get u).Ordered s p d ((takeLower u p s).heads.get u) := by
  by_cases htilt : p.tilted = (s.heads.get u).tilted
  · by_cases hdeep : p.depth ≤ d
    · rw [takeLower_inserts htilt hd hplan hdeep hgate, State.setHead_get]
      exact ⟨hplan, rfl, rfl, fun h => absurd htilt h, fun _ h => absurd hdeep (not_le.mpr h), fun _ _ => ⟨rfl, rfl⟩⟩
    · have hshort : ∀ d' q, depthOf u s = some d' → (s.heads.get u).plan = some q → d' < q.depth := by
        intro d' q hd' hq
        cases hd.symm.trans hd'
        cases hplan.symm.trans hq
        exact not_le.mp hdeep
      rw [takeLower_lowers htilt hshort, State.setHead_get]
      exact ⟨hplan, rfl, hd, fun h => absurd htilt h, fun _ _ => ⟨rfl, rfl⟩, fun _ h => absurd h hdeep⟩
  · rw [takeLower_tilts htilt, State.setHead_get]
    exact ⟨hplan, rfl, hd, fun _ => ⟨rfl, rfl, rfl⟩, fun h => absurd h htilt, fun h => absurd h htilt⟩

/-- A unit of the active set that is UP takes its plan at an arrival with the axes IDLE (R151). -/
theorem Arrived.unit_in (harr : Arrived s t r v) (hin : unitIn u (s.cyc.active.getD 0) = true)
    (hup : (s.heads.get u).state = .up) (hd : depthOf u s = some d) (hidle : ∀ a, (s.axes.get a).state = .idle) :
    (s.heads.get u).Ordered s (headPlan u r s) d (t.heads.get u) := by
  obtain ⟨hkept, hheads, hactive, haxes⟩ := ordering_leaves s r v
  have hplan : (requestTarget ⟨r.seq, v⟩ (s.arrivedAt r)).givenPlan r true u = some (headPlan u r s) := by
    rw [State.givenPlan, hactive, hin, headPlan_of_fixed u r (Kept.fixed_eq hkept)]
    rfl
  rw [harr.heads]
  generalize requestTarget ⟨r.seq, v⟩ (s.arrivedAt r) = X at *
  refine ordered_head (P := (s.heads.get u).Ordered s (headPlan u r s) d) fun x hacted hx hxaxes => ?_
  have hxkept := hacted.kept
  have hfixed := Kept.fixed_eq (hxkept.trans hkept)
  have hxup : (x.heads.get u).state = .up := by rw [hx, hheads]; exact hup
  have hxd : depthOf u x = some d := (reading_of_fixed (.dep u) hfixed).trans hd
  let given := x.setHead u { x.heads.get u with report := .cleared, pendingLower := false, plan := some (headPlan u r s) }
  have hgate : gateOpen given = false := gateOpen_of_not_hold ⟨.line, by
    show (x.axes.get .line).state ≠ .hold
    rw [hxaxes, haxes, Axis.prepared_idle (hidle .line)]
    show (s.axes.get .line).state ≠ .hold
    rw [hidle]
    decide⟩
  have hordered := takeLower_ordered (s := given) (u := u) (p := headPlan u r s) (d := d) hxd
    (by rw [State.setHead_get]) hgate
  rw [hplan, arrivalOrder_up hxup hxd]
  obtain ⟨h1, h2, h3, h4, h5, h6⟩ := hordered
  have htilted : (given.heads.get u).tilted = (s.heads.get u).tilted := by
    rw [State.setHead_get, ← hheads, ← hx]
  have hparams : given.params = s.params := params_of_fixed hfixed
  have hclock : given.clock = s.clock := clock_of_fixed hfixed
  rw [htilted] at h4 h5 h6
  rw [hparams, hclock] at h4 h5
  exact ⟨h1, h2, h3, h4, h5, h6⟩

end lowering

end Sys2Proof.Machine
end


section
namespace Sys2Proof.Machine

section start
variable {s : State} {r : Sleeper} {before after : List Sleeper}

theorem unfinishedRecord_split (hrecords : s.slp.records = before ++ r :: after) (hr : r.state.finished = false)
    (hbefore : ∀ z ∈ before, z.state.finished = true) : unfinishedRecord r.seq s = some r := by
  rw [unfinishedRecord, hrecords]
  exact find_first (fun z hz => by simp [hbefore z hz]) (by simp [hr])

theorem nulled_of_reading {c : ChannelId} {x : Int} (h : reading c s = some x) : (s.count.get c).nulled = true := by
  rw [← reading_isSome_iff, h]
  rfl

theorem activeSetFor_ne_zero (h : ∃ u, s.Usable r u) : activeSetFor r s ≠ 0 := by
  obtain ⟨u, hu⟩ := h
  intro hzero
  have hin := (unitIn_activeSetFor u r s).mpr hu
  rw [hzero] at hin
  simp [unitIn] at hin

end start

/-- Settles O53: START with the satellite at the first unfinished record. -/
theorem arrivalTaken : Obligations.ArrivalTaken := by
  intro s dt tag before r after a b c d o h hs hmode ha hb hc hd hoffset hpositive hhead hdepths hparking hidle hfed
    harmed hdrive heng hrecords hbefore hr hdesign hahead hnear hwindow usable plan husable
  let s' := s.arriving dt 0x08 tag .start
  let active := activeSetFor r s'
  let chosen := s'.startedWork.chosen r active
  have hin (u : UnitId) : unitIn u active = true ↔ usable u := unitIn_activeSetFor u r s'
  have hstarted : actOnStop (judgeStarved (enterMode .work s')) = s'.startedWork := by
    obtain ⟨e, hend, hle⟩ := hfed
    refine startedWork_eq (s := s') ?_ (isStarved_false (s := s') hend hle) harmed
    show s.pos.drive ≠ .holding
    rw [hdrive]
    decide
  have hnulled : startNulled s = true := startNulled_iff.mpr ⟨by
    rintro c (rfl | rfl | rfl | rfl | rfl)
    · exact nulled_of_reading (c := .sat) hoffset
    · exact nulled_of_reading ha
    · exact nulled_of_reading hb
    · exact nulled_of_reading hc
    · exact nulled_of_reading hd, hdepths⟩
  have hfinished : r.state.finished = false := by rw [hr]; rfl
  have hfirst : firstUnfinished s' = some r := firstUnfinished_split (s := s') hrecords hfinished hbefore
  have hfound : unfinishedRecord r.seq chosen = some r := unfinishedRecord_split (s := chosen) hrecords hfinished hbefore
  have hreads : snapshotReadings chosen = some ⟨a, b, c, d⟩ := by
    have hsame : snapshotReadings chosen = snapshotReadings s := rfl
    rw [hsame, snapshotReadings, ha, hb, hc, hd]
  have harrives : Arrived (chosen.holdingAt r.chainage) (judgeReach r chosen) r ⟨a, b, c, d⟩ :=
    judgeReach_arrives (s := chosen) rfl hahead hnear hhead hoffset hpositive hwindow rfl hfound hreads
  obtain ⟨hslp, hcyc, hhdrive, htarget, hheng, haxes, hheads, hkept⟩ := holdingAt_leaves chosen r.chainage
  have hfoundHere : unfinishedRecord r.seq (chosen.holdingAt r.chainage) = some r := by
    unfold unfinishedRecord
    rw [hslp]
    exact hfound
  have hclock : (chosen.holdingAt r.chainage).clock = s.clock + dt := (clock_of_fixed (Kept.fixed_eq hkept)).trans rfl
  have hparams : (chosen.holdingAt r.chainage).params = s.params := (params_of_fixed (Kept.fixed_eq hkept)).trans rfl
  have hdepth (u : UnitId) : depthOf u (chosen.holdingAt r.chainage) = depthOf u s :=
    (reading_of_fixed (.dep u) (Kept.fixed_eq hkept)).trans rfl
  have hhere (u : UnitId) : (chosen.holdingAt r.chainage).heads.get u = s.heads.get u := by rw [hheads]; rfl
  have hstill (x : AxisId) : ((chosen.holdingAt r.chainage).axes.get x).state = .idle := by
    rw [haxes]
    exact hidle x
  have hset : (chosen.holdingAt r.chainage).cyc.active.getD 0 = active := by rw [hcyc]; rfl
  have hplanned (u : UnitId) : headPlan u r (chosen.holdingAt r.chainage) = plan u := by
    have hsame : headPlan u r (chosen.holdingAt r.chainage) = headPlan u r s := by
      unfold headPlan
      rw [hparams]
    exact hsame.trans rfl
  have hpart (part : DesignPart) (hp : r.design = some part) :=
    harrives.eng_begun (by rw [hheng]; exact heng) hfoundHere hp
  have hrecord := mem_modRecord (f := fun r => { r with state := .inWork }) hfoundHere
  have hout (u : UnitId) (hu : ¬ usable u) := harrives.unit_out (u := u) (by
    rw [hset]
    exact Bool.eq_false_iff.mpr ((hin u).not.mpr hu))
  have hjoin (u : UnitId) (depth : Int) (hu : usable u) (hup : (s.heads.get u).state = .up)
      (hdep : depthOf u s = some depth) := harrives.unit_in (u := u) (d := depth) (by rw [hset]; exact (hin u).mpr hu)
    (by rw [hhere]; exact hup) (by rw [hdepth]; exact hdep) hstill
  have hlength : (modRecord r.seq (fun r => { r with state := .inWork }) (chosen.holdingAt r.chainage)).slp.records.length
      = s.slp.records.length := by
    show (List.map _ (chosen.holdingAt r.chainage).slp.records).length = _
    rw [List.length_map, hslp]
    rfl
  have hcurrent : (judgeReach r chosen).cyc.current ≠ none := by
    rw [harrives.cyc, hcyc]
    exact nofun
  have hseek : seek s'.startedWork = judgeReach r chosen :=
    started_designed (s := s') hfirst rfl (activeSetFor_ne_zero husable) hr rfl hcurrent
  refine ⟨_, start_taken hs hmode hnulled hparking (hstarted ▸ hseek), ?_⟩
  generalize judgeReach r chosen = t at *
  generalize chosen.holdingAt r.chainage = H at *
  obtain ⟨htslp, htcyc, htdrive, httarget, htoutput, -, -, -, htaxes, -, -⟩ := harrives
  rw [hcyc, hclock] at htcyc
  simp only [hparams] at hpart
  refine ⟨congrArg Cycle.mode htcyc, congrArg Cycle.phase htcyc, congrArg Cycle.current htcyc,
    congrArg Cycle.stopwatch htcyc, ⟨active, congrArg Cycle.active htcyc, hin⟩, ?_, ?_, hpart, htdrive.trans hhdrive,
    httarget.trans htarget, htoutput, fun x => ?_, fun u hu => ?_, fun u depth hu hup hdep => ?_⟩
  · show _ ∈ t.slp.records
    rw [htslp]
    exact hrecord
  · show t.slp.records.length = _
    rw [htslp]
    exact hlength
  · show (t.axes.get x).state = .idle ∧ (t.axes.get x).started = false ∧ (t.axes.get x).outcome = none
      ∧ (t.axes.get x).reversals = 0
    rw [htaxes, Axis.prepared_idle (hstill x)]
    exact ⟨hstill x, rfl, rfl, rfl⟩
  · exact (hout u hu).trans (by rw [hhere])
  · obtain ⟨h1, h2, h3, h4, h5, h6⟩ := hjoin u depth hu hup hdep
    rw [hplanned, hhere] at h4 h5 h6
    rw [hplanned] at h1
    rw [hparams, hclock] at h4 h5
    exact ⟨h1, h2, h3, h4, h5, h6⟩

end Sys2Proof.Machine
end


section
/-! ### The segment queue and the engine where no stop can come (O48, O51, O52) -/

namespace Sys2Proof.Machine

/-- No stop is armed, and no flag arms one. -/
def State.Unstopped (s : State) : Prop := s.cond.armed = none ∧ s.cond.stop = 0

/-- From `s` to `t` flags have been raised and the segment queue judged, and nothing else has happened. -/
structure Calm (s t : State) : Prop where
  slp : t.slp = s.slp
  cyc : t.cyc = s.cyc
  eng : t.eng = s.eng
  pos : t.pos = s.pos
  axes : t.axes = s.axes
  heads : t.heads = s.heads
  kept : t.kept = s.kept
  segments : t.seg.segments <:+ s.seg.segments
  flags : ∀ f, flagIn f s.cond.flags = true → flagIn f t.cond.flags = true
  unstopped : s.Unstopped → t.Unstopped

namespace Calm
variable {s t x : State}

theorem refl (s : State) : Calm s s := ⟨rfl, rfl, rfl, rfl, rfl, rfl, rfl, List.suffix_refl _, fun _ => id, id⟩

theorem trans (h : Calm s t) (h' : Calm t x) : Calm s x where
  slp := h'.slp.trans h.slp
  cyc := h'.cyc.trans h.cyc
  eng := h'.eng.trans h.eng
  pos := h'.pos.trans h.pos
  axes := h'.axes.trans h.axes
  heads := h'.heads.trans h.heads
  kept := h'.kept.trans h.kept
  segments := h'.segments.trans h.segments
  flags f hf := h'.flags f (h.flags f hf)
  unstopped hs := h'.unstopped (h.unstopped hs)

end Calm

section raising
variable {s : State}

/-- A flag that is not stop-enabled arms no stop (R162). -/
theorem setFlag_unstopped (f : Flag) (h : s.Unstopped) : (setFlag f s).Unstopped := by
  have harm (x : State) (hx : x.Unstopped) : (armStop f x).Unstopped := by
    have hno : flagIn f x.cond.stop = false := by rw [hx.2]; simp [flagIn]
    unfold armStop
    rw [if_neg (by simp [hno])]
    exact hx
  unfold setFlag
  dsimp only
  split
  · exact h
  · refine harm _ ?_
    split
    · exact h
    · exact h

theorem Calm.setFlag (f : Flag) (s : State) : Calm s (setFlag f s) where
  slp := setFlag_slp f s
  cyc := setFlag_cyc f s
  eng := congrArg Beyond.eng (setFlag_beyond f s)
  pos := congrArg Beyond.pos (setFlag_beyond f s)
  axes := setFlag_axes f s
  heads := setFlag_heads f s
  kept := setFlag_kept f s
  segments := by
    have hseg : (Machine.setFlag f s).seg = s.seg := congrArg Beyond.seg (setFlag_beyond f s)
    rw [hseg]
  flags g hg := by rw [flagIn_setFlag, hg, Bool.or_true]
  unstopped := setFlag_unstopped f

theorem Calm.raiseFlag (h : s.Unstopped) (f : Flag) : Calm s (raiseFlag f s) := by
  rw [Machine.raiseFlag, actOnStop_of_unarmed (setFlag_unstopped f h).1]
  exact .setFlag f s

theorem Calm.judgeStarved (s : State) : Calm s (judgeStarved s) := by
  have hmarked (b : Bool) : Calm s (s.modSeg fun q => { q with starved := b }) :=
    ⟨rfl, rfl, rfl, rfl, rfl, rfl, rfl, List.suffix_refl _, fun _ => id, id⟩
  unfold Machine.judgeStarved
  split
  · dsimp only
    split
    · exact (hmarked _).trans (.setFlag _ _)
    · exact hmarked _
  · exact .refl s

theorem Calm.judgeLookAhead (appended : Bool) (s : State) : Calm s (judgeLookAhead appended s) := by
  rw [judgeLookAhead_eq]
  exact ⟨rfl, rfl, rfl, rfl, rfl, rfl, rfl, List.suffix_refl _, fun _ => id, id⟩

theorem Calm.retireSegments (s : State) : Calm s (retireSegments s) :=
  ⟨rfl, rfl, rfl, rfl, rfl, rfl, rfl, List.dropWhile_suffix _, fun _ => id, id⟩

theorem judgeSegments_unstopped (h : s.Unstopped) :
    judgeSegments s = judgeStarved (judgeLookAhead false (retireSegments s)) :=
  actOnStop_of_unarmed
    (((Calm.retireSegments s).trans (.judgeLookAhead _ _)).trans (.judgeStarved _) |>.unstopped h).1

theorem Calm.judgeSegments (h : s.Unstopped) : Calm s (judgeSegments s) := by
  rw [judgeSegments_unstopped h]
  exact ((Calm.retireSegments s).trans (.judgeLookAhead _ _)).trans (.judgeStarved _)

/-- The demand judged, and flags raised at most. -/
theorem Calm.refreshDemand (s : State) :
    Calm { s with pos := { s.pos with demand := demandOf s, strokeTerm := strokeTermOf s } } (refreshDemand s) := by
  unfold Machine.refreshDemand
  dsimp only
  split
  · exact .setFlag _ _
  · exact .refl _

/-- The record current no more, SEEK entered, and flags raised at most. -/
theorem Calm.returnToSeek (s : State) :
    ∃ demand term, Calm { s with
      cyc := { s.cyc with phase := .seek, current := none, active := none }
      pos := { s.pos with demand := demand, strokeTerm := term } } (returnToSeek s) :=
  ⟨_, _, .refreshDemand { s with cyc := { s.cyc with phase := .seek, current := none, active := none } }⟩

end raising

/-! #### The engine, with no record waited for -/

/-- No QUEUED record bears a number. -/
def State.Unqueued (s : State) (seq : Nat) : Prop := ∀ q ∈ s.slp.records, q.state = .queued → q.seq ≠ seq

/-- From `s` to `t` the engine has judged its next pass, QUEUED records that are not waited for skipped at most. -/
structure EngineJudged (s t : State) : Prop where
  cyc : t.cyc = s.cyc
  pos : t.pos = s.pos
  axes : t.axes = s.axes
  heads : t.heads = s.heads
  kept : t.kept = s.kept
  flags : ∀ f, flagIn f s.cond.flags = true → flagIn f t.cond.flags = true
  unstopped : t.Unstopped
  length : t.slp.records.length = s.slp.records.length
  records : ∀ q ∈ s.slp.records, s.Unqueued q.seq → q ∈ t.slp.records
  unqueued : ∀ seq, s.Unqueued seq → t.Unqueued seq

namespace EngineJudged
variable {s t x : State}

theorem refl (h : s.Unstopped) : EngineJudged s s :=
  ⟨rfl, rfl, rfl, rfl, rfl, fun _ => id, h, rfl, fun _ hq _ => hq, fun _ => id⟩

theorem ofEng (h : s.Unstopped) (eng : Engine) : EngineJudged s { s with eng := eng } :=
  ⟨rfl, rfl, rfl, rfl, rfl, fun _ => id, h, rfl, fun _ hq _ => hq, fun _ => id⟩

theorem trans (h : EngineJudged s t) (h' : EngineJudged t x) : EngineJudged s x where
  cyc := h'.cyc.trans h.cyc
  pos := h'.pos.trans h.pos
  axes := h'.axes.trans h.axes
  heads := h'.heads.trans h.heads
  kept := h'.kept.trans h.kept
  flags f hf := h'.flags f (h.flags f hf)
  unstopped := h'.unstopped
  length := h'.length.trans h.length
  records q hq hu := h'.records q (h.records q hq hu) (h.unqueued _ hu)
  unqueued seq hu := h'.unqueued seq (h.unqueued seq hu)

end EngineJudged

section engine
variable {s : State}

/-- The skip of a record that is not waited for (R84). -/
theorem noCoverSkip_calm (h : s.Unstopped) {r : Sleeper} (hwaits : waitsDesignOf r.seq s = false) :
    Calm (modRecord r.seq (fun r => { r with state := .skipped, result := some (skippedResult 0 .noCover r.flags) }) s)
      (noCoverSkip r s) := by
  have hraised := Calm.raiseFlag
    (s := modRecord r.seq (fun r => { r with state := .skipped, result := some (skippedResult 0 .noCover r.flags) }) s)
    h .skippedSleeper
  unfold noCoverSkip
  rw [hwaits]
  exact hraised.trans (.judgeSegments (hraised.unstopped h))

theorem noCoverSkip_judged (h : s.Unstopped) {r : Sleeper} (hr : r ∈ s.slp.records) (hqueued : r.state = .queued)
    (hwaits : waitsDesignOf r.seq s = false) : EngineJudged s (noCoverSkip r s) := by
  have hcalm := noCoverSkip_calm h hwaits
  have hslp := hcalm.slp
  have hrecords : (noCoverSkip r s).slp.records = s.slp.records.map fun q =>
      if !q.state.finished && decide (q.seq = r.seq) then
        { q with state := .skipped, result := some (skippedResult 0 .noCover q.flags) }
      else q := congrArg SleeperQueue.records hslp
  exact {
    cyc := hcalm.cyc
    pos := hcalm.pos
    axes := hcalm.axes
    heads := hcalm.heads
    kept := hcalm.kept.trans (modRecord_kept r.seq _ s fun _ => ⟨rfl, rfl, rfl⟩)
    flags := hcalm.flags
    unstopped := hcalm.unstopped h
    length := by rw [hrecords, List.length_map]
    records := fun q hq hu => by
      rw [hrecords]
      exact List.mem_map.mpr ⟨q, hq, if_neg (by simp [(hu r hr hqueued).symm])⟩
    unqueued := fun seq hu q hq hstate => by
      rw [hrecords] at hq
      obtain ⟨z, hz, rfl⟩ := List.mem_map.mp hq
      by_cases hz' : (!z.state.finished && decide (z.seq = r.seq)) = true
      · rw [if_pos hz'] at hstate
        cases hstate
      · rw [if_neg hz'] at hstate ⊢
        exact hu z hz hstate }

theorem judgeDesign_skip {r : Sleeper} (h : judgeDesign s = .skip r) :
    r ∈ s.slp.records ∧ r.state = .queued ∧ firstUnfinished s = some r := by
  unfold judgeDesign at h
  split at h
  · next r' _ _ hr' _ _ =>
    split at h
    · split at h
      · next hfirst =>
        cases h
        exact ⟨List.mem_of_find?_eq_some hr', of_decide_eq_true (List.find?_some (p := fun r : Sleeper => decide (r.state = .queued)) hr'), hfirst⟩
      · cases h
    · split at h <;> cases h
  · cases h

theorem engineLoop_judged (n : Nat) (h : s.Unstopped) (hwaits : ∀ seq, waitsDesignOf seq s = false) :
    EngineJudged s (engineLoop n s) := by
  induction n generalizing s with
  | zero => exact .refl h
  | succ n ih =>
    unfold engineLoop
    split
    · unfold beginTarget
      split
      · exact .ofEng h _
      · exact .ofEng h _
    · split
      · exact .refl h
      · exact .ofEng h _
      · next r hskip =>
        obtain ⟨hr, hqueued, -⟩ := judgeDesign_skip hskip
        have hskipped := noCoverSkip_judged h hr hqueued (hwaits _)
        refine hskipped.trans (ih hskipped.unstopped fun seq => ?_)
        have hseq := hwaits seq
        unfold waitsDesignOf at hseq ⊢
        rw [hskipped.cyc]
        exact hseq
    · exact .refl h

/-- The engine's judgement while no record is waited for. -/
theorem judgeEngine_judged (h : s.Unstopped) (hwaits : s.cyc.mode = .work → s.cyc.phase ≠ .waitDesign) :
    EngineJudged s (judgeEngine s) :=
  engineLoop_judged _ h fun seq => by
    unfold waitsDesignOf
    exact decide_eq_false fun hw => hwaits hw.1 hw.2.1

end engine

end Sys2Proof.Machine
end


section
/-! ### What no selection of SEEK undoes: finished records and flags (R61, R159) -/

namespace Sys2Proof.Machine

/-- A record finished as SKIPPED, with a design pass in flight for it abandoned (R89, R148). -/
def State.skipping (s : State) (r : Sleeper) (reason : SkipReason) : State :=
  abandonDesign (fun p => decide (p.seq = r.seq)) (modRecord r.seq (fun r =>
    { r with state := .skipped, result := some (skippedResult (s.cyc.active.getD 0) reason r.flags) }) s)

theorem skipCurrent_eq {s : State} {r : Sleeper} (hcur : currentRecord s = some r) (reason : SkipReason) :
    skipCurrent reason s
      = judgeEngine (judgeSegments (raiseFlag .skippedSleeper (returnToSeek (s.skipping r reason)))) := by
  unfold skipCurrent
  rw [hcur]
  rfl

theorem abandonDesign_eq (test : DesignPass → Bool) (s : State) : ∃ eng, abandonDesign test s = { s with eng := eng } :=
  ⟨_, rfl⟩

/-- From `s` to `t` the records keep their number, every finished one stays as it is, and no flag is cleared. -/
structure Onward (s t : State) : Prop where
  finished : FinishedKept s t
  flags : ∀ f, flagIn f s.cond.flags = true → flagIn f t.cond.flags = true

namespace Onward
variable {s t x : State}

theorem refl (s : State) : Onward s s := ⟨.of_slp rfl, fun _ => id⟩

theorem trans (h : Onward s t) (h' : Onward t x) : Onward s x :=
  ⟨h.finished.trans h'.finished, fun f hf => h'.flags f (h.flags f hf)⟩

/-- What touches neither the records nor the flags. -/
theorem of_same (hslp : t.slp = s.slp) (hflags : t.cond.flags = s.cond.flags) : Onward s t :=
  ⟨.of_slp hslp, fun f hf => by rw [hflags]; exact hf⟩

theorem of_acted (h : Acted s t) : Onward s t := ⟨.of_acted h, fun _ hf => h.flagIn hf⟩

theorem modRecord (seq : Nat) (f : Sleeper → Sleeper) (s : State) : Onward s (modRecord seq f s) :=
  ⟨.modRecord seq f s, fun _ => id⟩

theorem setFlag (f : Flag) (s : State) : Onward s (setFlag f s) := .of_acted ((Acted.refl s).flag f)

theorem foldl {α : Type} {f : State → α → State} (h : ∀ s x, Onward s (f s x)) (l : List α) (s : State) :
    Onward s (l.foldl f s) :=
  List.foldlRecOn (motive := Onward s) l f (refl s) fun t ht x _ => ht.trans (h t x)

/-! #### The demand, the modes and the halts -/

theorem refreshDemand (s : State) : Onward s (refreshDemand s) :=
  ⟨.of_slp (refreshDemand_slp s), fun _ => flagIn_refreshDemand⟩

theorem setPhase (p : Phase) (s : State) : Onward s (setPhase p s) :=
  ⟨.of_slp (setPhase_slp p s), fun _ hf => flagIn_refreshDemand (s := s.modCyc fun c => { c with phase := p }) hf⟩

theorem enterMode (m : Mode) (s : State) : Onward s (enterMode m s) := by
  refine ⟨?_, fun _ => flagIn_enterMode m⟩
  have hrecords : (Machine.enterMode m s).slp.records = s.slp.records := by
    by_cases hm : m = .work
    · subst hm
      rw [enterMode_work, refreshDemand_slp]
      rfl
    · rw [enterMode_eq hm]
      dsimp only
      split <;> rfl
  unfold FinishedKept
  rw [hrecords]
  exact ⟨rfl, fun _ hr _ => hr⟩

theorem rideDrive (s : State) : Onward s (rideDrive s) :=
  ⟨.of_slp (refreshDemand_slp _), fun _ hf => flagIn_refreshDemand (s := s.modPos fun p =>
    { p with drive := .riding, target := none, output := .stop, holdLost := false, strokeEnd := false }) hf⟩

theorem haltOrders (s : State) : Onward s (haltOrders s) :=
  (rideDrive s).trans (.of_acted ((Acted.abortHeads _).trans (Acted.releaseAxes _)))

theorem enterHalted (cause : HaltCause) (detail : Option Detail) (s : State) : Onward s (enterHalted cause detail s) :=
  (of_same rfl rfl : Onward s (s.modCyc fun c => { c with cause := cause, detail := detail })).trans (enterMode _ _)

theorem actOnStop (s : State) : Onward s (actOnStop s) := by
  unfold Machine.actOnStop
  split
  · split
    · exact (enterHalted _ _ s).trans (haltOrders _)
    · exact refl s
  · exact refl s

theorem raiseFlag (f : Flag) (s : State) : Onward s (raiseFlag f s) := (setFlag f s).trans (actOnStop _)

/-! #### The segment queue and the engine -/

theorem of_calm (h : Calm s t) : Onward s t := ⟨.of_slp h.slp, h.flags⟩

theorem judgeSegments (s : State) : Onward s (judgeSegments s) :=
  (of_calm (((Calm.retireSegments s).trans (.judgeLookAhead _ _)).trans (.judgeStarved _))).trans (actOnStop _)

theorem returnToSeek (s : State) : Onward s (returnToSeek s) :=
  (of_same rfl rfl : Onward s (s.modCyc fun c => { c with current := none, active := none })).trans (setPhase _ _)

theorem noCoverSkip (r : Sleeper) (s : State) : Onward s (noCoverSkip r s) := by
  unfold Machine.noCoverSkip
  dsimp only
  refine trans ?_ ((raiseFlag _ _).trans (judgeSegments _))
  split
  · exact (modRecord r.seq _ s).trans (returnToSeek _)
  · exact modRecord r.seq _ s

theorem beginTarget (req : TargetRequest) (s : State) : Onward s (beginTarget req s) := by
  unfold Machine.beginTarget
  split
  · exact of_same rfl rfl
  · exact of_same rfl rfl

theorem engineLoop (n : Nat) (s : State) : Onward s (engineLoop n s) := by
  induction n generalizing s with
  | zero => exact refl s
  | succ n ih =>
    unfold Machine.engineLoop
    split
    · exact beginTarget _ s
    · split
      · exact refl s
      · exact of_same rfl rfl
      · exact (noCoverSkip _ s).trans (ih _)
    · exact refl s

theorem judgeEngine (s : State) : Onward s (judgeEngine s) := engineLoop _ s

theorem requestTarget (req : TargetRequest) (s : State) : Onward s (requestTarget req s) := by
  unfold Machine.requestTarget
  dsimp only
  split
  · exact (of_same rfl rfl : Onward s (s.modEng fun e => { e with request := some req })).trans (beginTarget _ _)
  · exact of_same rfl rfl

/-! #### The cycle controller -/

theorem hardHalt (cause : HaltCause) (detail : Option Detail) (s : State) : Onward s (hardHalt cause detail s) := by
  have haborted : Onward s (abortCurrent s) := by
    unfold abortCurrent
    split
    · split
      · exact modRecord _ _ s
      · exact refl s
    · exact refl s
  have hwithdrawn : Onward s (withdrawTarget (abortCurrent s)) := haborted.trans (of_same rfl rfl)
  unfold Machine.hardHalt
  split
  · exact ((hwithdrawn.trans (enterHalted _ _ _)).trans (haltOrders _)).trans (judgeEngine _)
  · exact refl s

theorem abandonDesign (test : DesignPass → Bool) (s : State) : Onward s (abandonDesign test s) := by
  obtain ⟨eng, heq⟩ := abandonDesign_eq test s
  rw [heq]
  exact of_same rfl rfl

theorem skipping (r : Sleeper) (reason : SkipReason) (s : State) : Onward s (s.skipping r reason) :=
  (modRecord r.seq _ s).trans (abandonDesign _ _)

theorem skipCurrent (reason : SkipReason) (s : State) : Onward s (skipCurrent reason s) := by
  cases hcur : currentRecord s with
  | none =>
    unfold Machine.skipCurrent
    rw [hcur]
    exact refl s
  | some r =>
    rw [skipCurrent_eq hcur]
    exact (((skipping r reason s).trans (returnToSeek _)).trans (raiseFlag _ _)).trans
      ((judgeSegments _).trans (judgeEngine _))

theorem arrivalOrders (r : Sleeper) (withPlans : Bool) (s : State) : Onward s (arrivalOrders r withPlans s) := by
  have hdriven (x : State) : Onward x x.driven := of_same rfl rfl
  rw [arrivalOrders_eq]
  exact (of_acted (ordered_acted r withPlans s)).trans (hdriven _)

theorem arrivedAt (s : State) (r : Sleeper) : Onward s (s.arrivedAt r) := by
  have hbegun : Onward s ((Machine.modRecord r.seq (fun r => { r with state := .inWork }) s).modCyc fun c =>
      { c with stopwatch := some s.clock }) := (modRecord r.seq _ s).trans (of_same rfl rfl)
  have hprepared (x : State) : Onward x (prepareAxes x) := by
    rw [prepareAxes_eq]
    exact of_same rfl rfl
  exact (hbegun.trans (setPhase .arrived _)).trans (hprepared _)

theorem arrival (s : State) : Onward s (arrival s) := by
  cases hcur : currentRecord s with
  | none =>
    unfold Machine.arrival
    rw [hcur]
    exact refl s
  | some r =>
    cases hv : snapshotReadings s with
    | some v =>
      rw [arrival_read hcur hv]
      exact ((arrivedAt s r).trans (requestTarget _ _)).trans (arrivalOrders r true _)
    | none =>
      rw [arrival_blind hcur hv]
      exact ((arrivedAt s r).trans (arrivalOrders r false _)).trans (hardHalt _ _ _)

theorem onDriveReport (s : State) (report : DriveReport) : Onward s (onDriveReport s report) := by
  unfold Machine.onDriveReport
  split
  · cases report with
    | arrived => dsimp only; split; exacts [arrival s, refl s]
    | outOfReach => dsimp only; split; exacts [skipCurrent _ s, refl s]
    | channelLost => dsimp only; split; exacts [hardHalt _ _ s, refl s]
    | holdLost => dsimp only; split; exacts [(refreshDemand s).trans (hardHalt _ _ _), refl s]
    | strokeEnd => dsimp only; split; exacts [(refreshDemand s).trans (hardHalt _ _ _), refl s]
  · exact refl s

theorem indexOrder (t : Int) (s : State) : Onward s (indexOrder t s).1 := by
  unfold Machine.indexOrder
  split
  · split
    · exact rideDrive s
    · split
      · exact of_same rfl rfl
      · exact of_same rfl rfl
  · exact rideDrive s

theorem judgeReach (r : Sleeper) (s : State) : Onward s (judgeReach r s) := by
  have hordered := (setPhase .seek s).trans (indexOrder r.chainage _)
  unfold Machine.judgeReach
  dsimp only
  split
  · exact (setPhase .seek s).trans (skipCurrent _ _)
  · split
    · split
      · exact hordered.trans (setPhase .indexing _)
      · exact hordered.trans (foldl onDriveReport _ _)
    · exact setPhase .seek s

theorem selectRecord (r : Sleeper) (s : State) : Onward s (selectRecord r s) := by
  unfold Machine.selectRecord
  extract_lets active chosen
  have hchosen : Onward s chosen := of_same rfl rfl
  split
  · exact hchosen.trans (skipCurrent _ _)
  · split
    · exact hchosen.trans (setPhase _ _)
    · exact hchosen.trans (judgeReach r _)
    · exact hchosen

theorem seek (s : State) : Onward s (seek s) := by
  unfold Machine.seek
  generalize s.slp.records.length + 1 = n
  induction n generalizing s with
  | zero => exact refl s
  | succ n ih =>
    unfold seekLoop seekOnce
    split
    · refine trans ?_ (ih _)
      split
      · exact enterMode _ s
      · split
        · exact selectRecord _ s
        · exact refl s
    · exact refl s

end Onward

end Sys2Proof.Machine
end


section
/-! ### The end of WAIT_DESIGN (O52) -/

namespace Sys2Proof.Machine

section judging
variable {s t : State} {r : Sleeper}

theorem indexOrder_lost (hoffset : satOffset s = none) (target : Int) :
    indexOrder target s = (rideDrive s, [.channelLost]) := by
  have hhead : headChainage s = none := by
    unfold headChainage
    rw [hoffset]
    rfl
  unfold indexOrder
  rw [hhead]

theorem onDriveReport_channelLost (hmode : s.cyc.mode = .work) (hphase : s.cyc.phase = .seek) :
    onDriveReport s .channelLost = hardHalt .channelLost (some (.channel .sat)) s := by
  unfold onDriveReport
  rw [if_pos hmode, hphase]
  rfl

/-- The index order without the SAT null: the hard halt of CHANNEL_LOST (R25, R150). -/
theorem judgeReach_lost (hmode : s.cyc.mode = .work) (hahead : 0 ≤ r.chainage - frameChainage s)
    (hnear : r.chainage - frameChainage s ≤ s.params.p09) (hoffset : satOffset s = none) :
    judgeReach r s = hardHalt .channelLost (some (.channel .sat)) (rideDrive (setPhase .seek s)) := by
  have hfixed := Kept.fixed_eq (setPhase_kept .seek s)
  have hdrive : (rideDrive (setPhase .seek s)).pos.drive ≠ .indexing := by
    rw [(rideDrive_rides (setPhase .seek s)).1]
    decide
  have hcyc : (rideDrive (setPhase .seek s)).cyc = { s.cyc with phase := .seek } :=
    (rideDrive_cyc _).trans (setPhase_cyc .seek s)
  rw [judgeReach_near hahead hnear, indexOrder_lost ((satOffset_of_fixed hfixed).trans hoffset)]
  dsimp only
  rw [if_neg hdrive, List.foldl_cons, List.foldl_nil,
    onDriveReport_channelLost (by rw [hcyc]; exact hmode) (by rw [hcyc])]

theorem judgeReach_behind (hbehind : r.chainage - frameChainage s < 0) :
    judgeReach r s = skipCurrent .outOfReach (setPhase .seek s) := by
  unfold judgeReach
  dsimp only
  rw [if_pos hbehind]

/-- The SKIPPED record of a skip, and its flag, whatever follows (R148). -/
theorem skipCurrent_skipped (hcur : currentRecord s = some r) (hr : unfinishedRecord r.seq s = some r)
    (reason : SkipReason) (htail : Onward (skipCurrent reason s) t) :
    flagIn .skippedSleeper t.cond.flags = true
      ∧ { r with state := .skipped, result := some (skippedResult (s.cyc.active.getD 0) reason r.flags) }
          ∈ t.slp.records := by
  have hskip : Onward (raiseFlag .skippedSleeper (returnToSeek (s.skipping r reason))) t := by
    rw [skipCurrent_eq hcur] at htail
    exact ((Onward.judgeSegments _).trans (.judgeEngine _)).trans htail
  have hmem := mem_modRecord (f := fun r : Sleeper =>
    { r with state := .skipped, result := some (skippedResult (s.cyc.active.getD 0) reason r.flags) }) hr
  have hall : Onward (s.skipping r reason) t := ((Onward.returnToSeek _).trans (.raiseFlag _ _)).trans hskip
  exact ⟨hskip.flags _ (flagIn_raiseFlag _ _), hall.finished.2 _ hmem rfl⟩

end judging

/-! #### The completion of the pass waited for -/

/-- The state in which the record waited for is DESIGNED and the segment queue has been judged. -/
structure PassWritten (s t : State) (p : DesignPass) (r : Sleeper) : Prop where
  cyc : t.cyc = s.cyc
  pos : t.pos = s.pos
  eng : t.eng = { s.eng with activity := .idle }
  kept : t.kept = s.kept
  unstopped : t.Unstopped
  length : t.slp.records.length = s.slp.records.length
  found : unfinishedRecord p.seq t = some { r with state := .designed, design := some (designPart p) }
  unqueued : t.Unqueued p.seq

section written
variable {s t : State} {p : DesignPass} {r : Sleeper}

theorem passWritten (hr : unfinishedRecord p.seq s = some r) (hu : s.Unstopped) :
    PassWritten s (judgeSegments (writeDesign p (dropPass s))) p r := by
  have hseq : r.seq = p.seq := by
    have hpred := List.find?_some hr
    rw [Bool.and_eq_true] at hpred
    exact of_decide_eq_true hpred.2
  have hcalm := Calm.judgeSegments (s := writeDesign p (dropPass s)) hu
  have hslp := hcalm.slp
  have hrecords : (judgeSegments (writeDesign p (dropPass s))).slp.records = s.slp.records.map fun q =>
      if !q.state.finished && decide (q.seq = p.seq) then
        { q with state := .designed, design := some (designPart p) }
      else q := congrArg SleeperQueue.records hslp
  exact {
    cyc := hcalm.cyc
    pos := hcalm.pos
    eng := hcalm.eng
    kept := hcalm.kept.trans (modRecord_kept p.seq _ (dropPass s) fun _ => ⟨rfl, rfl, rfl⟩)
    unstopped := hcalm.unstopped hu
    length := by rw [hrecords, List.length_map]
    found := by
      have hmod : unfinishedRecord p.seq (writeDesign p (dropPass s))
          = some { r with state := .designed, design := some (designPart p) } := by
        rw [writeDesign, ← hseq]
        exact unfinishedRecord_modRecord (s := dropPass s) (by rw [hseq]; exact hr) fun _ => ⟨rfl, rfl⟩
      unfold unfinishedRecord at hmod ⊢
      rw [hslp]
      exact hmod
    unqueued := fun q hq hstate hsame => by
      rw [hrecords] at hq
      obtain ⟨z, -, rfl⟩ := List.mem_map.mp hq
      by_cases hz : (!z.state.finished && decide (z.seq = p.seq)) = true
      · rw [if_pos hz] at hstate
        cases hstate
      · rw [if_neg hz] at hstate hsame
        exact hz (by rw [hstate, hsame]; simp [RecordState.finished]) }

/-- The completion where the cycle controller waits for the record. -/
theorem completeDesign_waited (hmode : s.cyc.mode = .work) (hphase : s.cyc.phase = .waitDesign)
    (hcur : s.cyc.current = some p.seq) {r' : Sleeper} (ht : t = judgeSegments (writeDesign p (dropPass s)))
    (hcyc : t.cyc = s.cyc) (hfound : unfinishedRecord p.seq t = some r') :
    completeDesign p s = seek (judgeEngine (judgeReach r' t)) := by
  have hwaits : waitsDesignOf p.seq t = true := by simp [waitsDesignOf, hcyc, hmode, hphase, hcur]
  have hcurrent : currentRecord t = some r' := by
    unfold currentRecord
    rw [hcyc, hcur]
    exact hfound
  unfold completeDesign leaveWaitDesign
  rw [← ht, if_pos hwaits, hcurrent]

/-- Behind a reach judgement that keeps the record current the engine judges alone. -/
theorem behind_reach (hu : s.Unstopped) (hphase : s.cyc.phase ≠ .waitDesign) (hcur : s.cyc.current ≠ none) :
    EngineJudged s (seek (judgeEngine s)) := by
  have hjudged := judgeEngine_judged hu fun _ => hphase
  rw [seek_settled (seekDue_false fun _ _ h => absurd h (by rw [hjudged.cyc]; exact hcur))]
  exact hjudged

end written

end Sys2Proof.Machine
end


section
namespace Sys2Proof.Machine

section outcomes
variable {s t : State} {p : DesignPass} {r : Sleeper}

/-- The reach judgement of a record waited for that lies too far ahead, with the drive RIDING. -/
theorem waited_far (hmode : s.cyc.mode = .work) (hdrive : s.pos.drive = .riding) (hu : s.Unstopped)
    (hcur : s.cyc.current ≠ none) (hahead : 0 ≤ r.chainage - frameChainage s)
    (hfar : s.params.p09 < r.chainage - frameChainage s) :
    EngineJudged { s with
        cyc := { s.cyc with phase := .seek }
        pos := { s.pos with demand := baseDemand s, strokeTerm := .go } } (seek (judgeEngine (judgeReach r s))) := by
  have hrest : s.pos.drive ≠ .holding := by
    rw [hdrive]
    decide
  have hdemand : demandOf { s with cyc := { s.cyc with phase := .seek } } = baseDemand s :=
    demandOf_resting_drive (s := { s with cyc := { s.cyc with phase := .seek } }) (phase := .seek) hmode hrest rfl (by decide)
  rw [judgeReach_far hahead hfar, setPhase_resting hrest, hdemand]
  exact behind_reach (s := { s with
    cyc := { s.cyc with phase := .seek }
    pos := { s.pos with demand := baseDemand s, strokeTerm := .go } }) hu nofun hcur

/-- The reach judgement of a record waited for that lies in reach and outside the window. -/
theorem waited_indexes (hdrive : s.pos.drive = .riding) (hu : s.Unstopped) (hcur : s.cyc.current ≠ none)
    (hahead : 0 ≤ r.chainage - frameChainage s) (hnear : r.chainage - frameChainage s ≤ s.params.p09) {h : Int}
    (hhead : headChainage s = some h) (hfar : s.params.p12 < ((h - r.chainage).natAbs : Int)) :
    ∃ x : State, EngineJudged x (seek (judgeEngine (judgeReach r s))) ∧ x.slp = s.slp ∧ x.kept = s.kept
      ∧ x.cyc = { s.cyc with phase := .indexing } ∧ x.pos.drive = .indexing ∧ x.pos.target = some r.chainage
      ∧ x.pos.output = driveCommand x := by
  have hrest : s.pos.drive ≠ .holding := by
    rw [hdrive]
    decide
  let ordered := (setPhase .seek s).indexingTo r.chainage
  have hseek := setPhase_resting hrest .seek
  have hrest' : ordered.pos.drive ≠ .holding := by
    show Drive.indexing ≠ .holding
    decide
  have hphase := setPhase_resting hrest' .indexing
  have hordered : ordered.slp = s.slp ∧ ordered.cyc = { s.cyc with phase := .seek } ∧ ordered.Unstopped := by
    rw [show ordered = _ from congrArg (fun x : State => x.indexingTo r.chainage) hseek]
    exact ⟨rfl, rfl, hu⟩
  obtain ⟨hslp, hcyc, hunstopped⟩ := hordered
  have hreach := judgeReach_indexes hahead hnear hhead hfar
  have hcommand : (setPhase .indexing ordered).pos.output = driveCommand (setPhase .indexing ordered) := by
    have hsame : driveCommand (setPhase .indexing ordered) = driveCommand ordered := driveCommand_of_fixed
      (Kept.fixed_eq (setPhase_kept _ _)) (by rw [hphase]) (by rw [hphase]) (by rw [hphase])
    rw [hsame, hphase]
    exact driveCommand_of_fixed rfl rfl rfl rfl
  have hleaves : (setPhase .indexing ordered).Unstopped ∧ (setPhase .indexing ordered).pos.drive = .indexing
      ∧ (setPhase .indexing ordered).pos.target = some r.chainage := by
    rw [hphase]
    exact ⟨hunstopped, rfl, rfl⟩
  obtain ⟨hu', hdrv, htgt⟩ := hleaves
  have hcyc' : (setPhase .indexing ordered).cyc = { s.cyc with phase := .indexing } := by
    rw [setPhase_cyc, hcyc]
  have hkept : (setPhase .indexing ordered).kept = s.kept := (setPhase_kept _ _).trans (setPhase_kept .seek s)
  rw [hreach]
  exact ⟨_, behind_reach (s := setPhase .indexing ordered) hu' (by rw [hcyc']; exact nofun) (by rw [hcyc']; exact hcur),
    (setPhase_slp _ _).trans hslp, hkept, hcyc', hdrv, htgt, hcommand⟩

/-- Behind an arrival nothing is left to judge: the engine is on its target pass and the record is current. -/
theorem behind_arrival {x : State} {v : Readings} (harr : Arrived x t r v) {pass : TargetPass}
    (heng : t.eng = ⟨.targeting pass, none⟩) : seek (judgeEngine t) = t := by
  rw [judgeEngine_busy (by rw [heng]; exact nofun)]
  exact seek_of_not_seeking fun _ => by
    rw [harr.cyc]
    exact nofun

/-- Behind a hard halt the engine may begin a pass. -/
theorem behind_halt (h : s.cyc.mode ≠ .work) : (seek (judgeEngine s)).cyc = s.cyc ∧ (seek (judgeEngine s)).pos = s.pos
    ∧ (seek (judgeEngine s)).kept = s.kept := by
  have houtside := (judgeEngine_of_not_work h).1
  rw [seek_of_not_work (by rw [cyc_of_outside houtside]; exact h)]
  exact ⟨cyc_of_outside houtside, pos_of_outside houtside, kept_of_outside houtside⟩

end outcomes

/-- Settles O52: the reach judgement at the completion of the pass that is waited for. -/
theorem waitDesignLeft : Obligations.WaitDesignLeft := by
  intro s dt p r hpower heng hmode hphase hcur hr hstate harmed hstop hdrive ahead near designed
  let b := s.beginAt dt
  have hbhead : headChainage b = headChainage s := rfl
  let w := judgeSegments (writeDesign p (dropPass b))
  have hseq : r.seq = p.seq := by
    have hpred := List.find?_some hr
    rw [Bool.and_eq_true] at hpred
    exact of_decide_eq_true hpred.2
  have hw : PassWritten b w p r := passWritten (s := b) hr ⟨harmed, hstop⟩
  have hdone : completeDesign p b = seek (judgeEngine (judgeReach designed w)) :=
    completeDesign_waited (s := b) (t := w) hmode hphase hcur rfl hw.cyc hw.found
  have hexec : exec (.designPassComplete dt) s = .next (arbitrate (seek (judgeEngine (judgeReach designed w)))) := by
    show execDesignPassComplete dt s = _
    unfold execDesignPassComplete
    rw [hpower, heng, ← hdone]
  obtain ⟨hcyc, hpos, hweng, hkept, hu, hlength, hfound, hunqueued⟩ := hw
  have hfixed := Kept.fixed_eq hkept
  have hframe : frameChainage w = frameChainage s := (frameChainage_of_fixed hfixed).trans rfl
  have hparams : w.params = s.params := (params_of_fixed hfixed).trans rfl
  have hhead : headChainage w = headChainage s := (headChainage_of_fixed hfixed).trans hbhead
  have hoffset : satOffset w = satOffset s := (satOffset_of_fixed hfixed).trans rfl
  have hwmode : w.cyc.mode = .work := by rw [hcyc]; exact hmode
  have hwcur : w.cyc.current = some designed.seq := by rw [hcyc]; exact hcur.trans (congrArg some hseq.symm)
  have hwfound : unfinishedRecord designed.seq w = some designed := (congrArg (unfinishedRecord · w) hseq).trans hfound
  have hwdrive : w.pos.drive = .riding := by rw [hpos]; exact hdrive
  have hmem : designed ∈ w.slp.records := List.mem_of_find?_eq_some hwfound
  have hfree : w.Unqueued designed.seq := (congrArg w.Unqueued hseq).mpr hunqueued
  have hahead {n : Int} : n = designed.chainage - frameChainage w ↔ n = ahead := by rw [hframe]
  have hclock : (seek (judgeEngine (judgeReach designed w))).clock = s.clock + dt := by
    have hall : (seek (judgeEngine (judgeReach designed w))).kept = w.kept := by
      rw [seek_kept, judgeEngine_kept, judgeReach_kept]
    exact (clock_of_fixed (Kept.fixed_eq hall)).trans ((clock_of_fixed hfixed).trans rfl)
  clear_value w
  refine ⟨_, hexec, by rw [arbitrate_clock, hclock], fun h0 hfar => ?_, fun hnear h hh hfar => ?_,
    fun hnear h o a b c d hh ho hpositive ha hb hc hd hwindow => ?_, fun hnear hlost => ?_, fun hbehind => ?_⟩
  · have hjudged := waited_far (r := designed) hwmode hwdrive hu (by rw [hwcur]; exact nofun) (by rw [hframe]; exact h0)
      (by rw [hframe, hparams]; exact hfar)
    have hrecord := hjudged.records designed hmem hfree
    have hjcyc := hjudged.cyc
    have hjpos := hjudged.pos
    rw [arbitrate_slp, arbitrate_cyc, arbitrate_pos, hjcyc, hjpos]
    refine ⟨hrecord, ?_, hwdrive, ?_⟩
    · exact congrArg (fun c : Cycle => { c with phase := .seek }) hcyc
    · exact congrArg (fun n => if 15 ≤ n then Demand.stop else Demand.go) hlength
  · obtain ⟨x, hjudged, hxslp, hxkept, hxcyc, hxdrive, hxtarget, hxoutput⟩ := waited_indexes (r := designed) hwdrive hu
      (by rw [hwcur]; exact nofun) (by rw [hframe]; exact hnear.1) (by rw [hframe, hparams]; exact hnear.2)
      (by rw [hhead]; exact hh) (by rw [hparams]; exact hfar)
    have hxfree : x.Unqueued designed.seq := by
      unfold State.Unqueued
      rw [hxslp]
      exact hfree
    have hrecord := hjudged.records designed (by rw [hxslp]; exact hmem) hxfree
    have hjpos := hjudged.pos
    have hcommand : driveCommand (seek (judgeEngine (judgeReach designed w))) = driveCommand x :=
      driveCommand_of_fixed (Kept.fixed_eq hjudged.kept) (by rw [hjpos]) (by rw [hjpos]) hjudged.heads
    rw [arbitrate_slp, arbitrate_cyc, arbitrate_pos, driveCommand_arbitrate, hcommand, hjudged.cyc, hjpos]
    exact ⟨hrecord, hxcyc.trans (congrArg (fun c : Cycle => { c with phase := .indexing }) hcyc), hxdrive, hxtarget, hxoutput⟩
  · have hreads : snapshotReadings w = some ⟨a, b, c, d⟩ := by
      rw [snapshotReadings_of_fixed hfixed]
      have hsame : snapshotReadings (s.beginAt dt) = snapshotReadings s := rfl
      rw [hsame, snapshotReadings, ha, hb, hc, hd]
    have harr := judgeReach_arrives (r := designed) hwmode (by rw [hframe]; exact hnear.1)
      (by rw [hframe, hparams]; exact hnear.2) (by rw [hhead]; exact hh) (by rw [hoffset]; exact ho) hpositive
      (by rw [hparams]; exact hwindow) hwcur hwfound hreads
    obtain ⟨hhslp, hhcyc, hhdrive, hhtarget, hheng, -, -, hhkept⟩ := holdingAt_leaves w designed.chainage
    have hhfound : unfinishedRecord designed.seq (w.holdingAt designed.chainage) = some designed := by
      unfold unfinishedRecord
      rw [hhslp]
      exact hwfound
    have htarget := harr.eng_begun (by rw [hheng, hweng]) hhfound rfl
    have hrecord := mem_modRecord (f := fun r => { r with state := .inWork }) hhfound
    have hhfixed := Kept.fixed_eq hhkept
    rw [behind_arrival harr htarget, arbitrate_slp, arbitrate_cyc, arbitrate_pos, arbitrate_eng, harr.slp, harr.cyc,
      harr.drive, harr.target, htarget, hhcyc, hcyc, clock_of_fixed hhfixed, clock_of_fixed hfixed, params_of_fixed hhfixed,
      hparams]
    exact ⟨hrecord, rfl, hhdrive, hhtarget, rfl⟩
  · have hreach := judgeReach_lost (r := designed) hwmode (by rw [hframe]; exact hnear.1)
      (by rw [hframe, hparams]; exact hnear.2) (by rw [hoffset]; exact hlost)
    let x := rideDrive (setPhase .seek w)
    have hxcyc : x.cyc = { w.cyc with phase := .seek } := (rideDrive_cyc _).trans (setPhase_cyc .seek w)
    have hxmode : x.cyc.mode = .work := by rw [hxcyc]; exact hwmode
    have hhalted := (hardHalt_halted (.inl hxmode) .channelLost (some (.channel .sat))).cyc
    have hrides := hardHalt_rides hxmode .channelLost (some (.channel .sat))
    rw [hreach, arbitrate_cyc, arbitrate_pos]
    obtain ⟨hbcyc, hbpos, -⟩ := behind_halt (s := hardHalt .channelLost (some (.channel .sat)) x)
      (by rw [hhalted]; exact nofun)
    rw [hbcyc, hbpos, hhalted, hrides.1, hxcyc, hcyc]
    exact ⟨rfl, rfl⟩
  · have hreach := judgeReach_behind (r := designed) (s := w) (by rw [hframe]; exact hbehind)
    have hsame : (setPhase .seek w).slp = w.slp := setPhase_slp .seek w
    have hscyc : (setPhase .seek w).cyc = { w.cyc with phase := .seek } := setPhase_cyc .seek w
    have hsfound : unfinishedRecord designed.seq (setPhase .seek w) = some designed := by
      unfold unfinishedRecord
      rw [hsame]
      exact hwfound
    have hscur := currentRecord_of (s := setPhase .seek w) (by rw [hscyc]; exact hwcur) hsfound
    obtain ⟨hflag, hrecord⟩ := skipCurrent_skipped hscur hsfound .outOfReach
      ((Onward.judgeEngine _).trans (.seek _))
    rw [arbitrate_slp, arbitrate_cond, hreach]
    refine ⟨hflag, _, hrecord, ?_, rfl, rfl⟩
    show (setPhase .seek w).cyc.active.getD 0 = _
    rw [hscyc, hcyc]
    rfl

end Sys2Proof.Machine
end


section
/-! ### The skips (O51) -/

namespace Sys2Proof.Machine

section skipping
variable {s t : State} {r : Sleeper} {before after : List Sleeper}

/-- A change of the only unfinished record. -/
theorem modRecord_split (hrecords : s.slp.records = before ++ r :: after)
    (hothers : ∀ q ∈ before ++ after, q.state.finished = true) (hr : r.state.finished = false) (f : Sleeper → Sleeper) :
    (modRecord r.seq f s).slp = { s.slp with records := before ++ f r :: after } := by
  have hkeep (l : List Sleeper) (hl : ∀ q ∈ l, q.state.finished = true) :
      (l.map fun q => if !q.state.finished && decide (q.seq = r.seq) then f q else q) = l :=
    (List.map_congr_left (g := id) fun q hq => if_neg (by simp [hl q hq])).trans (List.map_id l)
  have hbefore := hkeep before fun q hq => hothers q (List.mem_append_left _ hq)
  have hafter := hkeep after fun q hq => hothers q (List.mem_append_right _ hq)
  have hmapped : (s.slp.records.map fun q => if !q.state.finished && decide (q.seq = r.seq) then f q else q)
      = before ++ f r :: after := by
    rw [hrecords, List.map_append, List.map_cons, hbefore, hafter, if_pos (by simp [hr])]
  exact congrArg (fun l => { s.slp with records := l }) hmapped

/-- A record as a skip writes it (R148). -/
def Sleeper.skippedFor (r : Sleeper) (active : UnitSet) (reason : SkipReason) : Sleeper :=
  { r with state := .skipped, result := some (skippedResult active reason r.flags) }

/-- The queue after the only unfinished record was skipped. -/
theorem all_finished {active : UnitSet} {reason : SkipReason}
    (h : t.slp = { s.slp with records := before ++ r.skippedFor active reason :: after })
    (hothers : ∀ q ∈ before ++ after, q.state.finished = true) : ∀ q ∈ t.slp.records, q.state.finished = true := by
  intro q hq
  rw [h] at hq
  rcases List.mem_append.mp hq with hq | hq
  · exact hothers q (List.mem_append_left _ hq)
  · rcases List.mem_cons.mp hq with rfl | hq
    · rfl
    · exact hothers q (List.mem_append_right _ hq)

theorem oldestQueued_finished (h : ∀ q ∈ s.slp.records, q.state.finished = true) : oldestQueued s = none :=
  oldestQueued_none fun q hq hqueued => by
    have hfin := h q hq
    rw [hqueued] at hfin
    cases hfin

/-- What a skip of the current record leaves where no other record is unfinished and no stop can come. -/
structure SkippedAlone (s t : State) (r : Sleeper) (before after : List Sleeper) (reason : SkipReason)
    (pass : DesignPass) : Prop where
  marked : flagIn .skippedSleeper t.cond.flags = true
  slp : t.slp = { s.slp with records := before ++ r.skippedFor (s.cyc.active.getD 0) reason :: after }
  cyc : t.cyc = { s.cyc with phase := .seek, current := none, active := none }
  busy : pass.seq ≠ r.seq → t.eng = s.eng
  free : pass.seq = r.seq → t.eng.activity = .idle
  unstopped : t.Unstopped
  rides : s.pos.Rides → t.pos.Rides
  kept : t.kept = s.kept

theorem skipCurrent_alone (hcur : s.cyc.current = some r.seq) (hrecords : s.slp.records = before ++ r :: after)
    (hothers : ∀ q ∈ before ++ after, q.state.finished = true) (hr : r.state.finished = false) (hu : s.Unstopped)
    {pass : DesignPass} (heng : s.eng = ⟨.designing pass, none⟩) (reason : SkipReason) :
    SkippedAlone s (skipCurrent reason s) r before after reason pass := by
  have hfound : unfinishedRecord r.seq s = some r :=
    unfinishedRecord_split hrecords hr fun q hq => hothers q (List.mem_append_left _ hq)
  obtain ⟨eng, habandoned⟩ := abandonDesign_eq (fun p => decide (p.seq = r.seq)) (modRecord r.seq (fun r =>
    { r with state := .skipped, result := some (skippedResult (s.cyc.active.getD 0) reason r.flags) }) s)
  have hskipping : s.skipping r reason = _ := habandoned
  have hslp : (s.skipping r reason).slp
      = { s.slp with records := before ++ r.skippedFor (s.cyc.active.getD 0) reason :: after } := by
    rw [hskipping]
    exact modRecord_split hrecords hothers hr _
  have hkept : (s.skipping r reason).kept = s.kept := by
    rw [hskipping]
    exact modRecord_kept r.seq _ s fun _ => ⟨rfl, rfl, rfl⟩
  have heng' : (s.skipping r reason).eng
      = if decide (pass.seq = r.seq) then { s.eng with activity := .idle } else s.eng := by
    show (match s.eng.activity with
      | .designing p => if decide (p.seq = r.seq) then { s.eng with activity := .idle } else s.eng
      | _ => s.eng) = _
    rw [heng]
  have hsame : (s.skipping r reason).cyc = s.cyc ∧ (s.skipping r reason).pos = s.pos
      ∧ (s.skipping r reason).cond = s.cond := by
    rw [hskipping]
    exact ⟨rfl, rfl, rfl⟩
  obtain ⟨hscyc, hspos, hscond⟩ := hsame
  obtain ⟨demand, term, hreturned⟩ := Calm.returnToSeek (s.skipping r reason)
  have hu1 : (returnToSeek (s.skipping r reason)).Unstopped := hreturned.unstopped (by
    unfold State.Unstopped
    dsimp only
    rw [hscond]
    exact hu)
  have hraised := Calm.raiseFlag hu1 .skippedSleeper
  have hjudged := Calm.judgeSegments (hraised.unstopped hu1)
  have hcalm := (hreturned.trans hraised).trans hjudged
  have hmark : flagIn .skippedSleeper (judgeSegments (raiseFlag .skippedSleeper
      (returnToSeek (s.skipping r reason)))).cond.flags = true := hjudged.flags _ (flagIn_raiseFlag _ _)
  have hu2 := hjudged.unstopped (hraised.unstopped hu1)
  rw [skipCurrent_eq (currentRecord_of hcur hfound)]
  generalize judgeSegments (raiseFlag .skippedSleeper (returnToSeek (s.skipping r reason))) = x at *
  have hxslp : x.slp = _ := hcalm.slp.trans hslp
  have hxeng : x.eng = _ := hcalm.eng.trans heng'
  have hengine : judgeEngine x = x := by
    by_cases hpass : pass.seq = r.seq
    · rw [if_pos (decide_eq_true hpass), heng] at hxeng
      exact judgeEngine_waits hxeng (judgeDesign_none (oldestQueued_finished (all_finished hxslp hothers)))
    · rw [if_neg (by simp [hpass]), heng] at hxeng
      exact judgeEngine_busy (by rw [hxeng]; exact nofun)
  rw [hengine]
  exact {
    marked := hmark
    slp := hxslp
    cyc := hcalm.cyc.trans (by dsimp only; rw [hscyc])
    busy := fun h => by rw [hxeng, if_neg (by simp [h])]
    free := fun h => by rw [hxeng, if_pos (decide_eq_true h)]
    unstopped := hu2
    rides := fun h => by
      rw [hcalm.pos]
      dsimp only
      rw [hspos]
      exact h
    kept := hcalm.kept.trans hkept }

/-- SEEK with every record finished. -/
theorem seek_finished (hpause : s.cyc.pausePending = false) (h : ∀ q ∈ s.slp.records, q.state.finished = true) :
    seek s = s :=
  seek_settled (seekDue_false fun _ _ _ => ⟨hpause, firstUnfinished_none h⟩)

end skipping

end Sys2Proof.Machine
end


section
namespace Sys2Proof.Machine

/-! #### The skips of START -/

section start
variable {s : State} {r : Sleeper} {before after : List Sleeper} {active : UnitSet} {pass : DesignPass}

/-- What START leaves before SEEK selects, where no stop can come. -/
theorem start_calm (hu : s.Unstopped) : ∃ demand term, Calm { s.entering with
    pos := { s.pos with demand := demand, strokeTerm := term } } (actOnStop (judgeStarved (enterMode .work s))) := by
  have hentered := Calm.refreshDemand s.entering
  rw [← enterMode_work] at hentered
  have hjudged := hentered.trans (.judgeStarved _)
  rw [actOnStop_of_unarmed (hjudged.unstopped hu).1]
  exact ⟨_, _, hjudged⟩

theorem selectRecord_unworked (hactive : activeSetFor r s = 0) :
    selectRecord r s = skipCurrent .noHeads (s.chosen r 0) := by
  unfold selectRecord
  rw [hactive]
  exact if_pos rfl

/-- What the skip of the only unfinished record comes to at START (R148). -/
structure StartSkips (s t : State) (r : Sleeper) (before after : List Sleeper) (active : UnitSet) (reason : SkipReason)
    (pass : DesignPass) : Prop where
  marked : flagIn .skippedSleeper t.cond.flags = true
  slp : t.slp = { s.slp with records := before ++ r.skippedFor active reason :: after }
  cyc : t.cyc = { s.cyc with
    mode := .work, phase := .seek, pausePending := false, current := none, active := none, stopwatch := none }
  busy : pass.seq ≠ r.seq → t.eng = s.eng
  free : pass.seq = r.seq → t.eng.activity = .idle

theorem start_skips (hu : s.Unstopped) (heng : s.eng = ⟨.designing pass, none⟩)
    (hrecords : s.slp.records = before ++ r :: after) (hothers : ∀ q ∈ before ++ after, q.state.finished = true)
    (hr : r.state = .queued ∨ r.state = .designed) (hselects : ∀ u, unitIn u active = true ↔ s.Usable r u) :
    (active = 0 → StartSkips s (seek (actOnStop (judgeStarved (enterMode .work s)))) r before after active .noHeads pass)
      ∧ (active ≠ 0 → r.state = .designed → r.chainage < frameChainage s →
        StartSkips s (seek (actOnStop (judgeStarved (enterMode .work s)))) r before after active .outOfReach pass) := by
  obtain ⟨demand, term, hcalm⟩ := start_calm hu
  generalize actOnStop (judgeStarved (enterMode .work s)) = w at *
  have hfinished : r.state.finished = false := by rcases hr with h | h <;> rw [h] <;> rfl
  have hslp : w.slp = s.slp := hcalm.slp
  have hcyc : w.cyc = modeCycle .work s.cyc := hcalm.cyc
  have hweng : w.eng = s.eng := hcalm.eng
  have hheads : w.heads = s.heads := hcalm.heads
  have hfixed : w.kept.fixed = s.kept.fixed := (Kept.fixed_eq hcalm.kept).trans rfl
  have hset : w.headSet = s.headSet := (headSet_of_fixed (Kept.fixed_eq hcalm.kept)).trans rfl
  have hwrecords : w.slp.records = before ++ r :: after := by rw [hslp]; exact hrecords
  have hwu := hcalm.unstopped hu
  have hselected : seek w = seekLoop w.slp.records.length (selectRecord r w) :=
    seek_selects (by rw [hcyc]; rfl) (by rw [hcyc]; rfl) (by rw [hcyc]; rfl) (by rw [hcyc]; rfl)
      (firstUnfinished_split hwrecords hfinished fun q hq => hothers q (List.mem_append_left _ hq))
  have hactive : activeSetFor r w = active := activeSetFor_eq fun u => by
    unfold State.Usable
    rw [hheads, hset]
    exact hselects u
  rw [hselected]
  have hskips {c t : State} {reason : SkipReason} (hc : c.slp = w.slp)
      (hccyc : c.cyc = { w.cyc with phase := .seek, current := some r.seq, active := some active }) (hceng : c.eng = w.eng)
      (hcu : c.Unstopped) (ht : t = skipCurrent reason c) :
      StartSkips s (seekLoop w.slp.records.length t) r before after active reason pass := by
    have halone := skipCurrent_alone (s := c) (by rw [hccyc]) (by rw [hc]; exact hwrecords) hothers hfinished hcu
      (by rw [hceng, hweng, heng]) reason
    rw [← ht] at halone
    have htslp := halone.slp
    have htcyc : t.cyc = { s.cyc with
        mode := .work, phase := .seek, pausePending := false, current := none, active := none, stopwatch := none } := by
      rw [halone.cyc, hccyc, hcyc]
      rfl
    rw [hccyc] at htslp
    rw [seekLoop_settled _ (seekDue_false fun _ _ _ =>
      ⟨by rw [htcyc], firstUnfinished_none (all_finished htslp hothers)⟩)]
    exact ⟨halone.marked, htslp.trans (by rw [hc, hslp]; rfl), htcyc, fun h => (halone.busy h).trans (hceng.trans hweng),
      halone.free⟩
  have hphase : w.cyc = { w.cyc with phase := .seek } := by rw [hcyc]; rfl
  refine ⟨fun hzero => ?_, fun hsome hdesigned hbehind => ?_⟩
  · subst hzero
    refine hskips (c := w.chosen r 0) rfl ?_ rfl hwu (selectRecord_unworked hactive)
    exact congrArg (fun c : Cycle => { c with current := some r.seq, active := some 0 }) hphase
  · have hreach := judgeReach_behind (r := r) (s := w.chosen r active) (by
      have hframe : frameChainage (w.chosen r active) = frameChainage s := frameChainage_of_fixed hfixed
      rw [hframe]
      omega)
    have hseeking : Calm _ (setPhase .seek (w.chosen r active)) :=
      Calm.refreshDemand { w.chosen r active with cyc := { (w.chosen r active).cyc with phase := .seek } }
    exact hskips (c := setPhase .seek (w.chosen r active)) hseeking.slp hseeking.cyc hseeking.eng
      (hseeking.unstopped hwu) ((selectRecord_designed hactive hsome hdesigned).trans hreach)

end start

/-- The first part of O51: the two skips of START. -/
theorem skips_at_start (s : State) (dt : Nat) (tag : Byte) (before : List Sleeper) (r : Sleeper) (after : List Sleeper)
    (active : UnitSet) (pass : DesignPass) (hs : s.Listens) (hmode : s.cyc.mode = .ready ∨ s.cyc.mode = .paused)
    (hnulled : ∀ c, c = .sat ∨ c = .lat ∨ c = .lvlL ∨ c = .lvlR ∨ c = .xl → (s.count.get c).nulled = true)
    (hdepths : ∀ u, (s.heads.get u).state = .faulted ∨ (s.count.get (.dep u)).nulled = true)
    (hparking : ∀ u, (s.heads.get u).state ≠ .parking) (harmed : s.cond.armed = none) (hstop : s.cond.stop = 0)
    (heng : s.eng = ⟨.designing pass, none⟩) (hrecords : s.slp.records = before ++ r :: after)
    (hothers : ∀ q ∈ before ++ after, q.state.finished = true) (hr : r.state = .queued ∨ r.state = .designed)
    (hselects : ∀ u, unitIn u active = true ↔ s.Usable r u) :
    ∃ t, exec (.start dt tag) s = .next t
      ∧ (active = 0 → StartSkips s t r before after active .noHeads pass)
      ∧ (active ≠ 0 → r.state = .designed → r.chainage < frameChainage s →
        StartSkips s t r before after active .outOfReach pass) := by
  obtain ⟨hnone, hreach⟩ := start_skips (s := s.arriving dt 0x08 tag .start) (active := active) ⟨harmed, hstop⟩ heng hrecords
    hothers hr hselects
  refine ⟨_, start_taken hs hmode (startNulled_iff.mpr ⟨hnulled, hdepths⟩) hparking rfl, fun hzero => ?_,
    fun hsome hdesigned hbehind => ?_⟩
  · obtain ⟨h1, h2, h3, h4, h5⟩ := hnone hzero
    exact ⟨h1, h2, h3, h4, h5⟩
  · obtain ⟨h1, h2, h3, h4, h5⟩ := hreach hsome hdesigned hbehind
    exact ⟨h1, h2, h3, h4, h5⟩

end Sys2Proof.Machine
end


section
namespace Sys2Proof.Machine

/-! #### The frame that passes the target of an index -/

section passing
variable {s before : State} {r : Sleeper} {early late : List Sleeper} {pass : DesignPass}

/-- With no detection OPEN and no bearer passed nothing is judged (R71). -/
theorem judgePassing_nothing (hdet : s.slp.detection = none) (hnone : ∀ b ∈ poolOf s.seg.segments, ¬ s.passes b) :
    judgePassing s = s := by
  unfold judgePassing
  split
  · rw [if_neg (by rw [hdet]; decide), passedBearers_nil hnone]
    rfl
  · rfl

/-- A drive whose target the frame has passed (R27). -/
theorem redetermine_passed {tgt h o : Int} (hdrive : s.pos.drive = .indexing) (htarget : s.pos.target = some tgt)
    (hhead : headChainage s = some h) (hoffset : satOffset s = some o) (hpassed : tgt < frameChainage s) :
    redetermine s = (rideDrive s, [.outOfReach]) := by
  unfold redetermine
  rw [hdrive, htarget, hhead, hoffset]
  dsimp only
  rw [if_pos (by omega)]

theorem onDriveReport_outOfReach (hmode : s.cyc.mode = .work) (hphase : indexPhase s.cyc.phase = true) :
    onDriveReport s .outOfReach = skipCurrent .outOfReach s := by
  unfold onDriveReport
  rw [if_pos hmode]
  exact if_pos hphase

/-- A detector that moves over consumed bearers, with the engine on a pass, while a sleeper is indexed to. -/
theorem detectorMoved_calm (hu : s.Unstopped) (hphase : s.cyc.phase = .indexing) (hbusy : s.eng.activity ≠ .idle)
    (hdet : s.slp.detection = none) (hconsumed : ∀ b ∈ poolOf s.seg.segments, b.consumed = true) :
    Calm s (detectorMoved s) := by
  have hpassing : judgePassing s = s := judgePassing_nothing hdet fun b hb hpasses => by
    have hfree := hpasses.1
    rw [hconsumed b hb] at hfree
    cases hfree
  have hjudged := Calm.judgeSegments hu
  unfold detectorMoved
  rw [hpassing, judgeEngine_busy (by rw [hjudged.eng]; exact hbusy), seek_of_not_seeking fun _ => by
    rw [hjudged.cyc, hphase]
    decide]
  exact hjudged

/-- The skip of OUT_OF_REACH by a drive that is INDEXING, with all that follows it (R27, R148, R150). -/
theorem afterDrive_outOfReach {tgt h o : Int} (hu : s.Unstopped) (hmode : s.cyc.mode = .work)
    (hphase : s.cyc.phase = .indexing) (hdrive : s.pos.drive = .indexing) (htarget : s.pos.target = some tgt)
    (hhead : headChainage s = some h) (hoffset : satOffset s = some o) (hpassed : tgt < frameChainage s)
    (hcur : s.cyc.current = some r.seq) (hrecords : s.slp.records = early ++ r :: late)
    (hothers : ∀ q ∈ early ++ late, q.state.finished = true) (hr : r.state.finished = false)
    (hpause : s.cyc.pausePending = false) (heng : s.eng = ⟨.designing pass, none⟩) :
    ∃ t, afterDrive (redetermine s) = t ∧ flagIn .skippedSleeper t.cond.flags = true
      ∧ t.slp = { s.slp with records := early ++ r.skippedFor (s.cyc.active.getD 0) .outOfReach :: late }
      ∧ t.cyc = { s.cyc with phase := .seek, current := none, active := none } ∧ t.pos.Rides ∧ t.Unstopped := by
  have hridden : Calm _ (rideDrive s) := Calm.refreshDemand (s.modPos fun p =>
    { p with drive := .riding, target := none, output := .stop, holdLost := false, strokeEnd := false })
  have hrides := rideDrive_rides s
  have hrslp : (rideDrive s).slp = s.slp := hridden.slp
  have hrcyc : (rideDrive s).cyc = s.cyc := hridden.cyc
  have hreng : (rideDrive s).eng = s.eng := hridden.eng
  have halone := skipCurrent_alone (s := rideDrive s) (pass := pass) (by rw [hrcyc]; exact hcur)
    (by rw [hrslp]; exact hrecords) hothers hr (hridden.unstopped hu) (by rw [hreng]; exact heng) .outOfReach
  have hreport : onDriveReport (rideDrive s) .outOfReach = skipCurrent .outOfReach (rideDrive s) :=
    onDriveReport_outOfReach (by rw [hrcyc]; exact hmode) (by rw [hrcyc, hphase]; rfl)
  have hlast := Calm.refreshDemand (skipCurrent .outOfReach (rideDrive s))
  have hlastRides := refreshDemand_rides (halone.rides hrides)
  have hafter : afterDrive (redetermine s)
      = seek (actOnStop (refreshDemand (skipCurrent .outOfReach (rideDrive s)))) := by
    rw [redetermine_passed hdrive htarget hhead hoffset hpassed, afterDrive, List.foldl_cons, List.foldl_nil, hreport]
  obtain ⟨hmarked, hslp, hcyc, -, -, hu', -, -⟩ := halone
  generalize skipCurrent .outOfReach (rideDrive s) = k at *
  have hlslp : (refreshDemand k).slp = _ := hlast.slp.trans hslp
  have hlcyc : (refreshDemand k).cyc = _ := hlast.cyc.trans hcyc
  have hlu := hlast.unstopped hu'
  rw [hrcyc, hrslp] at hlslp
  rw [hrcyc] at hlcyc
  rw [actOnStop_of_unarmed hlu.1, seek_finished (by rw [hlcyc]; exact hpause) (all_finished hlslp hothers)] at hafter
  exact ⟨_, hafter, hlast.flags _ hmarked, hlslp, hlcyc, hlastRides, hlu⟩

end passing

/-- The second part of O51: the count of ODO that takes the frame past the target. -/
theorem skips_on_passing (s : State) (t0 : Nat) (n tgt o : Int) (before : List Sleeper) (r : Sleeper)
    (after : List Sleeper) (pass : DesignPass) (hpower : s.powered = true) (hsince : s.count.odo.a.since = some t0)
    (hpaired : s.count.odo.paired = false) (hmode : s.cyc.mode = .work) (hphase : s.cyc.phase = .indexing)
    (hdrive : s.pos.drive = .indexing) (htarget : s.pos.target = some tgt) (hoffset : satOffset s = some o)
    (harmed : s.cond.armed = none) (hstop : s.cond.stop = 0) (hdet : s.slp.detection = none)
    (hconsumed : ∀ b ∈ poolOf s.seg.segments, b.consumed = true) (heng : s.eng = ⟨.designing pass, none⟩)
    (hrecords : s.slp.records = before ++ r :: after) (hothers : ∀ q ∈ before ++ after, q.state.finished = true)
    (hr : r.state = .designed) (hcur : s.cyc.current = some r.seq) (hpause : s.cyc.pausePending = false)
    (hup : s.upA .odo = true) (hn : n = s.count.odo.count + 1) (hhi : n ≤ 2147483647)
    (hpassed : tgt < frameChainage (s.accepting .odo { s.count.odo.acceptedA with count := n } t0)) :
    ∃ t, exec (.filterWindowExpiry (.channelA .odo)) s = .next t ∧ flagIn .skippedSleeper t.cond.flags = true
      ∧ t.slp = { s.slp with records := before ++ r.skippedFor (s.cyc.active.getD 0) .outOfReach :: after }
      ∧ t.cyc = { s.cyc with phase := .seek, current := none, active := none }
      ∧ t.pos.drive = .riding ∧ t.pos.target = none ∧ t.pos.output = .stop := by
  let counted := s.accepting .odo { s.count.odo.acceptedA with count := n } t0
  let old := s.accepting .odo s.count.odo.acceptedA t0
  let turned := counted.forwarded
  have hu : turned.Unstopped := ⟨harmed, hstop⟩
  have hbusy : turned.eng.activity ≠ .idle := by
    show s.eng.activity ≠ .idle
    rw [heng]
    exact nofun
  have hmoved : ∃ m, Calm turned m ∧ odoMoved true old counted = if frameChainage counted ≠ frameChainage old then
      seek (actOnStop (reachAgain (afterDrive (redetermine m)))) else afterDrive (redetermine m) := by
    by_cases hdetector : detectorChainage counted ≠ detectorChainage old
    · refine ⟨detectorMoved turned, detectorMoved_calm hu hphase hbusy hdet hconsumed, ?_⟩
      unfold odoMoved
      dsimp only
      rw [if_pos hdetector]
      rfl
    · refine ⟨turned, .refl _, ?_⟩
      unfold odoMoved
      dsimp only
      rw [if_neg hdetector]
      rfl
  obtain ⟨m, hcalm, hodo⟩ := hmoved
  have hmcyc : m.cyc = s.cyc := hcalm.cyc
  have hmslp : m.slp = s.slp := hcalm.slp
  have hmpos : m.pos = turned.pos := hcalm.pos
  have hfixed := Kept.fixed_eq hcalm.kept
  have hmframe : frameChainage m = frameChainage counted := (frameChainage_of_fixed hfixed).trans rfl
  have hmoffset : satOffset m = some o := (satOffset_of_fixed hfixed).trans hoffset
  have hmhead : headChainage m = some (holdRange (frameChainage m + o)) := by
    unfold headChainage
    rw [hmoffset]
    rfl
  obtain ⟨t, hafter, hmarked, hslp, hcyc, ⟨hride, hout, htgt, -⟩, htu⟩ := afterDrive_outOfReach (s := m) (r := r)
    (early := before) (late := after) (pass := pass) (hcalm.unstopped hu) (by rw [hmcyc]; exact hmode) (by rw [hmcyc]; exact hphase)
    (by rw [hmpos]; exact hdrive) (by rw [hmpos]; exact htarget) hmhead hmoffset (by rw [hmframe]; exact hpassed)
    (by rw [hmcyc]; exact hcur) (by rw [hmslp]; exact hrecords) hothers (by rw [hr]; rfl) (by rw [hmcyc]; exact hpause)
    (hcalm.eng.trans heng)
  rw [hmslp, hmcyc] at hslp
  rw [hmcyc] at hcyc
  have hagain : seek (actOnStop (reachAgain t)) = t := by
    have hreach : reachAgain t = t := by
      have hnone : currentRecord t = none := by
        unfold currentRecord
        rw [hcyc]
      unfold reachAgain
      rw [hnone]
      split <;> rfl
    rw [hreach, actOnStop_of_unarmed htu.1, seek_finished (by rw [hcyc]; exact hpause) (all_finished hslp hothers)]
  have hend : odoMoved true old counted = t := by
    rw [hodo, hafter, hagain]
    split <;> rfl
  have hexec := exec_odoUp hpower hpaired hsince hup hn hhi
  rw [hend] at hexec
  exact ⟨_, hexec, by rw [arbitrate_cond]; exact hmarked, by rw [arbitrate_slp]; exact hslp,
    by rw [arbitrate_cyc]; exact hcyc, by rw [arbitrate_pos]; exact hride, by rw [arbitrate_pos]; exact htgt,
    by rw [arbitrate_pos]; exact hout⟩

end Sys2Proof.Machine
end


section
namespace Sys2Proof.Machine

/-! #### The skip of NO_COVER at an append -/

section cover
variable {s : State} {r : Sleeper} {before after : List Sleeper} {body : SegmentBody} {a b : Int}

/-- The judgement of R83 for an oldest QUEUED record whose rear point lies before the queue start. -/
theorem judgeDesign_behind (hq : oldestQueued s = some r) (ha : queueStart s.seg.segments = some a)
    (hb : queueEnd s.seg.segments = some b) (hrear : r.chainage - bMax s.params < a) :
    judgeDesign s = if firstUnfinished s = some r then .skip r else .wait := by
  rw [judgeDesign, hq, ha, hb]
  exact if_pos hrear

theorem judgeStarved_segments (s : State) : (judgeStarved s).seg.segments = s.seg.segments := by
  have hset (f : Flag) (x : State) : (setFlag f x).seg = x.seg := congrArg Beyond.seg (setFlag_beyond f x)
  unfold judgeStarved
  split
  · dsimp only
    split
    · rw [hset]
      rfl
    · rfl
  · rfl

theorem afterAppend_kept (s : State) : (afterAppend s).kept.fixed = s.kept.fixed := by
  have hjudged : (actOnStop (judgeStarved (judgeLookAhead true s))).kept = s.kept := by
    rw [actOnStop_kept, judgeStarved_kept, judgeLookAhead_kept]
  have hpassing := (judgePassing_fixed (actOnStop (judgeStarved (judgeLookAhead true s)))).trans (Kept.fixed_eq hjudged)
  refine Eq.trans (Kept.fixed_eq ?_) hpassing
  rw [afterAppend, seek_kept, judgeEngine_kept]

/-- An accepted append to an empty queue. -/
theorem appended_first (hempty : s.seg.segments = []) {x : Int} (hx : body.start = some x) :
    (appendSegment body s).seg.segments = [heldSegment x body] := by
  have hstart : appendStart body s.seg.segments = x := by rw [appendStart, hx]; rfl
  show s.seg.segments ++ [heldSegment (appendStart body s.seg.segments) body] = _
  rw [hstart, hempty]
  rfl

theorem append_taken (dt : Nat) (tag : Byte) (hs : s.Listens) (hbody : appendRefusal body s = none) {t : State}
    (ht : afterAppend (appendSegment body (s.arriving dt 0x05 tag (.segmentAppend body))) = t) :
    ∃ t', exec (.segmentAppend dt tag body) s = .next t' ∧ t'.slp = t.slp ∧ t'.cyc = t.cyc ∧ t'.cond = t.cond := by
  have htaken := takeAppend_taken (s := s.arriving dt 0x05 tag (.segmentAppend body)) (body := body) hbody
  have hfixed := afterAppend_kept (appendSegment body (s.arriving dt 0x05 tag (.segmentAppend body)))
  rw [ht] at htaken hfixed
  exact ⟨_, congrArg Host.Outcome.next (request_answered_fixed (r := .segmentAppend body) hs htaken hfixed), rfl, rfl, rfl⟩

/-- The skip at an append outside WORK (R84). -/
theorem noCover_resting (hmode : s.cyc.mode ≠ .work) (heng : s.eng = ⟨.idle, none⟩) (hjudged : judgeDesign s = .skip r)
    (hr : unfinishedRecord r.seq s = some r) :
    flagIn .skippedSleeper (judgeEngine s).cond.flags = true
      ∧ r.skippedFor 0 .noCover ∈ (judgeEngine s).slp.records ∧ (judgeEngine s).cyc = s.cyc := by
  let skipped := modRecord r.seq (fun r => r.skippedFor 0 .noCover) s
  have hskip : noCoverSkip r s = judgeSegments (setFlag .skippedSleeper skipped) := noCoverSkip_of_not_work hmode r
  have hengine := judgeEngine_skips heng hjudged
  have honward : Onward (setFlag .skippedSleeper skipped) (judgeEngine s) := by
    rw [hengine, hskip]
    exact (Onward.judgeSegments _).trans (.engineLoop _ _)
  have hmem : r.skippedFor 0 .noCover ∈ skipped.slp.records := mem_modRecord (f := fun r => r.skippedFor 0 .noCover) hr
  exact ⟨honward.flags _ (by rw [flagIn_setFlag]; simp),
    honward.finished.2 _ (by rw [setFlag_slp]; exact hmem) rfl, cyc_of_outside (judgeEngine_of_not_work hmode).1⟩

/-- The skip of a record that is waited for, the only one unfinished (R84, R148). -/
theorem noCover_waited {active : UnitSet} (hu : s.Unstopped) (hmode : s.cyc.mode = .work) (hphase : s.cyc.phase = .waitDesign)
    (hcur : s.cyc.current = some r.seq) (hactive : s.cyc.active = some active) (hpause : s.cyc.pausePending = false)
    (hrecords : s.slp.records = before ++ r :: after) (hothers : ∀ q ∈ before ++ after, q.state.finished = true)
    (hr : r.state = .queued) (heng : s.eng = ⟨.idle, none⟩) (hjudged : judgeDesign s = .skip r) :
    flagIn .skippedSleeper (seek (judgeEngine s)).cond.flags = true
      ∧ (seek (judgeEngine s)).slp = { s.slp with records := before ++ r.skippedFor active .noCover :: after }
      ∧ (seek (judgeEngine s)).cyc = { s.cyc with phase := .seek, current := none, active := none } := by
  let skipped := modRecord r.seq (fun r => r.skippedFor active .noCover) s
  have hwaits : waitsDesignOf r.seq s = true := by simp [waitsDesignOf, hmode, hphase, hcur]
  have hskip : noCoverSkip r s = judgeSegments (raiseFlag .skippedSleeper (returnToSeek skipped)) := by
    unfold noCoverSkip
    rw [hwaits, hactive]
    rfl
  have hslp : skipped.slp = { s.slp with records := before ++ r.skippedFor active .noCover :: after } :=
    modRecord_split hrecords hothers (by rw [hr]; rfl) _
  obtain ⟨demand, term, hreturned⟩ := Calm.returnToSeek skipped
  have hu1 := hreturned.unstopped hu
  have hraised := Calm.raiseFlag hu1 .skippedSleeper
  have hsegments := Calm.judgeSegments (hraised.unstopped hu1)
  have hcalm := (hreturned.trans hraised).trans hsegments
  have hmark := hsegments.flags _ (flagIn_raiseFlag .skippedSleeper (returnToSeek skipped))
  rw [← hskip] at hcalm hmark
  have hxslp : (noCoverSkip r s).slp = _ := hcalm.slp.trans hslp
  have hxcyc : (noCoverSkip r s).cyc = { s.cyc with phase := .seek, current := none, active := none } := hcalm.cyc
  have hxeng : (noCoverSkip r s).eng = ⟨.idle, none⟩ := hcalm.eng.trans heng
  have hfinished := all_finished hxslp hothers
  have hwait := judgeDesign_none (oldestQueued_finished hfinished)
  have hengine : judgeEngine s = noCoverSkip r s := by
    rw [judgeEngine_skips heng hjudged]
    cases s.slp.records.length with
    | zero => rfl
    | succ n =>
      rw [engineLoop, hxeng]
      dsimp only
      rw [hwait]
  rw [hengine, seek_finished (by rw [hxcyc]; exact hpause) hfinished]
  exact ⟨hmark, hxslp, hxcyc⟩

end cover

/-- The third part of O51: the append before which a record's span begins. -/
theorem skips_at_append (s : State) (dt : Nat) (tag : Byte) (body : SegmentBody) (x : Int) (before : List Sleeper)
    (r : Sleeper) (after : List Sleeper) (hs : s.Listens) (hempty : s.seg.segments = []) (hx : body.start = some x)
    (hbody : appendRefusal body s = none) (heng : s.eng = ⟨.idle, none⟩) (hrecords : s.slp.records = before ++ r :: after)
    (hr : r.state = .queued) (hbefore : ∀ q ∈ before, q.state ≠ .queued)
    (hbehind : r.chainage - max s.params.p02 s.params.p04 < x) :
    ∃ t, exec (.segmentAppend dt tag body) s = .next t
      ∧ (s.cyc.mode = .ready ∨ s.cyc.mode = .halted → (∀ q ∈ before, q.state.finished = true) →
        flagIn .skippedSleeper t.cond.flags = true ∧ r.skippedFor 0 .noCover ∈ t.slp.records ∧ t.cyc = s.cyc)
      ∧ (s.cyc.mode = .ready ∨ s.cyc.mode = .halted → (∃ q ∈ before, q.state.finished = false) → t.slp = s.slp)
      ∧ (∀ active, s.cyc.mode = .work → s.cyc.phase = .waitDesign → s.cyc.current = some r.seq →
        s.cyc.active = some active → s.cyc.pausePending = false → body.bearers = none →
        s.slp.detection = none → s.cond.armed = none → s.cond.stop = 0 →
        (∀ q ∈ before ++ after, q.state.finished = true) →
        flagIn .skippedSleeper t.cond.flags = true
          ∧ t.slp = { s.slp with records := before ++ r.skippedFor active .noCover :: after }
          ∧ t.cyc = { s.cyc with phase := .seek, current := none, active := none }) := by
  let added := appendSegment body (s.arriving dt 0x05 tag (.segmentAppend body))
  have hsegs : added.seg.segments = [heldSegment x body] :=
    appended_first (s := s.arriving dt 0x05 tag (.segmentAppend body)) hempty hx
  have hfinished : r.state.finished = false := by rw [hr]; rfl
  have hjudge {y : State} (hslp : y.slp = s.slp) (hparams : y.params = s.params)
      (hseg : y.seg.segments = [heldSegment x body]) :
      judgeDesign y = if firstUnfinished y = some r then .skip r else .wait := by
    refine judgeDesign_behind (a := x) (b := (heldSegment x body).endAt)
      (oldestQueued_split (by rw [hslp]; exact hrecords) hr hbefore) ?_ ?_ ?_
    · rw [hseg]
      rfl
    · rw [hseg]
      rfl
    · rw [hparams]
      exact hbehind
  let looked := judgeLookAhead true added
  have hlooked : Calm added looked := .judgeLookAhead _ _
  have hlseg : looked.seg.segments = [heldSegment x body] := by
    rw [show looked = _ from judgeLookAhead_eq _ _]
    exact hsegs
  have hlslp : looked.slp = s.slp := hlooked.slp
  have hlcyc : looked.cyc = s.cyc := hlooked.cyc
  have hleng : looked.eng = ⟨.idle, none⟩ := hlooked.eng.trans heng
  have hljudge := hjudge hlslp ((params_of_fixed (Kept.fixed_eq hlooked.kept)).trans rfl) hlseg
  have hrest (h : s.cyc.mode = .ready ∨ s.cyc.mode = .halted) : afterAppend added = judgeEngine looked :=
    afterAppend_resting (s := added) h
  obtain ⟨t, hexec, htslp, htcyc, htcond⟩ := append_taken dt tag hs hbody rfl
  have htafter : t.slp = (afterAppend added).slp ∧ t.cyc = (afterAppend added).cyc ∧ t.cond = (afterAppend added).cond :=
    ⟨htslp, htcyc, htcond⟩
  refine ⟨t, hexec, fun hmode hall => ?_, fun hmode hsome => ?_,
    fun active hmode hphase hcur hactive hpause hnone hdet harmed hstop hothers => ?_⟩
  · have hwork : looked.cyc.mode ≠ .work := by
      rw [hlcyc]
      rcases hmode with h | h <;> rw [h] <;> decide
    have hlrecords : looked.slp.records = before ++ r :: after := by rw [hlslp]; exact hrecords
    rw [if_pos (firstUnfinished_split hlrecords hfinished hall)] at hljudge
    obtain ⟨hmark, hmem, hcyc⟩ := noCover_resting hwork hleng hljudge (unfinishedRecord_split hlrecords hfinished hall)
    rw [hrest hmode] at htafter
    obtain ⟨h1, h2, h3⟩ := htafter
    rw [h1, h2, h3]
    exact ⟨hmark, hmem, hcyc.trans hlcyc⟩
  · have hother : firstUnfinished looked ≠ some r := by
      obtain ⟨q, hq, hqfin⟩ := hsome
      intro hfirst
      unfold firstUnfinished at hfirst
      rw [hlslp, hrecords, List.find?_append] at hfirst
      cases hfound : before.find? (fun r => !r.state.finished) with
      | none => simpa [hqfin] using List.find?_eq_none.mp hfound q hq
      | some z =>
        rw [hfound] at hfirst
        cases hfirst
        exact hbefore r (List.mem_of_find?_eq_some hfound) hr
    rw [if_neg hother] at hljudge
    rw [hrest hmode, judgeEngine_waits hleng hljudge] at htafter
    exact htafter.1.trans hlslp
  · let w := judgeStarved looked
    have hcalm : Calm added w := hlooked.trans (.judgeStarved _)
    have hwslp : w.slp = s.slp := hcalm.slp
    have hwcyc : w.cyc = s.cyc := hcalm.cyc
    have hwseg : w.seg.segments = [heldSegment x body] := (judgeStarved_segments looked).trans hlseg
    have hwu : w.Unstopped := hcalm.unstopped ⟨harmed, hstop⟩
    have hpassing : judgePassing w = w := judgePassing_nothing (by rw [hwslp]; exact hdet) (by
      rw [hwseg]
      intro b hb
      have hbearers : (heldSegment x body).bearers = [] := by
        show (listOf body).map _ = []
        rw [listOf, hnone]
        rfl
      simp [poolOf, hbearers] at hb)
    have hafter : afterAppend added = seek (judgeEngine w) := by
      show seek (judgeEngine (judgePassing (actOnStop w))) = _
      rw [actOnStop_of_unarmed hwu.1, hpassing]
    have hwrecords : w.slp.records = before ++ r :: after := by rw [hwslp]; exact hrecords
    have hwjudge := hjudge hwslp ((params_of_fixed (Kept.fixed_eq hcalm.kept)).trans rfl) hwseg
    rw [if_pos (firstUnfinished_split hwrecords hfinished fun q hq => hothers q (List.mem_append_left _ hq))] at hwjudge
    obtain ⟨hmark, hslp, hcyc⟩ := noCover_waited (s := w) hwu (by rw [hwcyc]; exact hmode) (by rw [hwcyc]; exact hphase)
      (by rw [hwcyc]; exact hcur) (by rw [hwcyc]; exact hactive) (by rw [hwcyc]; exact hpause) hwrecords hothers hr
      (hcalm.eng.trans heng) hwjudge
    rw [hafter] at htafter
    obtain ⟨h1, h2, h3⟩ := htafter
    rw [h1, h2, h3, ← hwslp, ← hwcyc]
    exact ⟨hmark, hslp, hcyc⟩

/-- Settles O51: the skips at START, at a count of ODO, and at an append. -/
theorem skipsTaken : Obligations.SkipsTaken := by
  refine ⟨?_, ?_, ?_⟩
  · intro s dt tag before r after active pass hs hmode hnulled hdepths hparking harmed hstop heng hrecords hothers hr
      hselects
    obtain ⟨t, hexec, hnone, hreach⟩ := skips_at_start s dt tag before r after active pass hs hmode hnulled hdepths
      hparking harmed hstop heng hrecords hothers hr hselects
    refine ⟨fun hzero => ?_, fun hsome hdesigned hbehind => ?_⟩
    · obtain ⟨h1, h2, h3, h4, h5⟩ := hnone hzero
      exact ⟨t, hexec, h1, h2, h3, h4, h5⟩
    · obtain ⟨h1, h2, h3, h4, h5⟩ := hreach hsome hdesigned hbehind
      exact ⟨t, hexec, h1, h2, h3, h4, h5⟩
  · intro s t0 n tgt o before r after pass hpower hsince hpaired hmode hphase hdrive htarget hoffset harmed hstop hdet
      hconsumed heng _ hrecords hothers hr hcur hpause ch hup hn hhi hpassed
    exact skips_on_passing s t0 n tgt o before r after pass hpower hsince hpaired hmode hphase hdrive htarget hoffset
      harmed hstop hdet hconsumed heng hrecords hothers hr hcur hpause hup hn hhi hpassed
  · intro s dt tag body x before r after hs hempty hx hbody heng hrecords hr hbefore hbehind
    exact skips_at_append s dt tag body x before r after hs hempty hx hbody heng hrecords hr hbefore hbehind

end Sys2Proof.Machine
end


section
/-! ### The end of the work on a record (O54) -/

namespace Sys2Proof.Machine

/-- The work on a record is in CLEARING, with the engine on a design pass. -/
structure State.Finishing (s : State) (r : Sleeper) (active : UnitSet) (t0 : Nat) (pass : DesignPass) : Prop where
  mode : s.cyc.mode = .work
  phase : s.cyc.phase = .clearing
  current : s.cyc.current = some r.seq
  found : unfinishedRecord r.seq s = some r
  active : s.cyc.active = some active
  stopwatch : s.cyc.stopwatch = some t0
  engine : s.eng.activity = .designing pass

/-- A unit that an abort order leaves as it is. -/
def Head.Settled (h : Head) : Prop :=
  h.state = .up ∨ h.state = .faulted ∨ h.state = .raising ∧ h.pendingLower = false

theorem abortHead_settled {s : State} {u : UnitId} (h : (s.heads.get u).Settled) :
    (abortHead u s).heads.get u = s.heads.get u := by
  rcases h with h | h | ⟨h, hno⟩
  · unfold abortHead
    rw [h]
  · unfold abortHead
    rw [h]
  · rw [abortHead_raising h, ← hno]

section finishing
variable {s t : State} {r : Sleeper} {active : UnitSet} {t0 : Nat} {pass : DesignPass}

/-- The record DONE with its result part, and nothing current. -/
def State.workDone (s : State) (r : Sleeper) : State :=
  (modRecord r.seq (fun q => { q with state := .done, result := some (workedResult q.flags s) }) s).modCyc fun c =>
    { c with current := none, active := none, stopwatch := none }

theorem finishWork_eq (h : s.Finishing r active t0 pass) : finishWork s = seek (judgeEngine
    (if s.cyc.pausePending then enterMode .paused (rideDrive (s.workDone r))
      else match s.cond.armed with
        | some f => orderlyHalt f (rideDrive (s.workDone r))
        | none => setPhase .seek (rideDrive (s.workDone r)))) := by
  unfold finishWork
  rw [currentRecord_of h.current h.found]
  rfl

/-- The satellite released behind a record that is DONE. -/
structure Released (s t : State) (r : Sleeper) : Prop where
  records : t.slp.records = (s.workDone r).slp.records
  cyc : t.cyc = { s.cyc with current := none, active := none, stopwatch := none }
  rides : t.pos.Rides
  heads : t.heads = s.heads
  cond : t.cond = s.cond
  eng : t.eng = s.eng
  clock : t.clock = s.clock

theorem rideDrive_released (s : State) (r : Sleeper) : Released s (rideDrive (s.workDone r)) r := by
  have hrides := rideDrive_rides (s.workDone r)
  have hgo : strokeTermOf ((s.workDone r).modPos fun p =>
      { p with drive := .riding, target := none, output := .stop, holdLost := false, strokeEnd := false }) = .go :=
    strokeTermOf_not_holding (by
      show Drive.riding ≠ .holding
      decide)
  have heq : rideDrive (s.workDone r) = _ := refreshDemand_go hgo
  refine ⟨?_, ?_, hrides, ?_, ?_, ?_, ?_⟩
  all_goals rw [heq]; rfl

/-- The result part of the work, and what else of the record's end the modes share (R153). -/
theorem Released.recordDone {x : State} (hx : Released s x r) (h : s.Finishing r active t0 pass)
    (hrecords : FinishedKept x t) (hclock : t.clock = x.clock) (hrides : t.pos.Rides)
    (hcurrent : t.cyc.current = none) (hactive : t.cyc.active = none) (hstopwatch : t.cyc.stopwatch = none)
    (hpause : t.cyc.pausePending = false) :
    RecordDone s t r active t0 s.clock fun v => (s.heads.get v).report := by
  have hmem : { r with state := .done, result := some (workedResult r.flags s) } ∈ (s.workDone r).slp.records :=
    mem_modRecord (f := fun q => { q with state := .done, result := some (workedResult q.flags s) }) h.found
  have hlength : (s.workDone r).slp.records.length = s.slp.records.length := List.length_map _
  have htime : (workedResult r.flags s).cycleTime = min 65535 ((s.clock - t0) / 1000) := by
    show cycleTime s = _
    unfold cycleTime
    rw [h.stopwatch]
  refine ⟨hclock.trans hx.clock, ⟨_, hrecords.2 _ (by rw [hx.records]; exact hmem) rfl, ?_, htime, rfl, rfl, fun v => ?_, fun a => ?_⟩,
    ?_, hrides.1, hrides.2.2.1, hrides.2.1, hcurrent, hactive, hstopwatch, hpause⟩
  · show s.cyc.active.getD 0 = active
    rw [h.active]
    rfl
  · cases v <;> rfl
  · cases a <;> rfl
  · rw [hrecords.1, hx.records, hlength]

/-- The end of the work where a pause is pending (R142). -/
theorem finishWork_paused (h : s.Finishing r active t0 pass) (hpause : s.cyc.pausePending = true) :
    RecordDone s (finishWork s) r active t0 s.clock (fun v => (s.heads.get v).report)
      ∧ (finishWork s).heads = s.heads ∧ (finishWork s).cyc.mode = .paused ∧ (finishWork s).cyc.phase = .none
      ∧ (finishWork s).cyc.cause = s.cyc.cause ∧ (finishWork s).cond.armed = none
      ∧ (finishWork s).pos.demand = .stop := by
  have hx := rideDrive_released s r
  have heq := finishWork_eq h
  rw [if_pos hpause] at heq
  generalize rideDrive (s.workDone r) = x at *
  have hentered := enterMode_eq (m := .paused) (by decide) x
  have hbusy : (enterMode .paused x).eng.activity ≠ .idle := by
    rw [hentered]
    show x.eng.activity ≠ .idle
    rw [hx.eng, h.engine]
    exact nofun
  have hmode : (enterMode .paused x).cyc.mode ≠ .work := by
    rw [hentered]
    exact nofun
  have hrecords := (Onward.enterMode .paused x).finished
  rw [judgeEngine_busy hbusy, seek_of_not_work hmode, hentered] at heq
  rw [hentered] at hrecords
  rw [heq]
  have hcause : x.cyc.cause = s.cyc.cause := by rw [hx.cyc]
  exact ⟨hx.recordDone h hrecords rfl hx.rides rfl rfl rfl rfl, hx.heads, rfl, rfl, hcause, rfl, rfl⟩

/-- The end of the work where a stop is armed (R157). -/
theorem finishWork_halted (h : s.Finishing r active t0 pass) (hpause : s.cyc.pausePending = false) {f : Flag}
    (harmed : s.cond.armed = some f) :
    RecordDone s (finishWork s) r active t0 s.clock (fun v => (s.heads.get v).report)
      ∧ (∀ u, (s.heads.get u).Settled → (finishWork s).heads.get u = s.heads.get u)
      ∧ (finishWork s).cyc.mode = .halted ∧ (finishWork s).cyc.phase = .none
      ∧ (finishWork s).cyc.cause = .flagStop ∧ (finishWork s).cyc.detail = some (.flag f)
      ∧ (finishWork s).cond.armed = none ∧ (finishWork s).pos.demand = .stop := by
  have hx := rideDrive_released s r
  have heq := finishWork_eq h
  rw [if_neg (by rw [hpause]; decide), harmed] at heq
  dsimp only at heq
  generalize rideDrive (s.workDone r) = x at *
  have horders : orderlyHalt f x = releaseAxes (abortHeads (x.halting .flagStop (some (.flag f)))) :=
    haltOrders_halted _ _ _
  have hacted := (Acted.abortHeads (x.halting .flagStop (some (.flag f)))).trans (Acted.releaseAxes _)
  have hengine := hacted.eng
  have hrecords : FinishedKept x (releaseAxes (abortHeads (x.halting .flagStop (some (.flag f))))) :=
    FinishedKept.trans (t := x.halting .flagStop (some (.flag f))) ⟨rfl, fun _ hr _ => hr⟩ (.of_acted hacted)
  have hclock := clock_of_fixed (Kept.fixed_eq hacted.kept)
  obtain ⟨hcyc, hpos, hunarmed, -, y, hyheads, -, -, hheads, -⟩ := orders_halted .flagStop (some (.flag f)) x
  rw [horders] at heq
  generalize releaseAxes (abortHeads (x.halting .flagStop (some (.flag f)))) = z at *
  have hzeng : z.eng = s.eng := hengine.trans hx.eng
  rw [judgeEngine_busy (by rw [hzeng, h.engine]; exact nofun), seek_of_not_work (by rw [hcyc]; exact nofun)] at heq
  rw [heq]
  have hzrides : z.pos.Rides := by
    rw [hpos]
    exact ⟨rfl, rfl, rfl, rfl, rfl⟩
  have hsettled (u : UnitId) (hu : (s.heads.get u).Settled) : z.heads.get u = s.heads.get u := by
    rw [hheads]
    refine abortHeads_head (P := (· = s.heads.get u)) fun w hw => ?_
    have hsame : w.heads.get u = s.heads.get u := by rw [hw, hyheads, hx.heads]
    rw [abortHead_settled (by rw [hsame]; exact hu), hsame]
  refine ⟨hx.recordDone h hrecords hclock hzrides ?_ ?_ ?_ ?_, hsettled, ?_, ?_, ?_, ?_, hunarmed, ?_⟩
  all_goals first | rw [hcyc] | rw [hpos]
  all_goals rfl

/-- The end of the work with no other record to select (R153). -/
theorem finishWork_seeks (h : s.Finishing r active t0 pass) (hpause : s.cyc.pausePending = false)
    (harmed : s.cond.armed = none) (hothers : ∀ q ∈ s.slp.records, q.state.finished = false → q = r) :
    RecordDone s (finishWork s) r active t0 s.clock (fun v => (s.heads.get v).report)
      ∧ (finishWork s).heads = s.heads ∧ (finishWork s).cyc.mode = .work ∧ (finishWork s).cyc.phase = .seek := by
  have hx := rideDrive_released s r
  have heq := finishWork_eq h
  rw [if_neg (by rw [hpause]; decide), harmed] at heq
  dsimp only at heq
  have hfinished : ∀ q ∈ (s.workDone r).slp.records, q.state.finished = true := by
    intro q hq
    obtain ⟨z, hz, rfl⟩ := List.mem_map.mp hq
    by_cases hfin : z.state.finished = true
    · rw [if_neg (by simp [hfin])]
      exact hfin
    · have hzr := hothers z hz (Bool.not_eq_true _ |>.mp hfin)
      subst hzr
      rw [if_pos (by simp [hfin])]
      rfl
  generalize rideDrive (s.workDone r) = x at *
  have hrest : x.pos.drive ≠ .holding := by
    rw [hx.rides.1]
    decide
  have hphase := setPhase_resting hrest .seek
  have hslp := setPhase_slp .seek x
  have hcyc : (setPhase .seek x).cyc = { s.cyc with phase := .seek, current := none, active := none, stopwatch := none } := by
    rw [setPhase_cyc, hx.cyc]
  have hbusy : (setPhase .seek x).eng.activity ≠ .idle := by
    rw [hphase]
    show x.eng.activity ≠ .idle
    rw [hx.eng, h.engine]
    exact nofun
  have hclock := clock_of_fixed (Kept.fixed_eq (setPhase_kept .seek x))
  have hzrides : (setPhase .seek x).pos.Rides := refreshDemand_rides (s := x.modCyc fun c => { c with phase := .seek }) hx.rides
  have hheads : (setPhase .seek x).heads = s.heads := by
    rw [hphase]
    exact hx.heads
  rw [judgeEngine_busy hbusy, seek_finished (by rw [hcyc]; exact hpause) (by rw [hslp, hx.records]; exact hfinished)] at heq
  rw [heq]
  refine ⟨hx.recordDone h (.of_slp hslp) hclock hzrides ?_ ?_ ?_ ?_, hheads, ?_, ?_⟩
  all_goals rw [hcyc]
  · exact hpause
  · exact h.mode

end finishing

end Sys2Proof.Machine
end


section
namespace Sys2Proof.Machine

section clearing
variable {s x t : State} {r : Sleeper} {active : UnitSet} {t0 : Nat} {pass : DesignPass} {u : UnitId}

/-- The satellite may be let go: the axes IDLE, and every unit of the active set clear (R153). -/
theorem clearingDone_of (hidle : ∀ a, (s.axes.get a).state = .idle) (hactive : s.cyc.active = some active)
    (hclear : ∀ v, unitIn v active = true → headClear v s = true) : clearingDone s = true := by
  unfold clearingDone axesIdle
  rw [Bool.and_eq_true, List.all_eq_true, List.all_eq_true, hactive]
  refine ⟨fun a _ => by rw [hidle a]; rfl, fun v _ => ?_⟩
  cases hin : unitIn v active with
  | true => rw [Option.getD_some, hin, hclear v hin, Bool.or_true]
  | false => rw [Option.getD_some, hin]; rfl

theorem headClear_state (h : (s.heads.get u).state = .up ∨ (s.heads.get u).state = .faulted) : headClear u s = true := by
  unfold headClear
  rcases h with h | h
  · rw [h]
    rfl
  · rw [h]
    rfl

theorem headClear_depth {d : Int} (hd : depthOf u s = some d) (hle : d ≤ s.params.p25) : headClear u s = true := by
  unfold headClear
  rw [hd]
  simp [hle]

theorem judgeClearing_done (h : s.Finishing r active t0 pass) (hdone : clearingDone s = true) :
    judgeClearing s = finishWork s := if_pos ⟨h.mode, h.phase, hdone⟩

theorem State.Finishing.driven (h : s.Finishing r active t0 pass) : s.driven.Finishing r active t0 pass :=
  ⟨h.mode, h.phase, h.current, h.found, h.active, h.stopwatch, h.engine⟩

/-- A unit of the active set that changes its state in CLEARING ends the work where all is clear. -/
theorem afterUnit_finishes (h : s.Finishing r active t0 pass) (hno : s.NoRelease) (hin : unitIn u active = true)
    (hdone : clearingDone s = true) : afterUnit u s = finishWork s.driven := by
  have hstop : actOnStop s = s := State.InWorkOrOut.actOnStop_eq fun _ => .inr (.inr h.phase)
  have hrelease : judgeRelease s.driven = s.driven := if_neg fun hw => by
    have hphase : s.cyc.phase = .working := hw.2.1
    rw [h.phase] at hphase
    cases hphase
  have hdriven : clearingDone s.driven = true := hdone
  unfold afterUnit
  dsimp only
  rw [hstop, hno.settleReleases_eq, h.active, Option.getD_some, hin]
  show judgeClearing (judgeRelease s.driven) = _
  rw [hrelease, judgeClearing_done h.driven hdriven]

theorem axisReport_idle {a : AxisId} (hax : (x.axes.get a) = s.axes.get a) (hidle : (s.axes.get a).state = .idle) :
    axisReport a x = axisReport a s := by
  unfold axisReport
  dsimp only
  rw [hax, hidle]

theorem CycleEnds.mono {c : Instr} {done done' : State → Prop} (h : CycleEnds c s r done) (hmono : ∀ t, done t → done' t) :
    CycleEnds c s r done' := by
  obtain ⟨hpaused, hhalted, hseeks⟩ := h
  refine ⟨fun hp => ?_, fun hp f hf => ?_, fun hp ha ho => ?_⟩
  · obtain ⟨t, hexec, hdone, hrest⟩ := hpaused hp
    exact ⟨t, hexec, hmono t hdone, hrest⟩
  · obtain ⟨t, hexec, hdone, hrest⟩ := hhalted hp f hf
    exact ⟨t, hexec, hmono t hdone, hrest⟩
  · obtain ⟨t, hexec, hdone, hrest⟩ := hseeks hp ha ho
    exact ⟨t, hexec, hmono t hdone, hrest⟩

theorem arbitrate_done {report : UnitId → UnitReport} {now : Nat} (h : RecordDone s t r active t0 now report) :
    RecordDone s (arbitrate t) r active t0 now report := by
  unfold RecordDone at h ⊢
  rw [arbitrate_clock, arbitrate_slp, arbitrate_pos, arbitrate_cyc]
  exact h

/-- What a state found at the end of the work has in common with the one the command began in. -/
structure FoundClear (s x : State) (now : Nat) (report : UnitId → UnitReport) : Prop where
  cyc : x.cyc = s.cyc
  armed : x.cond.armed = s.cond.armed
  slp : x.slp = s.slp
  axes : x.axes = s.axes
  clock : x.clock = now
  report : ∀ v, (x.heads.get v).report = report v

theorem FoundClear.recordDone {now : Nat} {report : UnitId → UnitReport} (hsame : FoundClear s x now report)
    (hidle : ∀ a, (s.axes.get a).state = .idle)
    (h : RecordDone x t r active t0 x.clock fun v => (x.heads.get v).report) : RecordDone s (arbitrate t) r active t0 now report := by
  obtain ⟨hclock, ⟨result, hmem, hactive, htime, hskip, hflags, hunits, haxes⟩, hlength, hrest⟩ := arbitrate_done h
  refine ⟨hclock.trans hsame.clock, ⟨result, hmem, hactive, ?_, hskip, hflags, fun v => (hunits v).trans (hsame.report v),
    fun a => (haxes a).trans (axisReport_idle (by rw [hsame.axes]) (hidle a))⟩, ?_, hrest⟩
  · rw [htime, hsame.clock]
  · rw [hlength, hsame.slp]

/-- The end of the work by a command, in each of its three ways. -/
theorem cycleEnds_found {c : Instr} {now : Nat} {report : UnitId → UnitReport}
    (hexec : exec c s = .next (arbitrate (finishWork x))) (h : x.Finishing r active t0 pass)
    (hsame : FoundClear s x now report) (hidle : ∀ a, (s.axes.get a).state = .idle) (hsettled : (x.heads.get u).Settled) :
    CycleEnds c s r fun t => RecordDone s t r active t0 now report ∧ t.heads.get u = x.heads.get u := by
  refine ⟨fun hpause => ?_, fun hpause f harmed => ?_, fun hpause harmed hothers => ?_⟩
  · obtain ⟨hdone, hheads, hmode, hphase, hcause, harmed, hdemand⟩ := finishWork_paused h (by rw [hsame.cyc]; exact hpause)
    refine ⟨_, hexec, ⟨hsame.recordDone hidle hdone, by rw [arbitrate_heads, hheads]⟩, ?_⟩
    rw [arbitrate_cyc, arbitrate_cond, arbitrate_pos]
    exact ⟨hmode, hphase, hcause.trans (by rw [hsame.cyc]), harmed, hdemand⟩
  · obtain ⟨hdone, hheads, hrest⟩ := finishWork_halted h (by rw [hsame.cyc]; exact hpause) (f := f)
      (by rw [hsame.armed]; exact harmed)
    refine ⟨_, hexec, ⟨hsame.recordDone hidle hdone, by rw [arbitrate_heads, hheads u hsettled]⟩, ?_⟩
    rw [arbitrate_cyc, arbitrate_cond, arbitrate_pos]
    exact hrest
  · obtain ⟨hdone, hheads, hrest⟩ := finishWork_seeks h (by rw [hsame.cyc]; exact hpause)
      (by rw [hsame.armed]; exact harmed) (by rw [hsame.slp]; exact hothers)
    refine ⟨_, hexec, ⟨hsame.recordDone hidle hdone, by rw [arbitrate_heads, hheads]⟩, ?_⟩
    rw [arbitrate_cyc]
    exact hrest

end clearing

/-- The second part of O54: the end of a blind raise. -/
theorem blind_finishes (s : State) (u : UnitId) (tm : Timer) (r : Sleeper) (active : UnitSet) (t0 : Nat)
    (pass : DesignPass) (hpower : s.powered = true) (hstate : (s.heads.get u).state = .raising)
    (hstage : (s.heads.get u).stage = some .blind) (htimer : (s.heads.get u).timer = some tm) (hno : s.NoRelease)
    (h : s.Finishing r active t0 pass) (hin : unitIn u active = true)
    (hothers : ∀ v, v ≠ u → unitIn v active = true → (s.heads.get v).state = .up ∨ (s.heads.get v).state = .faulted
      ∨ ∃ e, depthOf v s = some e ∧ e ≤ s.params.p25) (hidle : ∀ a, (s.axes.get a).state = .idle) :
    CycleEnds (.blindRaiseExpiry u) s r fun t =>
      RecordDone s t r active t0 (max s.clock (tm.started + 1000 * tm.loaded)) (fun v => (s.heads.get v).report)
        ∧ (t.heads.get u).state = .faulted := by
  let faulted : Head := { s.heads.get u with state := .faulted, stage := none, timer := none, latched := none }
  let x := (s.beginBy tm.ends).setHead u faulted
  have hget : x.heads.get u = faulted := State.setHead_get
  have hother (v : UnitId) (hv : v ≠ u) : x.heads.get v = s.heads.get v := Four.get_set_ne _ _ hv
  have hx : x.Finishing r active t0 pass := ⟨h.mode, h.phase, h.current, h.found, h.active, h.stopwatch, h.engine⟩
  have hclear : clearingDone x = true := clearingDone_of (s := x) hidle h.active fun v hv => by
    by_cases hvu : v = u
    · exact headClear_state (.inr (by rw [hvu, hget]))
    · rcases hothers v hvu hv with hup | hfaulted | ⟨e, he, hle⟩
      · exact headClear_state (.inl (by rw [hother v hvu]; exact hup))
      · exact headClear_state (.inr (by rw [hother v hvu]; exact hfaulted))
      · exact headClear_depth (s := x) he hle
  have hexec : exec (.blindRaiseExpiry u) s = .next (arbitrate (finishWork x.driven)) := by
    show onExpiry u (phaseTimer u .raising (some .blind) s) (enterFaulted u) s = _
    rw [phaseTimer_eq hpower hstate hstage htimer]
    show Host.Outcome.next (arbitrate (afterUnit u x)) = _
    rw [afterUnit_finishes hx (hno.of_axes rfl) hin hclear]
  have hsame : FoundClear s x.driven (max s.clock (tm.started + 1000 * tm.loaded)) fun v => (s.heads.get v).report :=
    ⟨rfl, rfl, rfl, rfl, rfl, fun v => by
      by_cases hvu : v = u
      · rw [hvu, State.driven_heads, hget]
      · rw [State.driven_heads, hother v hvu]⟩
  have hfaulted : (x.driven.heads.get u).state = .faulted := by rw [State.driven_heads, hget]
  exact (cycleEnds_found hexec hx.driven hsame hidle (.inr (.inl hfaulted))).mono fun t ht => ⟨ht.1, by rw [ht.2]; exact hfaulted⟩

end Sys2Proof.Machine
end


section
namespace Sys2Proof.Machine

section count
variable {s : State} {u : UnitId} {d : Int} {l : HeadLatch}

/-- An accepted level that makes no count leaves the reading as it is. -/
theorem reading_acceptedA (c : ChannelId) (t0 : Nat) : reading c (s.accepting c (s.count.get c).acceptedA t0) = reading c s := by
  have hget : (s.accepting c (s.count.get c).acceptedA t0).count.get c = (s.count.get c).acceptedA := CountUnit.get_set _ _ _
  unfold reading
  rw [hget]
  rfl

theorem depthOf_accepting {v : UnitId} (hv : v ≠ u) (ch : Channel) (t0 : Nat) :
    depthOf v (s.accepting (.dep u) ch t0) = depthOf v s :=
  reading_congr (CountUnit.get_set_ne _ _ fun h => hv (ChannelId.dep.inj h)) rfl

/-- A rising unit that comes to its latched top depth with no lower pending is UP (R128). -/
theorem changeDepth_reaches (hstate : (s.heads.get u).state = .raising) (hstage : (s.heads.get u).stage = some .normal)
    (hl : (s.heads.get u).latched = some l) (hpending : (s.heads.get u).pendingLower = false) (hd : depthOf u s = some d)
    (htop : d ≤ l.top) : changeDepth u s = s.setHead u { (s.heads.get u).deepened d with
      state := .up, stage := none, timer := none, latched := none, pendingLower := false } := by
  have hdeep : ((s.setHead u ((s.heads.get u).deepened d)).heads.get u).latched = some l := by
    rw [State.setHead_get, Head.deepened_latched, hl]
  have hup := enterUp_plain (s := s.setHead u ((s.heads.get u).deepened d)) (u := u) (by
    rw [State.setHead_get, Head.deepened_pendingLower, hpending])
  rw [State.setHead_get, State.setHead_setHead] at hup
  rw [changeDepth_rising ⟨hstate, .inl hstage⟩ hd, judgeRaising_reached (s := s.setHead u ((s.heads.get u).deepened d)) (d := d) hd hdeep htop, hup]

/-- Short of it the unit goes on rising. -/
theorem changeDepth_rises (hstate : (s.heads.get u).state = .raising) (hstage : (s.heads.get u).stage = some .normal)
    (hl : (s.heads.get u).latched = some l) (hd : depthOf u s = some d) (htop : l.top < d) :
    changeDepth u s = s.setHead u ((s.heads.get u).deepened d) := by
  have hdeep : ((s.setHead u ((s.heads.get u).deepened d)).heads.get u).latched = some l := by
    rw [State.setHead_get, Head.deepened_latched, hl]
  rw [changeDepth_rising ⟨hstate, .inl hstage⟩ hd, judgeRaising_short (s := s.setHead u ((s.heads.get u).deepened d)) (d := d) hd hdeep htop]

end count

/-- The first part of O54: the depth of the last active unit comes to P25 or less. -/
theorem depth_finishes (s : State) (u : UnitId) (t0 w : Nat) (n d d0 : Int) (r : Sleeper) (active : UnitSet)
    (l : HeadLatch) (pass : DesignPass) {counted : State}
    (hcounted : counted = s.accepting (.dep u) { (s.count.get (.dep u)).acceptedA with count := n } w)
    (hexec : exec (.filterWindowExpiry (.channelA (.dep u))) s = .next (arbitrate
      (followUnit u (s.accepting (.dep u) (s.count.get (.dep u)).acceptedA w) (changeDepth u counted))))
    (hd0 : depthOf u s = some d0) (hdeep : s.params.p25 < d0) (hd : depthOf u counted = some d) (hclear : d ≤ s.params.p25)
    (hstate : (s.heads.get u).state = .raising) (hstage : (s.heads.get u).stage = some .normal)
    (hl : (s.heads.get u).latched = some l) (hpending : (s.heads.get u).pendingLower = false) (hno : s.NoRelease)
    (h : s.Finishing r active t0 pass) (hin : unitIn u active = true)
    (hothers : ∀ v, v ≠ u → unitIn v active = true → (s.heads.get v).state = .up ∨ (s.heads.get v).state = .faulted
      ∨ ∃ e, depthOf v s = some e ∧ e ≤ s.params.p25) (hidle : ∀ a, (s.axes.get a).state = .idle) :
    CycleEnds (.filterWindowExpiry (.channelA (.dep u))) s r fun t =>
      RecordDone s t r active t0 (max s.clock (w + s.params.p38))
          (fun v => if v = u then ((s.heads.get u).deepened d).report else (s.heads.get v).report)
        ∧ t.heads.get u = (if d ≤ l.top then
            { (s.heads.get u).deepened d with state := .up, stage := none, timer := none, latched := none }
          else (s.heads.get u).deepened d) := by
  have hfacts : counted.heads = s.heads ∧ counted.cyc = s.cyc ∧ counted.slp = s.slp ∧ counted.axes = s.axes
      ∧ counted.eng = s.eng ∧ counted.cond = s.cond ∧ counted.params = s.params
      ∧ counted.clock = max s.clock (w + s.params.p38) := by
    rw [hcounted]
    exact ⟨rfl, rfl, rfl, rfl, rfl, rfl, rfl, rfl⟩
  obtain ⟨hheads, hcyc, hslp, haxes, heng, hcond, hparams, hclock⟩ := hfacts
  have hdepth (v : UnitId) (hv : v ≠ u) : depthOf v counted = depthOf v s := by
    rw [hcounted]
    exact depthOf_accepting hv _ w
  have hdeeper (h' : Head) (hreport : h'.report = ((s.heads.get u).deepened d).report) (v : UnitId) :
      ((counted.setHead u h').heads.get v).report
        = if v = u then ((s.heads.get u).deepened d).report else (s.heads.get v).report := by
    by_cases hv : v = u
    · rw [if_pos hv, hv, State.setHead_get, hreport]
    · have hother : (counted.setHead u h').heads.get v = counted.heads.get v := Four.get_set_ne _ _ hv
      rw [if_neg hv, hother, hheads]
  have hx (h' : Head) : (counted.setHead u h').Finishing r active t0 pass := by
    obtain ⟨hm, hp, hc, hf, ha, hw, he⟩ := h
    refine ⟨by rw [← hcyc] at hm; exact hm, by rw [← hcyc] at hp; exact hp, by rw [← hcyc] at hc; exact hc, ?_,
      by rw [← hcyc] at ha; exact ha, by rw [← hcyc] at hw; exact hw, by rw [← heng] at he; exact he⟩
    unfold unfinishedRecord at hf ⊢
    rw [← hslp] at hf
    exact hf
  have hdone (h' : Head) : clearingDone (counted.setHead u h') = true :=
    clearingDone_of (by
      intro a
      show (counted.axes.get a).state = .idle
      rw [haxes]
      exact hidle a) (hx h').active fun v hv => by
    by_cases hvu : v = u
    · subst hvu
      exact headClear_depth (s := counted.setHead v h') hd (by
        show d ≤ counted.params.p25
        rw [hparams]
        exact hclear)
    · have hother : (counted.setHead u h').heads.get v = s.heads.get v := (Four.get_set_ne _ _ hvu).trans (by rw [hheads])
      rcases hothers v hvu hv with hup | hfaulted | ⟨e, he, hle⟩
      · exact headClear_state (.inl (by rw [hother]; exact hup))
      · exact headClear_state (.inr (by rw [hother]; exact hfaulted))
      · exact headClear_depth (s := counted.setHead u h') ((hdepth v hvu).trans he) (by
          show e ≤ counted.params.p25
          rw [hparams]
          exact hle)
  have hsame (h' : Head) (hreport : h'.report = ((s.heads.get u).deepened d).report) :
      FoundClear s (counted.setHead u h') (max s.clock (w + s.params.p38))
        (fun v => if v = u then ((s.heads.get u).deepened d).report else (s.heads.get v).report) :=
    ⟨hcyc, congrArg Conditions.armed hcond, hslp, haxes, hclock, hdeeper h' hreport⟩
  have hcstate : (counted.heads.get u).state = .raising := by rw [hheads]; exact hstate
  have hcstage : (counted.heads.get u).stage = some .normal := by rw [hheads]; exact hstage
  have hcl : (counted.heads.get u).latched = some l := by rw [hheads]; exact hl
  by_cases htop : d ≤ l.top
  · have hchange := changeDepth_reaches hcstate hcstage hcl (by rw [hheads]; exact hpending) hd htop
    rw [hheads] at hchange
    let up : Head := { (s.heads.get u).deepened d with
      state := .up, stage := none, timer := none, latched := none, pendingLower := false }
    have hup : up = { (s.heads.get u).deepened d with state := .up, stage := none, timer := none, latched := none } := by
      show { (s.heads.get u).deepened d with
        state := .up, stage := none, timer := none, latched := none, pendingLower := false } = _
      rw [← hpending, ← Head.deepened_pendingLower (s.heads.get u) d]
    have hends : exec (.filterWindowExpiry (.channelA (.dep u))) s
        = .next (arbitrate (finishWork (counted.setHead u up).driven)) := by
      rw [hexec, hchange, followUnit_changed (by
          rw [State.setHead_get]
          show HeadState.up ≠ (s.heads.get u).state
          rw [hstate]
          decide),
        afterUnit_finishes (hx up) (fun a => by
          show (counted.axes.get a).releasePending = false
          rw [haxes]
          exact hno a) hin (hdone up)]
    have hget : ((counted.setHead u up).driven.heads.get u) = up := by rw [State.driven_heads, State.setHead_get]
    obtain ⟨h1, h2, h3, h4, h5, h6⟩ := hsame up rfl
    exact (cycleEnds_found hends (hx up).driven ⟨h1, h2, h3, h4, h5, h6⟩ hidle (.inl (by rw [hget]))).mono
      fun t ht => ⟨ht.1, by rw [ht.2, hget, if_pos htop, hup]⟩
  · have hchange := changeDepth_rises hcstate hcstage hcl hd (not_le.mp htop)
    rw [hheads] at hchange
    let deeper := (s.heads.get u).deepened d
    have hends : exec (.filterWindowExpiry (.channelA (.dep u))) s
        = .next (arbitrate (finishWork (counted.setHead u deeper))) := by
      have hsamestate : ((counted.setHead u deeper).heads.get u).state
          = ((s.accepting (.dep u) (s.count.get (.dep u)).acceptedA w).heads.get u).state := by
        rw [State.setHead_get]
        exact Head.deepened_state _ _
      have hmoved : depthOf u (counted.setHead u deeper)
          ≠ depthOf u (s.accepting (.dep u) (s.count.get (.dep u)).acceptedA w) := by
        have hbefore : depthOf u (s.accepting (.dep u) (s.count.get (.dep u)).acceptedA w) = some d0 :=
          (reading_acceptedA (.dep u) w).trans hd0
        have hafter : depthOf u (counted.setHead u deeper) = some d := hd
        rw [hbefore, hafter]
        intro heq
        cases heq
        omega
      have hunit : unitIn u ((counted.setHead u deeper).cyc.active.getD 0) = true := by
        rw [(hx deeper).active]
        exact hin
      rw [hexec, hchange, followUnit, if_neg (not_not_intro hsamestate), if_pos ⟨hunit, hmoved⟩,
        judgeClearing_done (hx deeper) (hdone deeper)]
    have hget : ((counted.setHead u deeper).heads.get u) = deeper := State.setHead_get
    have hsettled : deeper.Settled := .inr (.inr ⟨(Head.deepened_state _ _).trans hstate,
      (Head.deepened_pendingLower _ _).trans hpending⟩)
    exact (cycleEnds_found hends (hx deeper) (hsame deeper rfl) hidle (by rw [hget]; exact hsettled)).mono
      fun t ht => ⟨ht.1, by rw [ht.2, hget, if_neg htop]⟩

/-- Settles O54: by a depth count and by a blind raise. -/
theorem workFinished : Obligations.WorkFinished := by
  refine ⟨?_, ?_⟩
  · intro s u t0 w n d d0 r active l pass hpower hsince hpaired ch hn hlo hhi counted hd0 hdeep hd hclear h hstate hstage hl
      hpending hno hmode hphase hcur hfound _ hactive hstop hin hothers hidle heng deeper
    have hexec : exec (.filterWindowExpiry (.channelA (.dep u))) s = .next (arbitrate
        (followUnit u (s.accepting (.dep u) (s.count.get (.dep u)).acceptedA w) (changeDepth u counted))) :=
      exec_countA hpower hpaired hsince hn hlo hhi
    exact depth_finishes s u t0 w n d d0 r active l pass rfl hexec hd0 hdeep hd hclear hstate hstage hl hpending hno
      ⟨hmode, hphase, hcur, hfound, hactive, hstop, heng⟩ hin hothers hidle
  · intro s u tm r active t0 pass hpower hstate hstage htimer hno hmode hphase hcur hfound _ hactive hstop hin hothers
      hidle heng
    exact blind_finishes s u tm r active t0 pass hpower hstate hstage htimer hno
      ⟨hmode, hphase, hcur, hfound, hactive, hstop, heng⟩ hin hothers hidle

end Sys2Proof.Machine
end


section
/-! ### SEGMENT_TRUNCATE (O48) -/

namespace Sys2Proof.Machine

section cut
variable {s : State} {x : Int} {before after : List Segment} {g : Segment}

theorem cutAt_split (hbefore : ∀ h ∈ before, h.start ≠ x) (hg : g.start = x) :
    cutAt x (before ++ g :: after) = g :: after := by
  have hp : ∀ a ∈ before, decide (a.start ≠ x) = true := fun a ha => decide_eq_true (hbefore a ha)
  rw [cutAt, List.dropWhile_append_of_pos hp, List.dropWhile_cons_of_neg (by simp [hg])]

theorem keptBefore_split (hbefore : ∀ h ∈ before, h.start ≠ x) (hg : g.start = x) :
    keptBefore x (before ++ g :: after) = before := by
  have hp : ∀ a ∈ before, decide (a.start ≠ x) = true := fun a ha => decide_eq_true (hbefore a ha)
  rw [keptBefore, List.takeWhile_append_of_pos hp, List.takeWhile_cons_of_neg (by simp [hg]), List.append_nil]

theorem cutAt_none (h : ∀ g ∈ s.seg.segments, g.start ≠ x) : cutAt x s.seg.segments = [] :=
  List.dropWhile_eq_nil_iff.mpr fun g hg => decide_eq_true (h g hg)

theorem cutConsumed_iff {segs : List Segment} : cutConsumed segs = true ↔ ∃ b ∈ poolOf segs, b.consumed = true := by
  simp only [cutConsumed, List.any_eq_true, mem_poolOf]
  exact ⟨fun ⟨g, hg, b, hb, hc⟩ => ⟨b, ⟨g, hg, hb⟩, hc⟩, fun ⟨b, ⟨g, hg, hb⟩, hc⟩ => ⟨g, hg, b, hb, hc⟩⟩

theorem revertsAt_iff {q : Sleeper} : revertsAt x s q = true ↔
    q.state = .designed ∧ x < q.chainage + max s.params.p01 s.params.p03 := by
  simp [revertsAt, spansPast, aMax]

/-- The records that a truncation leaves (R48). -/
def State.reverted (s : State) (x : Int) : List Sleeper :=
  s.slp.records.map fun r => if revertsAt x s r then r.revert else r

theorem reverted_get {i : Nat} {q q' : Sleeper} (hq : s.slp.records[i]? = some q) (hq' : (s.reverted x)[i]? = some q') :
    (revertsAt x s q = true → q' = { q with state := .queued, design := none })
      ∧ (¬ revertsAt x s q = true → q' = q) := by
  rw [State.reverted, List.getElem?_map, hq] at hq'
  cases hq'
  exact ⟨fun h => if_pos h, fun h => if_neg h⟩

/-- The bytes of a truncation's reply (R47). -/
theorem truncateReply_eq (hsegs : s.seg.segments = before ++ g :: after) (hbefore : ∀ h ∈ before, h.start ≠ x)
    (hg : g.start = x) : truncateReply x s = optField 4 (queueEnd before) ++ [BitVec.ofNat 8 (after.length + 1)]
      ++ [BitVec.ofNat 8 (poolOf (g :: after)).length]
      ++ [BitVec.ofNat 8 (s.slp.records.filter fun q =>
        decide (q.state = .designed ∧ x < q.chainage + max s.params.p01 s.params.p03)).length] := by
  have hfilter : s.slp.records.filter (revertsAt x s) = s.slp.records.filter fun q =>
      decide (q.state = .designed ∧ x < q.chainage + max s.params.p01 s.params.p03) :=
    List.filter_congr fun q _ => Bool.eq_iff_iff.mpr (revertsAt_iff.trans decide_eq_true_iff.symm)
  rw [truncateReply, hsegs, keptBefore_split hbefore hg, cutAt_split hbefore hg, bearersHeld_eq, hfilter]
  rfl

/-- The window cut back, with the records reverted and the design pass that it abandons. -/
def State.truncated (s : State) (x : Int) (before : List Segment) : State :=
  abandonDesign (fun p => spansPast x p.chainage s)
    { s with seg := { s.seg with segments := before }, slp := { s.slp with records := s.reverted x } }

theorem truncate_eq (hsegs : s.seg.segments = before ++ g :: after) (hbefore : ∀ h ∈ before, h.start ≠ x)
    (hg : g.start = x) : truncate x s = seek (judgeEngine (judgeSegments
      (if currentReverts x s then seek (returnToSeek (rideDrive (s.truncated x before))) else s.truncated x before))) := by
  have hcut : cutWindow x s = { s with
      seg := { s.seg with segments := before }
      slp := { s.slp with records := s.reverted x } } := by
    rw [← keptBefore_split (after := after) hbefore hg, ← hsegs]
    rfl
  unfold truncate
  rw [hcut]
  rfl

theorem truncated_eng (s : State) (x : Int) (before : List Segment) : (s.truncated x before).eng
    = match s.eng.activity with
      | .designing p => if spansPast x p.chainage s then { s.eng with activity := .idle } else s.eng
      | _ => s.eng := rfl

theorem takeTruncate_taken (hsegs : s.seg.segments = before ++ g :: after) (hbefore : ∀ h ∈ before, h.start ≠ x)
    (hg : g.start = x) (hclear : detectorChainage s + s.params.p35 < x)
    (hfree : ∀ b ∈ poolOf (g :: after), b.consumed = false) :
    takeTruncate x s = accepted (truncate x s) (truncateReply x s) := by
  have hcut : cutAt x s.seg.segments = g :: after := by rw [hsegs, cutAt_split hbefore hg]
  have hno : (decide (x ≤ detectorChainage s + s.params.p35) || cutConsumed (g :: after)) = false := by
    have hconsumed : cutConsumed (g :: after) = false := Bool.eq_false_iff.mpr fun h => by
      obtain ⟨b, hb, hc⟩ := cutConsumed_iff.mp h
      rw [hfree b hb] at hc
      cases hc
    rw [hconsumed, decide_eq_false (not_le.mpr hclear)]
    rfl
  unfold takeTruncate
  rw [hcut]
  have hne : ¬ ((g :: after).isEmpty = true) := by simp
  dsimp only
  rw [if_neg hne, hno]
  rfl

theorem takeTruncate_inUse (hsegs : s.seg.segments = before ++ g :: after) (hbefore : ∀ h ∈ before, h.start ≠ x)
    (hg : g.start = x) (huse : x ≤ detectorChainage s + s.params.p35 ∨ ∃ b ∈ poolOf (g :: after), b.consumed = true) :
    takeTruncate x s = refusedWith .inUse s := by
  have hcut : cutAt x s.seg.segments = g :: after := by rw [hsegs, cutAt_split hbefore hg]
  have hyes : (decide (x ≤ detectorChainage s + s.params.p35) || cutConsumed (g :: after)) = true := by
    rw [Bool.or_eq_true, decide_eq_true_eq, cutConsumed_iff]
    exact huse
  unfold takeTruncate
  rw [hcut]
  have hne : ¬ ((g :: after).isEmpty = true) := by simp
  dsimp only
  rw [if_neg hne, if_pos hyes]

theorem takeTruncate_outOfRange (h : ∀ g ∈ s.seg.segments, g.start ≠ x) :
    takeTruncate x s = refusedWith .outOfRange s := by
  unfold takeTruncate
  rw [cutAt_none h]
  rfl

theorem truncate_refused {dt : Nat} {tag : Byte} (hs : s.Listens) {status : Status}
    (h : takeTruncate x (s.arriving dt 0x06 tag (.segmentTruncate x))
      = refusedWith status (s.arriving dt 0x06 tag (.segmentTruncate x))) :
    exec (.segmentTruncate dt tag x) s
      = .next { s.beginAt dt with link := s.answering dt (.segmentTruncate x) tag status [] } :=
  congrArg Host.Outcome.next (request_refused (r := .segmentTruncate x) hs h)

/-! #### Retirement -/

theorem rearBound_le (s : State) : rearBound s ≤ detectorChainage s - bMax s.params := by
  unfold rearBound
  split <;> omega

/-- No segment retires while the first one ends above the rear bound (R51). -/
theorem unretired_all (h : ∀ f, s.seg.segments.head? = some f → rearBound s < f.start + f.length) :
    s.unretired = s.seg.segments := by
  unfold State.unretired
  cases hsegs : s.seg.segments with
  | nil => rfl
  | cons f rest => exact List.dropWhile_cons_of_neg (by simp [h f (by rw [hsegs]; rfl)])

end cut

end Sys2Proof.Machine
end


section
namespace Sys2Proof.Machine

section resting
variable {s : State} {x : Int} {before after : List Segment} {g : Segment}

theorem truncate_kept (x : Int) (s : State) (hsegs : s.seg.segments = before ++ g :: after)
    (hbefore : ∀ h ∈ before, h.start ≠ x) (hg : g.start = x) : (truncate x s).kept = s.kept := by
  have hcut : (s.truncated x before).kept = s.kept := by
    obtain ⟨eng, heq⟩ := abandonDesign_eq (fun p => spansPast x p.chainage s) { s with
      seg := { s.seg with segments := before }, slp := { s.slp with records := s.reverted x } }
    have hroster : (s.reverted x).map (fun r => (r.seq, r.chainage, r.plan))
        = s.slp.records.map fun r => (r.seq, r.chainage, r.plan) := by
      rw [State.reverted, List.map_map]
      exact List.map_congr_left fun r _ => by
        dsimp only [Function.comp]
        split <;> rfl
    rw [State.truncated, heq]
    exact mapRecords_kept s (fun q => { q with records := s.reverted x }) hroster rfl rfl rfl
  rw [truncate_eq hsegs hbefore hg, seek_kept, judgeEngine_kept, judgeSegments_kept]
  split
  · rw [seek_kept, returnToSeek_kept, rideDrive_kept, hcut]
  · exact hcut

/-- The state in which the engine judges a shorter queue outside WORK. -/
def State.shortened (s : State) (x : Int) (before : List Segment) (reach : Int) : State :=
  { s.truncated x before with
    seg := { s.seg with segments := before, lookAhead := wanting before reach }
    link := { s.link with
      segSlot := slotFilled before reach (wanting before reach && !s.seg.lookAhead) s.link.segSlot s.eventNo } }

theorem shortened_judged (hmode : s.cyc.mode ≠ .work)
    (hrear : ∀ h, before.head? = some h → detectorChainage s - max s.params.p02 s.params.p04 < h.start + h.length) :
    judgeSegments (s.truncated x before)
      = s.shortened x before (detectorChainage s + max s.params.p01 s.params.p03 + s.params.p36) := by
  obtain ⟨eng, heq⟩ := abandonDesign_eq (fun p => spansPast x p.chainage s) { s with
    seg := { s.seg with segments := before }, slp := { s.slp with records := s.reverted x } }
  have htruncated : s.truncated x before = _ := heq
  have hall : (s.truncated x before).unretired = before := by
    have hsegs : (s.truncated x before).seg.segments = before := by rw [htruncated]
    have hbound : rearBound (s.truncated x before) ≤ detectorChainage s - max s.params.p02 s.params.p04 := by
      have hle := rearBound_le (s.truncated x before)
      rw [htruncated] at hle ⊢
      exact hle
    rw [unretired_all (fun f hf => by
      rw [hsegs] at hf
      exact lt_of_le_of_lt hbound (hrear f hf)), hsegs]
  rw [judgeSegments_of_not_work (by rw [htruncated]; exact hmode), hall, State.shortened, htruncated]
  rfl

/-- An accepted truncation outside WORK, with what the engine makes of the shorter queue. -/
theorem truncate_resting {dt : Nat} {tag : Byte} (hs : s.Listens) (hmode : s.cyc.mode ≠ .work)
    (hcur : s.cyc.current = none) (hsegs : s.seg.segments = before ++ g :: after)
    (hbefore : ∀ h ∈ before, h.start ≠ x) (hg : g.start = x) (hclear : detectorChainage s + s.params.p35 < x)
    (hfree : ∀ b ∈ poolOf (g :: after), b.consumed = false)
    (hrear : ∀ h, before.head? = some h → detectorChainage s - max s.params.p02 s.params.p04 < h.start + h.length)
    {reach : Int} (hreach : reach = detectorChainage s + max s.params.p01 s.params.p03 + s.params.p36) {eng : Engine} {j : State}
    (hj : j = (s.arriving dt 0x06 tag (.segmentTruncate x)).shortened x before reach)
    (heng : judgeEngine j = { j with eng := eng }) :
    exec (.segmentTruncate dt tag x) s = .next { s.beginAt dt with
      seg := { s.seg with segments := before, lookAhead := wanting before reach }
      slp := { s.slp with records := s.reverted x }
      eng := eng
      link := { s.answering dt (.segmentTruncate x) tag .ok (optField 4 (queueEnd before)
          ++ [BitVec.ofNat 8 (after.length + 1)] ++ [BitVec.ofNat 8 (poolOf (g :: after)).length]
          ++ [BitVec.ofNat 8 (s.slp.records.filter fun q =>
            decide (q.state = .designed ∧ x < q.chainage + max s.params.p01 s.params.p03)).length]) with
        segSlot := s.wantedSlot before reach false } } := by
  let s' := s.arriving dt 0x06 tag (.segmentTruncate x)
  have hnone : currentReverts x s' = false := by
    have hcurrent : currentRecord s' = none := by
      unfold currentRecord
      rw [show s'.cyc.current = none from hcur]
    unfold currentReverts
    rw [hcurrent]
  have hjudged := shortened_judged (s := s') (x := x) (before := before) hmode hrear
  have htaken := takeTruncate_taken (s := s') hsegs hbefore hg hclear hfree
  have hkept := truncate_kept (s := s') x hsegs hbefore hg
  have hjmode : (judgeEngine j).cyc.mode ≠ .work := by
    rw [heng, hj]
    exact hmode
  have hwhole : truncate x s' = { j with eng := eng } := by
    have hshort : judgeSegments (s'.truncated x before) = j := by
      rw [hj, hreach]
      exact hjudged
    rw [truncate_eq (s := s') hsegs hbefore hg, hnone, if_neg (by decide), hshort, seek_of_not_work hjmode, heng]
  rw [truncateReply_eq (s := s') hsegs hbefore hg, hwhole] at htaken
  rw [hwhole] at hkept
  obtain ⟨eng', heq⟩ := abandonDesign_eq (fun p => spansPast x p.chainage s') { s' with
    seg := { s'.seg with segments := before }, slp := { s'.slp with records := s'.reverted x } }
  have htruncated : s'.truncated x before = _ := heq
  refine (congrArg Host.Outcome.next (request_answered_fixed (r := .segmentTruncate x) hs htaken
    (Kept.fixed_eq hkept))).trans ?_
  rw [hj, State.shortened, htruncated, wantedSlot_eq, Bool.false_or]
  rfl

/-- Outside the covered stretch the oldest QUEUED record waits (R83). -/
theorem judgeDesign_uncovered {q : Sleeper} {segs : List Segment} (hsegs : s.seg.segments = segs)
    (hq : oldestQueued s = some q) (hstart : ∀ f, segs.head? = some f → f.start ≤ q.chainage - bMax s.params)
    (hend : ∀ e, queueEnd segs = some e → e < q.chainage + aMax s.params) : judgeDesign s = .wait := by
  cases hsegs' : segs with
  | nil =>
    unfold judgeDesign
    rw [hq, hsegs, hsegs']
    rfl
  | cons f rest =>
    have ha : queueStart s.seg.segments = some f.start := by rw [hsegs, hsegs']; rfl
    obtain ⟨e, he⟩ : ∃ e, queueEnd s.seg.segments = some e := by
      rw [hsegs, hsegs', queueEnd, List.getLast?_cons]
      exact ⟨_, rfl⟩
    rw [judgeDesign_ahead hq ha he (hstart f (by rw [hsegs']; rfl)), if_pos (hend e (by rw [← hsegs]; exact he))]

/-- The oldest QUEUED record behind a truncation that reverts or frees it lies beyond X. -/
theorem oldestQueued_reverted {early late : List Sleeper} {r : Sleeper} (hrecords : s.slp.records = early ++ r :: late)
    (hr : r.state = .queued) (hearly : ∀ q ∈ early, q.state ≠ .queued)
    (hpast : x < r.chainage + max s.params.p01 s.params.p03) {t : State} (ht : t.slp.records = s.reverted x) :
    ∃ q, oldestQueued t = some q ∧ x < q.chainage + max s.params.p01 s.params.p03
      ∧ ∃ z ∈ s.slp.records, z.chainage = q.chainage ∧ (z.state = .queued ∨ z.state = .designed) := by
  have hmem : r ∈ s.slp.records := by rw [hrecords]; exact List.mem_append_right _ List.mem_cons_self
  have hkeep : revertsAt x s r = false := by simp [revertsAt, hr]
  have hsplit : t.slp.records = (early.map fun q => if revertsAt x s q then q.revert else q)
      ++ r :: late.map fun q => if revertsAt x s q then q.revert else q := by
    rw [ht, State.reverted, hrecords, List.map_append, List.map_cons, hkeep]
    rfl
  unfold oldestQueued
  rw [hsplit, List.find?_append]
  cases hfound : (early.map fun q => if revertsAt x s q then q.revert else q).find? fun q => decide (q.state = .queued) with
  | none =>
    refine ⟨r, ?_, hpast, r, hmem, rfl, .inl hr⟩
    rw [Option.none_or, List.find?_cons_of_pos (by simp [hr])]
  | some q =>
    refine ⟨q, rfl, ?_⟩
    obtain ⟨z, hz, rfl⟩ := List.mem_map.mp (List.mem_of_find?_eq_some hfound)
    have hqueued := of_decide_eq_true (List.find?_some (p := fun q : Sleeper => decide (q.state = .queued)) hfound)
    have hzmem : z ∈ s.slp.records := by rw [hrecords]; exact List.mem_append_left _ hz
    by_cases hzr : revertsAt x s z = true
    · obtain ⟨hdesigned, hbeyond⟩ := revertsAt_iff.mp hzr
      rw [if_pos hzr]
      exact ⟨hbeyond, z, hzmem, rfl, .inr hdesigned⟩
    · rw [if_neg hzr] at hqueued
      exact absurd hqueued (hearly z hz)

end resting

end Sys2Proof.Machine
end


section
/-! #### The truncation that reverts the current record -/

namespace Sys2Proof.Machine

section reselecting
variable {s : State} {r : Sleeper} {active : UnitSet}

/-- The drive released, and a record waited for in WAIT_DESIGN with its active set (R32, R149). -/
def State.awaiting (s : State) (seq : Nat) (active : UnitSet) : State :=
  { s with
    cyc := { s.cyc with phase := .waitDesign, current := some seq, active := some active }
    pos := { s.pos with
      drive := .riding, target := none, output := .stop, holdLost := false, strokeEnd := false
      demand := .stop, strokeTerm := .go } }

/-- The drive released (R32). -/
def State.letGo (s : State) (d : Demand) : State :=
  { s with pos := { s.pos with
    drive := .riding, target := none, output := .stop, holdLost := false, strokeEnd := false
    demand := d, strokeTerm := .go } }

/-- SEEK entered with the drive at rest. -/
def State.reseeking (s : State) (d : Demand) : State :=
  { s with
    cyc := { s.cyc with phase := .seek, current := none, active := none }
    pos := { s.pos with demand := d, strokeTerm := .go } }

theorem rideDrive_letGo (s : State) : ∃ d, rideDrive s = s.letGo d :=
  ⟨_, refreshDemand_go (strokeTermOf_not_holding nofun)⟩

theorem returnToSeek_resting (hdrive : s.pos.drive ≠ .holding) : ∃ d, returnToSeek s = s.reseeking d :=
  ⟨_, setPhase_resting (s := { s with cyc := { s.cyc with current := none, active := none } }) hdrive .seek⟩

/-- The cycle controller released from its record selects a QUEUED one and waits for it (R146, R149). -/
theorem letGo_awaits (hmode : s.cyc.mode = .work) (hpause : s.cyc.pausePending = false)
    (hfirst : firstUnfinished s = some r) (hr : r.state = .queued) (hactive : activeSetFor r s = active)
    (hsome : active ≠ 0) : seek (returnToSeek (rideDrive s)) = s.awaiting r.seq active := by
  obtain ⟨d, hride⟩ := rideDrive_letGo s
  obtain ⟨d', hseek⟩ := returnToSeek_resting (s := s.letGo d) nofun
  have hphase := setPhase_resting (s := ((s.letGo d).reseeking d').chosen r active) nofun .waitDesign
  rw [demandOf_waiting (by exact hmode) rfl] at hphase
  have hchosen := (selectRecord_queued (s := (s.letGo d).reseeking d') hactive hsome hr).trans hphase
  have hnone : (((s.letGo d).reseeking d').cyc.current = none) := rfl
  have hcurrent : (s.awaiting r.seq active).cyc.current ≠ none := nofun
  rw [hride, hseek]
  exact seek_waits (s := (s.letGo d).reseeking d') hmode rfl hnone hpause hfirst (hchosen.trans rfl) hcurrent

end reselecting

section working
variable {s : State} {x : Int} {before after : List Segment} {g : Segment} {q : Sleeper} {early late : List Sleeper}
  {active : UnitSet}

/-- The records that stand before a reverted one and are finished stay (R48). -/
theorem reverted_split (hrecords : s.slp.records = early ++ q :: late) (hearly : ∀ z ∈ early, z.state.finished = true)
    (hq : revertsAt x s q = true) :
    s.reverted x = early ++ q.revert :: late.map fun r => if revertsAt x s r then r.revert else r := by
  have hsame : (early.map fun r => if revertsAt x s r then r.revert else r) = early := by
    refine (List.map_congr_left fun z hz => ?_).trans (List.map_id early)
    have hfinished := hearly z hz
    refine if_neg fun h => ?_
    rw [(revertsAt_iff.mp h).1] at hfinished
    exact absurd hfinished (by decide)
  rw [State.reverted, hrecords, List.map_append, hsame, List.map_cons, if_pos hq]

/-- The state that the cycle controller leaves to the segment queue. -/
def State.recut (s : State) (x : Int) (before : List Segment) (seq : Nat) (active : UnitSet) : State :=
  { s with
    seg := { s.seg with segments := before }
    slp := { s.slp with records := s.reverted x }
    eng := ⟨.idle, none⟩ }.awaiting seq active

/-- A queue that is empty is starved, and its starvation is flagged where it begins (R55, log 45). -/
theorem judgeStarved_empty (hmode : s.cyc.mode = .work) (hsegs : s.seg.segments = []) (hfed : s.seg.starved = false) :
    flagIn .segStarved (judgeStarved s).cond.flags = true := by
  have hstarved : isStarved s = true := by
    unfold isStarved
    rw [hsegs]
    rfl
  unfold judgeStarved
  rw [if_pos hmode, hstarved, hfed]
  exact (flagIn_setFlag _ _ _).trans (by simp)

/-- What follows once the current record waits for its design pass again. -/
theorem truncate_recut (hmode : s.cyc.mode = .work) (hcur : s.cyc.current = some q.seq)
    (hpause : s.cyc.pausePending = false) (hstop : s.Unstopped) (hsegs : s.seg.segments = before ++ g :: after)
    (hbefore : ∀ h ∈ before, h.start ≠ x) (hg : g.start = x) (hrecords : s.slp.records = early ++ q :: late)
    (hearly : ∀ z ∈ early, z.state.finished = true) (hq : revertsAt x s q = true)
    (heng : (s.truncated x before).eng = ⟨.idle, none⟩)
    (hrear : ∀ h, before.head? = some h → detectorChainage s - max s.params.p02 s.params.p04 < h.start + h.length)
    (hend : ∀ e, queueEnd before = some e → e ≤ x)
    (hstart : ∀ h, before.head? = some h → h.start ≤ q.chainage - max s.params.p02 s.params.p04)
    (hactive : activeSetFor q s = active) (hsome : active ≠ 0) :
    truncate x s = judgeSegments (s.recut x before q.seq active)
      ∧ Calm (s.recut x before q.seq active) (truncate x s)
      ∧ (truncate x s).seg.segments = before
      ∧ (before = [] → s.seg.starved = false → flagIn .segStarved (truncate x s).cond.flags = true) := by
  have htruncated : s.truncated x before = { s with
      seg := { s.seg with segments := before }, slp := { s.slp with records := s.reverted x }, eng := ⟨.idle, none⟩ } := by
    obtain ⟨eng, heq⟩ := abandonDesign_eq (fun p => spansPast x p.chainage s) { s with
      seg := { s.seg with segments := before }, slp := { s.slp with records := s.reverted x } }
    have heq' : s.truncated x before = _ := heq
    rw [heq'] at heng ⊢
    rw [show eng = ⟨.idle, none⟩ from heng]
  have hsplit := reverted_split hrecords hearly hq
  obtain ⟨hdesigned, hbeyond⟩ := revertsAt_iff.mp hq
  have hunfinished : q.state.finished = false := by rw [hdesigned]; rfl
  have hreverts : currentReverts x s = true := by
    have hcurrent : currentRecord s = some q := currentRecord_of hcur
      (unfinishedRecord_split hrecords hunfinished hearly)
    unfold currentReverts
    rw [hcurrent]
    exact hq
  have hawaits : seek (returnToSeek (rideDrive (s.truncated x before))) = s.recut x before q.seq active := by
    rw [htruncated]
    exact letGo_awaits (r := q.revert) hmode hpause (firstUnfinished_split hsplit rfl hearly) rfl hactive hsome
  have hjudged : Calm (s.recut x before q.seq active) (judgeSegments (s.recut x before q.seq active)) :=
    .judgeSegments hstop
  have hexact := judgeSegments_unstopped (s := s.recut x before q.seq active) hstop
  have hall : (s.recut x before q.seq active).unretired = before :=
    unretired_all (s := s.recut x before q.seq active) fun f hf => lt_of_le_of_lt (rearBound_le _) (hrear f hf)
  have hretired : (judgeLookAhead false (retireSegments (s.recut x before q.seq active))).seg.segments = before := by
    rw [judgeLookAhead_eq]
    exact hall
  have hkeptsegs : (judgeSegments (s.recut x before q.seq active)).seg.segments = before := by
    rw [hexact, judgeStarved_segments]
    exact hretired
  have hwhole : truncate x s = judgeSegments (s.recut x before q.seq active) := by
    have hwait : judgeDesign (judgeSegments (s.recut x before q.seq active)) = .wait := by
      have hparams := params_of_fixed (Kept.fixed_eq hjudged.kept)
      refine judgeDesign_uncovered (q := q.revert) hkeptsegs ?_ (fun f hf => ?_) (fun e he => ?_)
      · refine oldestQueued_split (by rw [hjudged.slp]; exact hsplit) rfl fun z hz h => ?_
        have hfinished := hearly z hz
        rw [h] at hfinished
        exact absurd hfinished (by decide)
      · rw [hparams]
        exact hstart f hf
      · rw [hparams]
        exact lt_of_le_of_lt (hend e he) hbeyond
    have hengine := judgeEngine_waits hjudged.eng hwait
    have hsettled : seekDue (judgeSegments (s.recut x before q.seq active)) = false :=
      seekDue_false fun _ hphase => by
        rw [hjudged.cyc] at hphase
        exact nomatch (show Phase.waitDesign = Phase.seek from hphase)
    rw [truncate_eq hsegs hbefore hg, if_pos hreverts, hawaits, hengine, seek_settled hsettled]
  refine ⟨hwhole, hwhole ▸ hjudged, hwhole ▸ hkeptsegs, fun hempty hfed => ?_⟩
  rw [hwhole, hexact]
  refine judgeStarved_empty ?_ (hretired.trans hempty) ?_
  · rw [judgeLookAhead_eq]
    exact hmode
  · rw [judgeLookAhead_eq]
    exact hfed

end working

end Sys2Proof.Machine
end


section
namespace Sys2Proof.Machine

section clauses
variable {s : State} {x : Int} {before after : List Segment} {g : Segment} {dt : Nat} {tag : Byte}

/-- A truncation short of the cut leaves a design pass alone (R49). -/
theorem truncate_passGoesOn {reach : Int}
    {p : DesignPass} (hpass : s.eng.activity = .designing p) (hwithin : p.chainage + max s.params.p01 s.params.p03 ≤ x) :
    judgeEngine ((s.arriving dt 0x06 tag (.segmentTruncate x)).shortened x before reach)
      = { (s.arriving dt 0x06 tag (.segmentTruncate x)).shortened x before reach with eng := s.eng } := by
  have heng : ((s.arriving dt 0x06 tag (.segmentTruncate x)).truncated x before).eng = s.eng := by
    have hno : spansPast x p.chainage (s.arriving dt 0x06 tag (.segmentTruncate x)) = false :=
      decide_eq_false (not_lt.mpr hwithin)
    rw [truncated_eng, show (s.arriving dt 0x06 tag (.segmentTruncate x)).eng.activity = .designing p from hpass]
    dsimp only
    rw [hno]
    rfl
  have heng' : ((s.arriving dt 0x06 tag (.segmentTruncate x)).shortened x before reach).eng = s.eng := heng
  rw [judgeEngine_busy (by rw [heng', hpass]; exact nofun), ← heng']

/-- A truncation through the span of a design pass abandons it, and its record waits (R49). -/
theorem truncate_passAbandoned {p : DesignPass} {r : Sleeper} {early late : List Sleeper} {reach : Int}
    (hpass : s.eng = ⟨.designing p, none⟩) (hpast : x < p.chainage + max s.params.p01 s.params.p03)
    (hend : ∀ e, queueEnd before = some e → e ≤ x)
    (hstart : ∀ h, before.head? = some h → ∀ q ∈ s.slp.records, q.state = .queued ∨ q.state = .designed →
      h.start ≤ q.chainage - max s.params.p02 s.params.p04)
    (hrecords : s.slp.records = early ++ r :: late) (hr : r.state = .queued) (hchainage : r.chainage = p.chainage)
    (hearly : ∀ q ∈ early, q.state ≠ .queued) :
    judgeEngine ((s.arriving dt 0x06 tag (.segmentTruncate x)).shortened x before reach)
      = { (s.arriving dt 0x06 tag (.segmentTruncate x)).shortened x before reach with eng := ⟨.idle, none⟩ } := by
  have heng : ((s.arriving dt 0x06 tag (.segmentTruncate x)).truncated x before).eng = ⟨.idle, none⟩ := by
    have hyes : spansPast x p.chainage (s.arriving dt 0x06 tag (.segmentTruncate x)) = true := decide_eq_true hpast
    rw [truncated_eng, show (s.arriving dt 0x06 tag (.segmentTruncate x)).eng = ⟨.designing p, none⟩ from hpass]
    dsimp only
    rw [if_pos hyes]
  have heng' : ((s.arriving dt 0x06 tag (.segmentTruncate x)).shortened x before reach).eng = ⟨.idle, none⟩ := heng
  obtain ⟨q, hq, hbeyond, z, hz, hsame, hstate⟩ := oldestQueued_reverted (x := x)
    (s := s.arriving dt 0x06 tag (.segmentTruncate x)) hrecords hr hearly (by rw [hchainage]; exact hpast)
    (t := (s.arriving dt 0x06 tag (.segmentTruncate x)).shortened x before reach) rfl
  have hwait : judgeDesign ((s.arriving dt 0x06 tag (.segmentTruncate x)).shortened x before reach) = .wait :=
    judgeDesign_uncovered (segs := before) rfl hq
      (fun f hf => hsame ▸ hstart f hf z hz hstate) (fun e he => lt_of_le_of_lt (hend e he) hbeyond)
  rw [judgeEngine_waits heng' hwait, ← heng']

/-- A truncation in WORK that reverts the current record (R48, R149). -/
theorem truncate_reselects {q : Sleeper} {early late : List Sleeper} {active : UnitSet} (hs : s.Listens)
    (hsegs : s.seg.segments = before ++ g :: after) (hbefore : ∀ h ∈ before, h.start ≠ x) (hg : g.start = x)
    (hclear : detectorChainage s + s.params.p35 < x) (hfree : ∀ b ∈ poolOf (g :: after), b.consumed = false)
    (hrear : ∀ h, before.head? = some h → detectorChainage s - max s.params.p02 s.params.p04 < h.start + h.length)
    (hend : ∀ e, queueEnd before = some e → e ≤ x)
    (hstart : ∀ h, before.head? = some h → ∀ q ∈ s.slp.records, q.state = .queued ∨ q.state = .designed →
      h.start ≤ q.chainage - max s.params.p02 s.params.p04)
    (hmode : s.cyc.mode = .work) (hcur : s.cyc.current = some q.seq) (hpause : s.cyc.pausePending = false)
    (harmed : s.cond.armed = none) (hstop : s.cond.stop = 0) (hrecords : s.slp.records = early ++ q :: late)
    (hearly : ∀ z ∈ early, z.state.finished = true)
    (hreverts : q.state = .designed ∧ x < q.chainage + max s.params.p01 s.params.p03)
    (heng : s.eng = ⟨.idle, none⟩ ∨ ∃ p, s.eng = ⟨.designing p, none⟩ ∧ x < p.chainage + max s.params.p01 s.params.p03)
    (hactive : ∀ u, unitIn u active = true ↔ s.Usable q u) (hsome : active ≠ 0) :
    ∃ t, exec (.segmentTruncate dt tag x) s = .next t
      ∧ t.seg.segments = before ∧ t.slp = { s.slp with records := s.reverted x }
      ∧ t.eng = ⟨.idle, none⟩
      ∧ t.cyc = { s.cyc with phase := .waitDesign, active := some active }
      ∧ t.pos = { s.pos with
          drive := .riding, target := none, output := .stop, holdLost := false, strokeEnd := false
          demand := .stop, strokeTerm := .go }
      ∧ t.heads = s.heads ∧ t.axes = s.axes ∧ t.count = s.count ∧ t.params = s.params
      ∧ (before = [] → s.seg.starved = false → flagIn .segStarved t.cond.flags = true) := by
  have hfreed : ((s.arriving dt 0x06 tag (.segmentTruncate x)).truncated x before).eng = ⟨.idle, none⟩ := by
    rw [truncated_eng]
    rcases heng with h | ⟨p, h, hpast⟩
    · rw [show (s.arriving dt 0x06 tag (.segmentTruncate x)).eng = ⟨.idle, none⟩ from h]
    · have hyes : spansPast x p.chainage (s.arriving dt 0x06 tag (.segmentTruncate x)) = true := decide_eq_true hpast
      rw [show (s.arriving dt 0x06 tag (.segmentTruncate x)).eng = ⟨.designing p, none⟩ from h]
      dsimp only
      rw [if_pos hyes]
  have hmem : q ∈ s.slp.records := by rw [hrecords]; exact List.mem_append_right _ List.mem_cons_self
  obtain ⟨-, hcalm, hleft, hstarves⟩ := truncate_recut (s := s.arriving dt 0x06 tag (.segmentTruncate x)) hmode hcur hpause
    ⟨harmed, hstop⟩ hsegs hbefore hg hrecords hearly (revertsAt_iff.mpr hreverts) hfreed hrear hend
    (fun f hf => hstart f hf q hmem (.inr hreverts.1)) (activeSetFor_eq hactive) hsome
  have htaken := takeTruncate_taken (s := s.arriving dt 0x06 tag (.segmentTruncate x)) hsegs hbefore hg hclear hfree
  have hkept := truncate_kept (s := s.arriving dt 0x06 tag (.segmentTruncate x)) x hsegs hbefore hg
  have hslp := hcalm.slp
  have heng' := hcalm.eng
  have hcyc := hcalm.cyc
  have hpos := hcalm.pos
  have hheads := hcalm.heads
  have haxes := hcalm.axes
  have hcount := count_of_fixed (Kept.fixed_eq hkept)
  have hparams := params_of_fixed (Kept.fixed_eq hkept)
  have hexec := request_answered_fixed (r := .segmentTruncate x) hs htaken (Kept.fixed_eq hkept)
  generalize truncate x (s.arriving dt 0x06 tag (.segmentTruncate x)) = t at *
  refine ⟨_, congrArg Host.Outcome.next hexec, hleft, hslp, heng', ?_, hpos, hheads, haxes, hcount, hparams, hstarves⟩
  refine hcyc.trans ?_
  unfold State.recut State.awaiting
  dsimp only
  rw [← hcur]
  rfl

end clauses

/-- Settles O48: the window is cut at the start found, the records beyond revert, and each clause follows what
the engine and the cycle controller make of the shorter queue. -/
theorem windowTruncated : Obligations.WindowTruncated := by
  unfold Obligations.WindowTruncated
  intro s dt tag x hs r refused reverts reach
  refine ⟨fun h => truncate_refused hs (takeTruncate_outOfRange (s := s.arriving dt 0x06 tag r) h),
    fun before g after hsegs hbefore hg huse =>
      truncate_refused hs (takeTruncate_inUse (s := s.arriving dt 0x06 tag r) hsegs hbefore hg huse),
    fun before g after hsegs hbefore hg hclear hfree hrear => ?_⟩
  refine ⟨s.reverted x, List.length_map _, fun i q q' hq hq' => ?_, ?_⟩
  · obtain ⟨hyes, hno⟩ := reverted_get (x := x) hq hq'
    exact ⟨fun h => hyes (revertsAt_iff.mpr h), fun h => hno fun h' => h (revertsAt_iff.mp h')⟩
  · intro replied leaves ahead
    refine ⟨fun p hmode hcur hpass hwithin => ?_, fun p r0 early late hmode hcur hpass hpast hahead hrecords hr0 _ hch hearly => ?_,
      fun q early late active hmode _ hcur hpause harmed hstop hrecords hearly hrev hahead heng hactive hsome => ?_⟩
    · exact truncate_resting hs hmode hcur hsegs hbefore hg hclear hfree hrear rfl rfl
        (truncate_passGoesOn hpass hwithin)
    · exact truncate_resting hs hmode hcur hsegs hbefore hg hclear hfree hrear rfl rfl
        (truncate_passAbandoned hpass hpast hahead.1 hahead.2 hrecords hr0 hch hearly)
    · exact truncate_reselects hs hsegs hbefore hg hclear hfree hrear hahead.1 hahead.2 hmode hcur hpause harmed hstop
        hrecords hearly hrev heng hactive hsome

end Sys2Proof.Machine
end


section
/-! ### What a changed parameter sets off (O59) -/

namespace Sys2Proof.Machine

/-- A CONFIGURE, taken by a port that listens, that changes the value of parameter `n` and is not refused. -/
structure State.Changes (s : State) (id : Byte) (v : BitVec 32) (n : Nat) : Prop where
  listens : s.Listens
  number : id.toNat = n
  known : 1 ≤ n ∧ n ≤ 39
  free : n ≠ 33
  timely : n ≤ 9 ∨ n = 33 ∨ n = 35 ∨ n = 38 ∨ n = 39 → s.cyc.mode = .ready
  inside : inRange n v.toNat = true
  crossed : (s.params.put n v.toNat).Crossed
  new : s.params.value n ≠ v.toNat

/-- The state in which the blocks act on the new value. -/
def State.reconfigured (s : State) (dt : Nat) (tag id : Byte) (v : BitVec 32) (n : Nat) : State :=
  { s.arriving dt 0x0F tag (.configure id v) with params := s.params.put n v.toNat }

section configuring
variable {s t : State} {dt : Nat} {tag id : Byte} {v : BitVec 32} {n : Nat}

theorem configure_acts (h : s.Changes id v n)
    (ht : parameterChanged n (s.arriving dt 0x0F tag (.configure id v)) (s.reconfigured dt tag id v n) = t)
    (hport : t.link.sansSlots = (s.arriving dt 0x0F tag (.configure id v)).link.sansSlots)
    (hpower : t.powered = true) (hclock : t.clock = s.clock + dt) :
    exec (.configure dt tag id v) s = .next { t with
      link := { s.answering dt (.configure id v) tag .ok ([id] ++ beBytes 4 v.toNat) with
        modeSlot := t.link.modeSlot, condSlot := t.link.condSlot, segSlot := t.link.segSlot } } := by
  obtain ⟨hlistens, rfl, hknown, hfree, htimely, hinside, hcrossed, hnew⟩ := h
  have hpass : configureRefusal id.toNat v.toNat (s.arriving dt 0x0F tag (.configure id v)) = none := by
    have hvalid := configureRefusal_valid (s := s.arriving dt 0x0F tag (.configure id v)) hknown htimely hinside hcrossed
    rw [hvalid, if_neg fun h33 => hfree h33.1]
  have htaken := takeConfigure_changed hknown hpass hnew
  rw [show (s.arriving dt 0x0F tag (.configure id v)).modParams (fun p => p.put id.toNat v.toNat)
    = s.reconfigured dt tag id v id.toNat from rfl, ht] at htaken
  exact congrArg Host.Outcome.next (request_answered (r := .configure id v) hlistens htaken hport hpower hclock)

/-- A change that the blocks act on without touching what is fixed. -/
theorem configure_acts_fixed (h : s.Changes id v n)
    (ht : parameterChanged n (s.arriving dt 0x0F tag (.configure id v)) (s.reconfigured dt tag id v n) = t)
    (hfixed : t.kept.fixed = (s.reconfigured dt tag id v n).kept.fixed) :
    exec (.configure dt tag id v) s = .next { t with
      link := { s.answering dt (.configure id v) tag .ok ([id] ++ beBytes 4 v.toNat) with
        modeSlot := t.link.modeSlot, condSlot := t.link.condSlot, segSlot := t.link.segSlot } } :=
  configure_acts h ht ((sansSlots_of_fixed hfixed).trans rfl) ((powered_of_fixed hfixed).trans h.listens.powered)
    (clock_of_fixed hfixed)

end configuring

/-! #### The arms -/

/-- A record whose design part a change of the arms has taken: QUEUED again, or skipped since (R84, R90). -/
def Sleeper.Undesigned (q : Sleeper) : Prop :=
  q.design = none ∧ (q.state = .queued ∨ q.state = .skipped ∧ q.result.map (·.skip) = some (some .noCover))

/-- From `s` to `t`, outside WORK, the undesigned records stay so and a design pass uses the arms in force. -/
structure Rearmed (s t : State) : Prop where
  mode : t.cyc.mode = s.cyc.mode
  length : t.slp.records.length = s.slp.records.length
  records : ∀ (i : Nat) (q q' : Sleeper), s.slp.records[i]? = some q → t.slp.records[i]? = some q' →
    q.Undesigned → q'.Undesigned
  params : t.params = s.params
  arms : (∀ p, s.eng.activity = .designing p → p.arms = ⟨s.params.p01, s.params.p02, s.params.p03, s.params.p04⟩) →
    ∀ p, t.eng.activity = .designing p → p.arms = ⟨s.params.p01, s.params.p02, s.params.p03, s.params.p04⟩

namespace Rearmed
variable {s t x : State}

theorem of_same (hslp : t.slp = s.slp) (hcyc : t.cyc = s.cyc) (hparams : t.params = s.params) (heng : t.eng = s.eng) :
    Rearmed s t where
  mode := by rw [hcyc]
  length := by rw [hslp]
  records i q q' hq hq' h := by
    rw [hslp, hq] at hq'
    cases hq'
    exact h
  params := hparams
  arms h := by rw [heng]; exact h

theorem trans (h : Rearmed s t) (h' : Rearmed t x) : Rearmed s x where
  mode := h'.mode.trans h.mode
  length := h'.length.trans h.length
  records i q q' hq hq' hu := by
    have hlt : i < t.slp.records.length := h.length.symm ▸ (List.getElem?_eq_some_iff.mp hq).1
    have hz := List.getElem?_eq_getElem hlt
    exact h'.records i _ q' hz hq' (h.records i q _ hq hz hu)
  params := h'.params.trans h.params
  arms hs := by
    have ht := h'.arms
    rw [h.params] at ht
    exact ht (h.arms hs)

theorem judgeSegments (h : s.cyc.mode ≠ .work) : Rearmed s (judgeSegments s) := by
  rw [judgeSegments_of_not_work h]
  exact of_same rfl rfl rfl rfl

theorem noCoverSkip (h : s.cyc.mode ≠ .work) (r : Sleeper) : Rearmed s (noCoverSkip r s) := by
  have hskip : Rearmed s (modRecord r.seq (fun r =>
      { r with state := .skipped, result := some (skippedResult 0 .noCover r.flags) }) s) := by
    refine ⟨rfl, List.length_map _, fun i q q' hq hq' hu => ?_, rfl, id⟩
    rw [show (modRecord r.seq _ s).slp.records = s.slp.records.map _ from rfl, List.getElem?_map, hq] at hq'
    cases hq'
    dsimp only
    split
    · exact ⟨hu.1, .inr ⟨rfl, rfl⟩⟩
    · exact hu
  rw [noCoverSkip_of_not_work h]
  refine hskip.trans ((of_same (setFlag_slp _ _) (setFlag_cyc _ _) (params_of_fixed (Kept.fixed_eq (setFlag_kept _ _)))
    (congrArg Beyond.eng (setFlag_beyond _ _))).trans (judgeSegments ?_))
  rw [setFlag_cyc]
  exact h

theorem beginDesign (r : Sleeper) (s : State) : Rearmed s (beginDesign r s) := by
  refine ⟨rfl, rfl, fun i q q' hq hq' h => ?_, rfl, fun _ p hp => ?_⟩
  · rw [show (Machine.beginDesign r s).slp.records = s.slp.records from rfl, hq] at hq'
    cases hq'
    exact h
  · rw [beginDesign_eq] at hp
    cases hp
    rfl

theorem beginTarget (req : TargetRequest) (s : State) (hidle : s.eng.activity = .idle) : Rearmed s (beginTarget req s) := by
  have hno (t : State) (ht : ∃ eng : Engine, t = { s with eng := eng } ∧ ∀ p, eng.activity ≠ .designing p) : Rearmed s t := by
    obtain ⟨eng, rfl, hno⟩ := ht
    refine ⟨rfl, rfl, fun i q q' hq hq' h => ?_, rfl, fun _ p hp => absurd hp (hno p)⟩
    rw [hq] at hq'
    cases hq'
    exact h
  unfold Machine.beginTarget
  split
  · exact hno _ ⟨_, rfl, fun p => nofun⟩
  · exact hno _ ⟨_, rfl, fun p hp => by
      rw [show s.eng.activity = .designing p from hp] at hidle
      cases hidle⟩

theorem engineLoop (n : Nat) (h : s.cyc.mode ≠ .work) : Rearmed s (engineLoop n s) := by
  induction n generalizing s with
  | zero => exact of_same rfl rfl rfl rfl
  | succ n ih =>
    unfold Machine.engineLoop
    split
    · next hidle _ => exact beginTarget _ s hidle
    · split
      · exact of_same rfl rfl rfl rfl
      · exact beginDesign _ s
      · have hskip := noCoverSkip h
        exact (hskip _).trans (ih (by rw [(hskip _).mode]; exact h))
    · exact of_same rfl rfl rfl rfl

theorem judgeEngine (h : s.cyc.mode ≠ .work) : Rearmed s (judgeEngine s) := engineLoop _ h

end Rearmed

section arms
variable {s : State}

/-- The records returned to QUEUED by a change of the arms, and the pass in flight abandoned (R90). -/
def State.disarmed (s : State) : State :=
  { s with
    eng := (abandonDesign (fun _ => true) s).eng
    slp := { s.slp with records := s.slp.records.map fun q =>
      if q.state = .designed then { q with state := .queued, design := none } else q } }

theorem changeArms_eq (s : State) : changeArms s = judgeEngine (judgeSegments s.disarmed) := rfl

theorem disarmed_idle (s : State) (p : DesignPass) : s.disarmed.eng.activity ≠ .designing p := by
  show (abandonDesign (fun _ => true) s).eng.activity ≠ .designing p
  unfold abandonDesign
  cases h : s.eng.activity with
  | designing q => simp [State.modEng, h]
  | idle => simp [State.modEng, h]
  | targeting q => simp [State.modEng, h]

theorem changeArms_rearmed (h : s.cyc.mode ≠ .work) : Rearmed s.disarmed (changeArms s) := by
  have hsegments := Rearmed.judgeSegments (s := s.disarmed) h
  rw [changeArms_eq]
  exact hsegments.trans (.judgeEngine (by rw [hsegments.mode]; exact h))

theorem changeArms_undesigns (h : s.cyc.mode ≠ .work) {i : Nat} {q q' : Sleeper} (hq : s.slp.records[i]? = some q)
    (hq' : (changeArms s).slp.records[i]? = some q') (hdesigned : q.state = .designed) : q'.Undesigned := by
  have hreverted : s.disarmed.slp.records[i]? = some { q with state := .queued, design := none } := by
    rw [State.disarmed, List.getElem?_map, hq, Option.map_some, if_pos hdesigned]
  exact (changeArms_rearmed h).records i _ q' hreverted hq' ⟨rfl, .inl rfl⟩

/-- With no segments the engine stays idle behind a change of the arms. -/
theorem changeArms_empty (h : s.cyc.mode ≠ .work) (hsegs : s.seg.segments = [])
    (htarget : ∀ p, s.eng.activity ≠ .targeting p) (hrequest : s.eng.request = none) :
    (changeArms s).eng.activity = .idle ∧ (changeArms s).slp = s.disarmed.slp := by
  have heng : s.disarmed.eng = ⟨.idle, none⟩ := by
    show (match s.eng.activity with
      | .designing _ => { s.eng with activity := .idle }
      | _ => s.eng) = (⟨.idle, none⟩ : Engine)
    cases hact : s.eng.activity with
    | designing p => exact congrArg (Engine.mk .idle) hrequest
    | targeting p => exact absurd hact (htarget p)
    | idle =>
      show s.eng = ⟨.idle, none⟩
      rw [← hact, ← hrequest]
  have hjudged := judgeSegments_of_not_work (s := s.disarmed) h
  have hnone : s.disarmed.unretired = [] := by
    unfold State.unretired
    rw [show s.disarmed.seg.segments = [] from hsegs]
    rfl
  have hidle : (judgeSegments s.disarmed).eng = ⟨.idle, none⟩ := by
    rw [hjudged]
    exact heng
  have hwait : judgeDesign (judgeSegments s.disarmed) = .wait := by
    have hgone : (judgeSegments s.disarmed).seg.segments = [] := by
      rw [hjudged]
      exact hnone
    unfold judgeDesign
    rw [hgone]
    cases oldestQueued (judgeSegments s.disarmed) <;> rfl
  rw [changeArms_eq, judgeEngine_waits hidle hwait, hidle, hjudged]
  exact ⟨rfl, rfl⟩

end arms

end Sys2Proof.Machine
end


section
/-! #### The clauses of the arms, the rear bound, the travel demand and the drive -/

namespace Sys2Proof.Machine

section clauses
variable {s : State} {dt : Nat} {tag id : Byte} {v : BitVec 32} {n : Nat}

/-- P01 to P04 (R90). -/
theorem configure_arms (h : s.Changes id v n) (hn : 1 ≤ n ∧ n ≤ 4) :
    ∃ t, exec (.configure dt tag id v) s = .next t
      ∧ (t.params = s.params.put n v.toNat ∧ t.eng = (changeArms (s.reconfigured dt tag id v n)).eng)
      ∧ t.slp = (changeArms (s.reconfigured dt tag id v n)).slp := by
  have hacts : parameterChanged n (s.arriving dt 0x0F tag (.configure id v)) (s.reconfigured dt tag id v n)
      = changeArms (s.reconfigured dt tag id v n) := by
    obtain ⟨hlo, hhi⟩ := hn
    interval_cases n <;> rfl
  have hkept : (changeArms (s.reconfigured dt tag id v n)).kept.fixed = (s.reconfigured dt tag id v n).kept.fixed := by
    rw [changeArms_eq, judgeEngine_kept, judgeSegments_kept]
    rfl
  have hexec := configure_acts_fixed h hacts hkept
  have hparams := params_of_fixed hkept
  generalize changeArms (s.reconfigured dt tag id v n) = t at *
  exact ⟨_, hexec, ⟨hparams, rfl⟩, rfl⟩

/-- P08 and P36, outside WORK and with a design pass in flight (R51, R52, R53). -/
theorem configure_bounds (h : s.Changes id v n) (hn : n = 8 ∨ n = 36) (hmode : s.cyc.mode ≠ .work)
    (hpass : ∃ p, s.eng.activity = .designing p) {r : State}
    (hr : r = { s.beginAt dt with params := s.params.put n v.toNat }) {segs : List Segment}
    (hsegs : segs = s.seg.segments.dropWhile fun g => decide (g.start + g.length ≤ rearBound r)) {reach : Int}
    (hreach : reach = detectorChainage r + max r.params.p01 r.params.p03 + r.params.p36) :
    exec (.configure dt tag id v) s = .next { r with
      seg := ⟨segs, wanting segs reach, s.seg.starved⟩
      link := { s.answering dt (.configure id v) tag .ok ([id] ++ beBytes 4 v.toNat) with
        segSlot := s.wantedSlot segs reach false } } := by
  have hacts : parameterChanged n (s.arriving dt 0x0F tag (.configure id v)) (s.reconfigured dt tag id v n)
      = judgeSegments (s.reconfigured dt tag id v n) := by
    have hjudged := judgeSegments_of_not_work (s := s.reconfigured dt tag id v n) hmode
    have hbusy : judgeEngine (judgeSegments (s.reconfigured dt tag id v n)) = judgeSegments (s.reconfigured dt tag id v n) := by
      obtain ⟨p, hp⟩ := hpass
      refine judgeEngine_busy fun hidle => ?_
      rw [hjudged] at hidle
      rw [show s.eng.activity = .idle from hidle] at hp
      cases hp
    rcases hn with rfl | rfl
    · exact hbusy
    · exact hbusy
  have hexec := configure_acts_fixed h hacts (Kept.fixed_eq (judgeSegments_kept _))
  have hunretired : (s.reconfigured dt tag id v n).unretired = segs := by rw [hsegs, hr]; rfl
  have hwanted : wantedReach (s.reconfigured dt tag id v n) = reach := by rw [hreach, hr]; rfl
  rw [judgeSegments_of_not_work (s := s.reconfigured dt tag id v n) hmode, hunretired, hwanted] at hexec
  rw [hexec, wantedSlot_eq, Bool.false_or, hr]
  rfl

/-- P10 and P11 (R34, R36). -/
theorem configure_stroke (h : s.Changes id v n) (hn : n = 10 ∨ n = 11) :
    ∃ t, exec (.configure dt tag id v) s = .next t ∧ t.params = s.params.put n v.toNat ∧ t.DemandCurrent
      ∧ t.count = s.count
      ∧ (s.InWorkOrOut → t.cyc = s.cyc ∧ t.slp = s.slp ∧ t.heads = s.heads ∧ t.axes = s.axes)
      ∧ (tightened s.pos.strokeTerm (strokeTermOf (s.reconfigured dt tag id v n)) = true →
        flagIn .strokeLow t.cond.flags = true) := by
  have hacts : parameterChanged n (s.arriving dt 0x0F tag (.configure id v)) (s.reconfigured dt tag id v n)
      = actOnStop (refreshDemand (s.reconfigured dt tag id v n)) := by
    rcases hn with rfl | rfl
    · rfl
    · rfl
  have hkept : (actOnStop (refreshDemand (s.reconfigured dt tag id v n))).kept = (s.reconfigured dt tag id v n).kept := by
    rw [actOnStop_kept, refreshDemand_kept]
  have hexec := configure_acts_fixed h hacts (Kept.fixed_eq hkept)
  have hparams := params_of_fixed (Kept.fixed_eq hkept)
  have hcount := count_of_fixed (Kept.fixed_eq hkept)
  have hdemand := (refreshDemand_demandCurrent (s.reconfigured dt tag id v n)).after_actOnStop
  have hrest (hno : s.InWorkOrOut) : actOnStop (refreshDemand (s.reconfigured dt tag id v n))
      = refreshDemand (s.reconfigured dt tag id v n) :=
    (hno.of_cyc (refreshDemand_cyc (s.reconfigured dt tag id v n))).actOnStop_eq
  have hleaves (hno : s.InWorkOrOut) : (actOnStop (refreshDemand (s.reconfigured dt tag id v n))).cyc = s.cyc
      ∧ (actOnStop (refreshDemand (s.reconfigured dt tag id v n))).slp = s.slp
      ∧ (actOnStop (refreshDemand (s.reconfigured dt tag id v n))).heads = s.heads
      ∧ (actOnStop (refreshDemand (s.reconfigured dt tag id v n))).axes = s.axes := by
    obtain ⟨cond, slot, heq⟩ := refreshDemand_eq (s.reconfigured dt tag id v n)
    rw [hrest hno, heq]
    exact ⟨rfl, rfl, rfl, rfl⟩
  have hflag (ht : tightened s.pos.strokeTerm (strokeTermOf (s.reconfigured dt tag id v n)) = true) :
      flagIn .strokeLow (actOnStop (refreshDemand (s.reconfigured dt tag id v n))).cond.flags = true := by
    refine flagIn_actOnStop ?_
    unfold refreshDemand
    dsimp only
    rw [if_pos (by exact ht)]
    exact (flagIn_setFlag _ _ _).trans (by simp)
  generalize actOnStop (refreshDemand (s.reconfigured dt tag id v n)) = t at *
  exact ⟨_, hexec, hparams, hdemand.of_governed rfl, hcount, hleaves, hflag⟩

/-- P12, P13 and P14 (R33). -/
theorem configure_drive (h : s.Changes id v n) (hn : n = 12 ∨ n = 13 ∨ n = 14) {x : State}
    (hx : x = { s.beginAt dt with params := s.params.put n v.toNat }) {tgt d o : Int}
    (htarget : s.pos.target = some tgt) (hhead : headChainage s = some d) (hoffset : satOffset s = some o)
    (hmode : s.cyc.mode = .work) :
    ∃ t, exec (.configure dt tag id v) s = .next t ∧ t.params = s.params.put n v.toNat
      ∧ (s.pos.drive = .indexing → s.cyc.phase = .indexing → s.cond.armed = none → frameChainage s ≤ tgt →
        (s.params.put n v.toNat).p12 < ((d - tgt).natAbs : Int) → DriveGoesOn x t)
      ∧ (s.pos.drive = .holding → s.cyc.phase = .arrived ∨ s.cyc.phase = .working ∨ s.cyc.phase = .clearing →
        HoldingJudged x t ((d - tgt).natAbs : Int) o) := by
  have hsame : headChainage (s.reconfigured dt tag id v n) = headChainage s
      ∧ satOffset (s.reconfigured dt tag id v n) = satOffset s
      ∧ frameChainage (s.reconfigured dt tag id v n) = frameChainage s := by
    rcases hn with rfl | rfl | rfl
    · exact ⟨rfl, rfl, rfl⟩
    · exact ⟨rfl, rfl, rfl⟩
    · exact ⟨rfl, rfl, rfl⟩
  obtain ⟨hhead', hoffset', hframe⟩ := hsame
  have hacts : parameterChanged n (s.arriving dt 0x0F tag (.configure id v)) (s.reconfigured dt tag id v n)
      = afterDrive (redetermine (s.reconfigured dt tag id v n)) := by
    rcases hn with rfl | rfl | rfl
    · rfl
    · rfl
    · rfl
  have hkept := redetermined_kept (s.reconfigured dt tag id v n)
  have hexec := configure_acts_fixed h hacts (Kept.fixed_eq hkept)
  have hparams := params_of_fixed (Kept.fixed_eq hkept)
  have hindexes (hdrive : s.pos.drive = .indexing) (hphase : s.cyc.phase = .indexing) (harmed : s.cond.armed = none)
      (hahead : frameChainage s ≤ tgt) (hfar : (s.params.put n v.toNat).p12 < ((d - tgt).natAbs : Int)) :
      DriveGoesOn (s.reconfigured dt tag id v n) (afterDrive (redetermine (s.reconfigured dt tag id v n))) := by
    rw [redetermine_far (s := s.reconfigured dt tag id v n) hdrive htarget (hhead'.trans hhead) (hoffset'.trans hoffset)
      (hframe ▸ hahead) hfar]
    exact afterDrive_indexing (s := s.reconfigured dt tag id v n) hdrive hphase harmed
  have hholds (hdrive : s.pos.drive = .holding)
      (hphase : s.cyc.phase = .arrived ∨ s.cyc.phase = .working ∨ s.cyc.phase = .clearing) :=
    holding_judged (s := s.reconfigured dt tag id v n) hdrive htarget (hhead'.trans hhead) (hoffset'.trans hoffset) hmode hphase
  generalize afterDrive (redetermine (s.reconfigured dt tag id v n)) = t at *
  subst hx
  exact ⟨_, hexec, hparams, hindexes, hholds⟩

end clauses

end Sys2Proof.Machine
end


section
/-! #### A new filter window (R2) -/

namespace Sys2Proof.Machine

/-- What an acceptance leaves alone: the fixed part but for the count unit and the ODO direction. -/
def State.uncounted (s : State) : Fixed := { s.undirected with count := State.reset.count }

section uncounted
variable {s t : State}

theorem uncounted_of_undirected (h : t.undirected = s.undirected) : t.uncounted = s.uncounted :=
  congrArg (fun x : Fixed => { x with count := State.reset.count }) h

theorem uncounted_of_kept (h : t.kept = s.kept) : t.uncounted = s.uncounted :=
  uncounted_of_undirected (undirected_of_fixed (Kept.fixed_eq h))

theorem sansSlots_of_uncounted (h : t.uncounted = s.uncounted) : t.link.sansSlots = s.link.sansSlots := by
  have field {α : Type} (f : Fixed → α) : f t.uncounted = f s.uncounted := congrArg f h
  have hassembler : t.link.assembler = s.link.assembler := field Fixed.assembler
  have hlast : t.link.lastByte = s.link.lastByte := field Fixed.lastByte
  have hhold : t.link.hold = s.link.hold := field Fixed.hold
  have hrequests : t.link.requests = s.link.requests := field Fixed.requests
  have hreplies : t.link.replies = s.link.replies := field Fixed.replies
  have hfull : t.link.full = s.link.full := field Fixed.full
  have htx : t.link.tx = s.link.tx := field Fixed.tx
  have hrestart : t.link.restart = s.link.restart := field Fixed.restart
  have hsupervision : t.link.supervision = s.link.supervision := field Fixed.supervision
  simp only [Link.sansSlots, hassembler, hlast, hhold, hrequests, hreplies, hfull, htx, hrestart, hsupervision]

end uncounted

/-- The filter of a line once a change that has been steady for the window is accepted. -/
def State.settledFilter (s : State) (l : Line) : LineFilter :=
  if steady (s.count.filter l) s then (s.count.filter l).accept else s.count.filter l

/-- From `s` to `t` the steady changes of some lines have been accepted. -/
structure Settles (lines : Line → Prop) (s t : State) : Prop where
  uncounted : t.uncounted = s.uncounted
  settled : ∀ l, lines l → t.count.filter l = s.settledFilter l
  left : ∀ l, ¬ lines l → t.count.filter l = s.count.filter l

namespace Settles
variable {s t x : State} {lines more : Line → Prop}

theorem refl (s : State) : Settles (fun _ => False) s s := ⟨rfl, fun _ h => h.elim, fun _ _ => rfl⟩

theorem steady_eq (h : t.uncounted = s.uncounted) (f : LineFilter) : steady f t = steady f s := by
  have hparams : t.params = s.params := congrArg Fixed.params h
  have hclock : t.clock = s.clock := congrArg Fixed.clock h
  unfold steady
  rw [hparams, hclock]

theorem accepted_unsteady (f : LineFilter) (s : State) : steady f.accept s = false := rfl

/-- A line settled once stays settled. -/
theorem settledFilter_settled (hu : t.uncounted = s.uncounted) {l : Line}
    (h : t.count.filter l = s.settledFilter l) : t.settledFilter l = s.settledFilter l := by
  rw [State.settledFilter, h, steady_eq hu]
  unfold State.settledFilter
  by_cases hs : steady (s.count.filter l) s = true
  · rw [if_pos hs, accepted_unsteady]
    rfl
  · rw [if_neg hs, if_neg hs]

theorem settledFilter_left (hu : t.uncounted = s.uncounted) {l : Line}
    (h : t.count.filter l = s.count.filter l) : t.settledFilter l = s.settledFilter l := by
  rw [State.settledFilter, h, steady_eq hu]
  rfl

theorem trans (h : Settles lines s t) (h' : Settles more t x) : Settles (fun l => lines l ∨ more l) s x where
  uncounted := h'.uncounted.trans h.uncounted
  settled l hl := by
    by_cases hm : more l
    · rw [h'.settled l hm]
      by_cases hl' : lines l
      · exact settledFilter_settled h.uncounted (h.settled l hl')
      · exact settledFilter_left h.uncounted (h.left l hl')
    · rw [h'.left l hm]
      exact h.settled l (hl.resolve_right hm)
  left l hl := (h'.left l fun hm => hl (.inr hm)).trans (h.left l fun hl' => hl (.inl hl'))

theorem weaken (h : Settles lines s t) (hl : ∀ l, lines l ↔ more l) : Settles more s t where
  uncounted := h.uncounted
  settled l hm := h.settled l ((hl l).mpr hm)
  left l hm := h.left l fun h' => hm ((hl l).mp h')

/-- A fold whose steps each settle lines settles all of them. -/
theorem foldl {α : Type} {step : State → α → State} {of : α → Line → Prop} (hstep : ∀ a s, Settles (of a) s (step s a))
    (as : List α) (s : State) : Settles (fun l => ∃ a ∈ as, of a l) s (as.foldl step s) := by
  induction as generalizing s with
  | nil => exact (refl s).weaken fun l => by simp
  | cons a as ih => exact ((hstep a s).trans (ih (step s a))).weaken fun l => by simp

end Settles

section acceptance
variable {s : State}

theorem steady_iff {f : LineFilter} :
    steady f s = true ↔ ∃ t, f.since = some t ∧ t + s.params.p38 ≤ s.clock := by
  unfold steady
  cases f.since <;> simp

theorem channelFault_nulls (c : ChannelId) (s : State) :
    (channelFault c s).uncounted = s.uncounted
      ∧ (channelFault c s).count = s.count.set c { s.count.get c with fault := true, nulled := false } := by
  have hclear (x : State) : (clearNull c x).uncounted = x.uncounted := by
    unfold clearNull
    split
    · exact (uncounted_of_kept (nullLost_kept c _)).trans rfl
    · rfl
  unfold channelFault
  refine ⟨(uncounted_of_kept (raiseFlag_kept _ _)).trans ((hclear _).trans rfl), ?_⟩
  rw [count_of_fixed (Kept.fixed_eq (raiseFlag_kept _ _)), clearNull_count]
  simp [State.modCount]

/-- A change of a channel that keeps its two filters keeps every filter. -/
theorem filter_set_kept {q : CountUnit} {c : ChannelId} {ch : Channel} (ha : ch.a = (q.get c).a) (hb : ch.b = (q.get c).b)
    (l : Line) : (q.set c ch).filter l = q.filter l := by
  cases l with
  | channelA d =>
    rcases eq_or_ne d c with rfl | hd
    · simp [CountUnit.filter, ha]
    · simp [CountUnit.filter, CountUnit.get_set_ne _ _ hd]
  | channelB d =>
    rcases eq_or_ne d c with rfl | hd
    · simp [CountUnit.filter, hb]
    · simp [CountUnit.filter, CountUnit.get_set_ne _ _ hd]
  | detector => simp [CountUnit.filter]
  | pressure u => simp [CountUnit.filter]

theorem channelFault_filters (c : ChannelId) (s : State) :
    (channelFault c s).uncounted = s.uncounted ∧ ∀ l, (channelFault c s).count.filter l = s.count.filter l := by
  obtain ⟨hun, hcount⟩ := channelFault_nulls c s
  refine ⟨hun, fun l => ?_⟩
  rw [hcount]
  exact filter_set_kept (ch := { s.count.get c with fault := true, nulled := false }) rfl rfl l

theorem countStep_filters (c : ChannelId) (up : Bool) (s : State) :
    (countStep c up s).uncounted = s.uncounted ∧ ∀ l, (countStep c up s).count.filter l = s.count.filter l := by
  unfold countStep
  split
  · next n _ =>
    have hmoved := countMoved_undirected c up s (s.modCount fun q => q.set c { q.get c with count := n })
    refine ⟨(uncounted_of_undirected hmoved).trans rfl, fun l => ?_⟩
    rw [count_of_undirected hmoved]
    exact filter_set_kept (q := s.count) (ch := { s.count.get c with count := n }) rfl rfl l
  · exact channelFault_filters c s

/-- The acceptance at the two lines of a channel (R1). -/
theorem acceptChannel_settles (c : ChannelId) (s : State) :
    Settles (fun l => l = .channelA c ∨ l = .channelB c) s
      (acceptChannel c (steady (s.count.get c).a s) (steady (s.count.get c).b s) s) := by
  let taken := s.modCount fun q => q.set c { q.get c with
    a := s.settledFilter (.channelA c), b := s.settledFilter (.channelB c), paired := false }
  have htaken : Settles (fun l => l = .channelA c ∨ l = .channelB c) s taken := by
    refine ⟨rfl, fun l hl => ?_, fun l hl => ?_⟩
    · rcases hl with rfl | rfl
      · simp [taken, CountUnit.filter]
      · simp [taken, CountUnit.filter]
    · cases l with
      | channelA d =>
        have hd : d ≠ c := fun h => hl (.inl (by rw [h]))
        simp [taken, CountUnit.filter, CountUnit.get_set_ne _ _ hd]
      | channelB d =>
        have hd : d ≠ c := fun h => hl (.inr (by rw [h]))
        simp [taken, CountUnit.filter, CountUnit.get_set_ne _ _ hd]
      | detector => simp [taken, CountUnit.filter]
      | pressure u => simp [taken, CountUnit.filter]
  have hstep (t : State) (ht : t.uncounted = taken.uncounted ∧ ∀ l, t.count.filter l = taken.count.filter l) :
      Settles (fun l => l = .channelA c ∨ l = .channelB c) s t :=
    ⟨ht.1.trans htaken.uncounted, fun l hl => (ht.2 l).trans (htaken.settled l hl),
      fun l hl => (ht.2 l).trans (htaken.left l hl)⟩
  have hA (b : Bool) (hb : steady (s.count.get c).a s = b) :
      (if b then (s.count.get c).a.accept else (s.count.get c).a) = s.settledFilter (.channelA c) := by
    rw [← hb]
    rfl
  have hB (b : Bool) (hb : steady (s.count.get c).b s = b) :
      (if b then (s.count.get c).b.accept else (s.count.get c).b) = s.settledFilter (.channelB c) := by
    rw [← hb]
    rfl
  unfold acceptChannel
  dsimp only
  rw [hA _ rfl, hB _ rfl]
  cases ha : steady (s.count.get c).a s <;> cases hb : steady (s.count.get c).b s
  · refine ⟨rfl, fun l hl => ?_, fun l hl => rfl⟩
    rcases hl with rfl | rfl
    · exact hA _ ha
    · exact hB _ hb
  · exact hstep _ (countStep_filters c _ taken)
  · exact hstep _ (countStep_filters c _ taken)
  · exact hstep _ (channelFault_filters c taken)

theorem CountUnit.filter_setFilter_ne (q : CountUnit) {l m : Line} (h : m ≠ l) (f : LineFilter) :
    (q.setFilter l f).filter m = q.filter m := by
  have channel (c : ChannelId) (ch : Channel) (ha : m = .channelA c → ch.a = (q.get c).a)
      (hb : m = .channelB c → ch.b = (q.get c).b) : (q.set c ch).filter m = q.filter m := by
    cases m with
    | channelA d =>
      rcases eq_or_ne d c with rfl | hd
      · simp [CountUnit.filter, ha rfl]
      · simp [CountUnit.filter, CountUnit.get_set_ne _ _ hd]
    | channelB d =>
      rcases eq_or_ne d c with rfl | hd
      · simp [CountUnit.filter, hb rfl]
      · simp [CountUnit.filter, CountUnit.get_set_ne _ _ hd]
    | detector => simp [CountUnit.filter]
    | pressure u => simp [CountUnit.filter]
  cases l with
  | channelA c => exact channel c _ (fun hm => absurd hm h) fun _ => rfl
  | channelB c => exact channel c _ (fun _ => rfl) fun hm => absurd hm h
  | detector => cases m with
    | detector => exact absurd rfl h
    | _ => rfl
  | pressure u => cases m with
    | pressure w => exact Four.get_set_ne _ _ fun hw => h (by rw [hw])
    | _ => rfl

/-- The acceptance at a line that is no channel's (R14, R15). -/
theorem acceptLine_settles {l : Line} (hl : lineChannel l = none) (s : State) :
    Settles (· = l) s (if steady (s.count.filter l) s then acceptLine l false s else s) := by
  by_cases hs : steady (s.count.filter l) s = true
  · have hfixed : (acceptLine l false s).kept.fixed
        = (s.modCount fun q => q.setFilter l (q.filter l).accept).kept.fixed := by
      cases l with
      | channelA c => cases hl
      | channelB c => cases hl
      | detector => exact detectorEdge_fixed _
      | pressure u =>
        unfold acceptLine
        dsimp only
        split
        · rw [followUnit_kept, seePressure_kept]
          rfl
        · rfl
    have hcount := count_of_fixed hfixed
    rw [if_pos hs]
    refine ⟨(uncounted_of_undirected (undirected_of_fixed hfixed)).trans rfl, fun m hm => ?_, fun m hm => ?_⟩
    · subst hm
      rw [hcount, State.modCount_count, CountUnit.filter_setFilter, State.settledFilter, if_pos hs]
    · rw [hcount, State.modCount_count, CountUnit.filter_setFilter_ne _ hm]
  · rw [if_neg hs]
    refine ⟨rfl, fun m hm => ?_, fun _ _ => rfl⟩
    subst hm
    rw [State.settledFilter, if_neg hs]

theorem mem_allChannels (c : ChannelId) : c ∈ allChannels := by
  cases c with
  | dep u => cases u <;> decide
  | _ => decide

/-- A new window settles every line (R2). -/
theorem acceptSteady_settles (s : State) : Settles (fun _ => True) s (acceptSteady s) := by
  have hchannels := Settles.foldl acceptChannel_settles allChannels s
  have hdetector := hchannels.trans (acceptLine_settles (l := .detector) rfl _)
  have hall := hdetector.trans (Settles.foldl (fun u t => acceptLine_settles (l := .pressure u) rfl t) allUnits _)
  refine hall.weaken fun l => ⟨fun _ => trivial, fun _ => ?_⟩
  cases l with
  | channelA c => exact .inl (.inl ⟨c, mem_allChannels c, .inl rfl⟩)
  | channelB c => exact .inl (.inl ⟨c, mem_allChannels c, .inr rfl⟩)
  | detector => exact .inl (.inr rfl)
  | pressure u => exact .inr ⟨u, mem_allUnits u, rfl⟩

/-- With no change steady nothing is accepted. -/
theorem acceptSteady_unsteady (h : ∀ l, steady (s.count.filter l) s = false) : acceptSteady s = s := by
  have hfold {α : Type} {step : State → α → State} (hstep : ∀ a, step s a = s) (as : List α) : as.foldl step s = s := by
    induction as with
    | nil => rfl
    | cons a as ih => rw [List.foldl_cons, hstep a, ih]
  have hchannels : allChannels.foldl
      (fun t c => acceptChannel c (steady (t.count.get c).a t) (steady (t.count.get c).b t) t) s = s := by
    refine hfold (fun c => ?_) _
    rw [show steady (s.count.get c).a s = false from h (.channelA c),
      show steady (s.count.get c).b s = false from h (.channelB c)]
    rfl
  unfold acceptSteady
  dsimp only
  rw [hchannels, show steady s.count.detector s = false from h .detector]
  refine hfold (fun u => ?_) _
  rw [show steady (s.count.pressure.get u) s = false from h (.pressure u)]
  rfl

end acceptance

end Sys2Proof.Machine
end


section
/-! #### A new polarity (R4), and the nulls it takes outside WORK and PAUSED -/

namespace Sys2Proof.Machine

/-- The cycle controller, the segment queue and the sleeper queue are left alone, and no release comes to pend. -/
structure Uninvolved (s t : State) : Prop where
  slp : t.slp = s.slp
  cyc : t.cyc = s.cyc
  seg : t.seg = s.seg
  release : s.NoRelease → t.NoRelease

namespace Uninvolved
variable {s t x : State}

theorem trans (h : Uninvolved s t) (h' : Uninvolved t x) : Uninvolved s x :=
  ⟨h'.slp.trans h.slp, h'.cyc.trans h.cyc, h'.seg.trans h.seg, fun hs => h'.release (h.release hs)⟩

theorem of_axes (hslp : t.slp = s.slp) (hcyc : t.cyc = s.cyc) (hseg : t.seg = s.seg) (haxes : t.axes = s.axes) :
    Uninvolved s t :=
  ⟨hslp, hcyc, hseg, fun h => h.of_axes haxes⟩

theorem refl (s : State) : Uninvolved s s := of_axes rfl rfl rfl rfl

theorem setFlag (f : Flag) (s : State) : Uninvolved s (setFlag f s) :=
  of_axes (setFlag_slp f s) (setFlag_cyc f s) (congrArg Beyond.seg (setFlag_beyond f s)) (setFlag_axes f s)

theorem refreshDemand (s : State) : Uninvolved s (refreshDemand s) := by
  obtain ⟨cond, slot, heq⟩ := refreshDemand_eq s
  rw [heq]
  exact of_axes rfl rfl rfl rfl

/-- The entry into SQUEEZING concerns the unit alone: a phase that ends at once has seen its pressure (R125). -/
theorem enterSqueezing_eq (u : UnitId) (s : State) : ∃ heads, enterSqueezing u s = { s with heads := heads } := by
  unfold enterSqueezing
  dsimp only
  split
  · unfold seePressure
    dsimp only
    split
    · split
      · unfold endPhase
        rw [if_pos (by rw [State.modHead_heads, Four.get_set])]
        exact ⟨_, rfl⟩
      · exact ⟨_, rfl⟩
    · exact ⟨_, rfl⟩
  · exact ⟨_, rfl⟩

theorem openGate (s : State) : Uninvolved s (openGate s) := by
  have hgate (t : State) (u : UnitId) : Uninvolved t (judgeGate u t) := by
    unfold judgeGate
    split
    · obtain ⟨heads, heq⟩ := enterSqueezing_eq u t
      rw [heq]
      exact of_axes rfl rfl rfl rfl
    · exact refl t
  exact List.foldlRecOn (motive := Uninvolved s) allUnits (fun s u => judgeGate u s) (refl s)
    fun t ht u _ => ht.trans (hgate t u)

theorem driven (s : State) : Uninvolved s s.driven :=
  of_axes (State.driven_slp s) (State.driven_cyc s) (State.driven_seg s) (State.driven_axes s)

theorem afterAxis (h : s.cyc.mode ≠ .work) : Uninvolved s (afterAxis s) := by
  rw [(inWorkOrOut_of_not_work h).afterAxis_eq]
  exact (openGate s).trans (driven _)

/-- An axis without its reading measures no overshoot, and so raises no flag (R113). -/
theorem enterHold {a : AxisId} (hnone : axisReading a s = none) (outcome : AxisOutcome) :
    Uninvolved s (enterHold a outcome s) := by
  have hslp : (Machine.enterHold a outcome s).slp = s.slp := by
    have hheld (t : State) (ht : axisReading a t = none) : (Machine.measureOvershoot a t).slp = t.slp := by
      unfold Machine.measureOvershoot
      rw [ht]
      split <;> rfl
    exact hheld _ hnone
  refine ⟨hslp, (Acted.enterHold a outcome s).cyc, (Acted.enterHold a outcome s).seg, fun h b => ?_⟩
  rw [enterHold_held]
  rcases eq_or_ne b a with rfl | hb
  · rw [Three.get_set]
    exact h b
  · rw [Three.get_set_ne _ _ hb]
    exact h b

/-- Outside WORK and PAUSED the cycle controller takes no CHANNEL_LOST (R116). -/
theorem axisChannelLost (hmode : s.cyc.mode = .ready) (c : ChannelId) : Uninvolved s (axisChannelLost c s) := by
  have hafter (x : State) (hx : Uninvolved s x) :
      Uninvolved s (Machine.afterAxis (hardHalt .channelLost (some (.channel c)) x)) := by
    have hnone : hardHalt .channelLost (some (.channel c)) x = x := if_neg (by rw [hx.cyc, hmode]; decide)
    rw [hnone]
    exact hx.trans (.afterAxis (by rw [hx.cyc, hmode]; decide))
  have hfree : Uninvolved s s.freeOrder.2 := of_axes rfl rfl rfl rfl
  unfold Machine.axisChannelLost
  dsimp only
  split
  · refine hafter _ ?_
    split
    · exact hfree.trans (.openGate _)
    · exact hfree
  · exact hafter s (refl s)

theorem loseSatellite (hmode : s.cyc.mode ≠ .work) : Uninvolved s (loseSatellite s) := by
  by_cases hdrive : s.pos.drive = .riding
  · unfold Machine.loseSatellite
    rw [hdrive]
    exact of_axes rfl rfl rfl rfl
  · have hride : Uninvolved s (rideDrive s) := (of_axes rfl rfl rfl rfl : Uninvolved s (s.modPos fun p =>
        { p with drive := .riding, target := none, output := .stop, holdLost := false, strokeEnd := false })).trans
      (.refreshDemand _)
    have hout : (rideDrive s).cyc.mode ≠ .work := by
      rw [rideDrive_cyc]
      exact hmode
    have hreports := onDriveReports_of_not_work hout [.channelLost]
    have hafter : afterDrive (rideDrive s, [.channelLost]) = Machine.refreshDemand (rideDrive s) := by
      rw [afterDrive_eq (p := (rideDrive s, [.channelLost])) (inWorkOrOut_of_not_work (by rw [hreports]; exact hout)), hreports]
    rw [loseSatellite_moved hdrive, hafter]
    exact hride.trans (.refreshDemand _)

theorem loseDepth (hmode : s.cyc.mode ≠ .work) (hno : s.NoRelease) (u : UnitId) :
    Uninvolved s (afterUnit u (loseDepth u s)) := by
  have hlost : Uninvolved s (Machine.loseDepth u s) := by
    by_cases hout : (s.heads.get u).OutOfDepth
    · rw [loseDepth_out hout]
      exact refl s
    · rw [loseDepth_in hout]
      exact (of_axes rfl rfl rfl rfl : Uninvolved s (s.setHead u _)).trans (.setFlag _ _)
  have hund : (Machine.loseDepth u s).Undisturbed u := fun h => absurd h (by rw [hlost.cyc]; exact hmode)
  rw [hund.afterUnit_eq (hlost.release hno)]
  exact hlost.trans (driven _)

theorem nullLost (hmode : s.cyc.mode = .ready) (hno : s.NoRelease) {c : ChannelId}
    (hnulled : (s.count.get c).nulled = false) : Uninvolved s (nullLost c s) := by
  have haxis (a : AxisId) (hnone : axisReading a s = none) : Uninvolved s (loseAxisChannel a s) := by
    unfold loseAxisChannel
    split
    · next hmoving =>
      have hcut : cutAxis a s = Machine.enterHold a .cut s := if_pos hmoving
      rw [hcut]
      have hheld := enterHold hnone .cut
      exact hheld.trans (.axisChannelLost (by rw [hheld.cyc]; exact hmode) _)
    · exact refl s
  have hwork : s.cyc.mode ≠ .work := by rw [hmode]; decide
  cases c with
  | odo => exact refl s
  | sat => exact loseSatellite hwork
  | lat => exact haxis _ (reading_none hnulled)
  | lvlL => exact haxis _ (reading_none hnulled)
  | lvlR => exact haxis _ (reading_none hnulled)
  | xl => exact refl s
  | dep u => exact loseDepth hwork hno u

theorem clearNull (hmode : s.cyc.mode = .ready) (hno : s.NoRelease) (c : ChannelId) : Uninvolved s (clearNull c s) := by
  unfold Machine.clearNull
  split
  · exact (of_axes rfl rfl rfl rfl : Uninvolved s (s.modCount fun q => q.set c { q.get c with nulled := false })).trans
      (nullLost (s := s.modCount fun q => q.set c { q.get c with nulled := false }) hmode hno
        (by rw [State.modCount_count, CountUnit.get_set]))
  · exact refl s

end Uninvolved

/-- Some channels lose their nulls (R4). -/
def clearNulls (turned : ChannelId → Bool) (cs : List ChannelId) (s : State) : State :=
  cs.foldl (fun t c => if turned c then clearNull c t else t) s

/-- What the channels and the other blocks keep of it. -/
structure Denulled (turned : ChannelId → Bool) (cs : List ChannelId) (s t : State) : Prop where
  uninvolved : Uninvolved s t
  uncounted : t.uncounted = s.uncounted
  filters : ∀ l, t.count.filter l = s.count.filter l
  channels : ∀ c, t.count.get c
    = { s.count.get c with nulled := (s.count.get c).nulled && !(decide (c ∈ cs) && turned c) }

theorem clearNull_uncounted (c : ChannelId) (s : State) : (clearNull c s).uncounted = s.uncounted := by
  unfold clearNull
  split
  · exact (uncounted_of_kept (nullLost_kept c _)).trans rfl
  · rfl

theorem clearNulls_denulled {s : State} (hmode : s.cyc.mode = .ready) (hno : s.NoRelease) (turned : ChannelId → Bool)
    (cs : List ChannelId) : Denulled turned cs s (clearNulls turned cs s) := by
  induction cs generalizing s with
  | nil => exact ⟨.refl s, rfl, fun _ => rfl, fun c => by simp [clearNulls]⟩
  | cons d cs ih =>
    unfold clearNulls
    rw [List.foldl_cons]
    by_cases hd : turned d = true
    · have hclear := Uninvolved.clearNull hmode hno d
      have hrest := ih (s := clearNull d s) (by rw [hclear.cyc]; exact hmode) (hclear.release hno)
      have hcount := clearNull_count d s
      rw [if_pos hd]
      refine ⟨hclear.trans hrest.uninvolved, hrest.uncounted.trans (clearNull_uncounted d s), fun l => ?_, fun c => ?_⟩
      · refine (hrest.filters l).trans ?_
        rw [hcount]
        exact filter_set_kept (ch := { s.count.get d with nulled := false }) rfl rfl l
      · refine (hrest.channels c).trans ?_
        rw [hcount]
        rcases eq_or_ne c d with rfl | hc
        · simp [hd]
        · simp [CountUnit.get_set_ne _ _ hc, hc]
    · have hrest := ih hmode hno
      rw [if_neg hd]
      refine ⟨hrest.uninvolved, hrest.uncounted, hrest.filters, fun c => (hrest.channels c).trans ?_⟩
      rcases eq_or_ne c d with rfl | hc
      · simp [hd]
      · simp [hc]

theorem changePolarity_eq (before s : State) : changePolarity before s = clearNulls
    (fun c => decide (c ≠ .odo ∧ channelIn c before.params.p39polarity ≠ channelIn c s.params.p39polarity)) allChannels s := by
  unfold changePolarity clearNulls
  simp only [decide_eq_true_eq]

end Sys2Proof.Machine
end


section
namespace Sys2Proof.Machine

section clauses
variable {s : State} {dt : Nat} {tag id : Byte} {v : BitVec 32}

/-- A change that leaves the count unit and the ODO direction to its blocks, and what else is fixed alone. -/
theorem configure_acts_uncounted {n : Nat} {t : State} (h : s.Changes id v n)
    (ht : parameterChanged n (s.arriving dt 0x0F tag (.configure id v)) (s.reconfigured dt tag id v n) = t)
    (hun : t.uncounted = (s.reconfigured dt tag id v n).uncounted) :
    exec (.configure dt tag id v) s = .next { t with
      link := { s.answering dt (.configure id v) tag .ok ([id] ++ beBytes 4 v.toNat) with
        modeSlot := t.link.modeSlot, condSlot := t.link.condSlot, segSlot := t.link.segSlot } } := by
  have hpower : t.powered = s.powered := congrArg Fixed.powered hun
  have hclock : t.clock = s.clock + dt := congrArg Fixed.clock hun
  exact configure_acts h ht ((sansSlots_of_uncounted hun).trans rfl) (hpower.trans h.listens.powered) hclock

/-- P38 (R2): what has been steady for the new window is accepted. -/
theorem configure_window {n : Nat} (h : s.Changes id v n) (hn : n = 38) :
    ((∀ l t0, (s.count.filter l).since = some t0 → s.clock + dt < t0 + v.toNat) →
        exec (.configure dt tag id v) s = .next { s.beginAt dt with
          params := s.params.put n v.toNat
          link := s.answering dt (.configure id v) tag .ok ([id] ++ beBytes 4 v.toNat) })
      ∧ ∃ t, exec (.configure dt tag id v) s = .next t ∧ t.params = s.params.put n v.toNat
        ∧ (∀ l t0, (s.count.filter l).since = some t0 → t0 + v.toNat ≤ s.clock + dt →
          t.count.filter l = ⟨(s.count.filter l).present, (s.count.filter l).present, none⟩)
        ∧ (∀ l, (∀ t0, (s.count.filter l).since = some t0 → s.clock + dt < t0 + v.toNat) →
          t.count.filter l = s.count.filter l) := by
  subst hn
  have hsteady (l : Line) : steady (s.count.filter l) (s.reconfigured dt tag id v 38) = true
      ↔ ∃ t0, (s.count.filter l).since = some t0 ∧ t0 + v.toNat ≤ s.clock + dt := steady_iff
  have hunsteady (l : Line) (hl : ∀ t0, (s.count.filter l).since = some t0 → s.clock + dt < t0 + v.toNat) :
      steady (s.count.filter l) (s.reconfigured dt tag id v 38) = false :=
    Bool.eq_false_iff.mpr fun hs => by
      obtain ⟨t0, hsince, hdue⟩ := (hsteady l).mp hs
      exact absurd (hl t0 hsince) (not_lt.mpr hdue)
  have hsettles := acceptSteady_settles (s.reconfigured dt tag id v 38)
  have hacts : parameterChanged 38 (s.arriving dt 0x0F tag (.configure id v)) (s.reconfigured dt tag id v 38)
      = acceptSteady (s.reconfigured dt tag id v 38) := rfl
  have hexec := configure_acts_uncounted h hacts hsettles.uncounted
  refine ⟨fun hnone => ?_, ?_⟩
  · have hsame := acceptSteady_unsteady (s := s.reconfigured dt tag id v 38) fun l => hunsteady l (hnone l)
    exact (configure_acts_uncounted h (hacts.trans hsame) rfl).trans rfl
  · have hparams : (acceptSteady (s.reconfigured dt tag id v 38)).params = s.params.put 38 v.toNat :=
      congrArg Fixed.params hsettles.uncounted
    have hfilter (l : Line) := hsettles.settled l trivial
    generalize acceptSteady (s.reconfigured dt tag id v 38) = t at *
    refine ⟨_, hexec, hparams, fun l t0 hsince hdue => ?_, fun l hl => ?_⟩
    · exact (hfilter l).trans (if_pos ((hsteady l).mpr ⟨t0, hsince, hdue⟩))
    · exact (hfilter l).trans (if_neg (Bool.eq_false_iff.mp (hunsteady l hl)))

/-- P39 (R4, R14): each channel whose polarity changes loses its null, and no line makes an edge. -/
theorem configure_polarity {n : Nat} (h : s.Changes id v n) (hn : n = 39) (hno : s.NoRelease) :
    ∃ t, exec (.configure dt tag id v) s = .next t ∧ t.params = s.params.put n v.toNat ∧ t.slp = s.slp
      ∧ t.cyc = s.cyc ∧ t.seg = s.seg ∧ (∀ l, t.count.filter l = s.count.filter l)
      ∧ ∀ c, t.count.get c = { s.count.get c with
          nulled := (s.count.get c).nulled && decide (c = .odo
            ∨ channelIn c (s.params.put n v.toNat).p39polarity = channelIn c s.params.p39polarity) } := by
  subst hn
  have hready : s.cyc.mode = .ready := h.timely (.inr (.inr (.inr (.inr rfl))))
  have hdenulled := clearNulls_denulled (s := s.reconfigured dt tag id v 39) hready hno
    (fun c => decide (c ≠ .odo ∧ channelIn c s.params.p39polarity
      ≠ channelIn c (s.reconfigured dt tag id v 39).params.p39polarity)) allChannels
  have hacts : parameterChanged 39 (s.arriving dt 0x0F tag (.configure id v)) (s.reconfigured dt tag id v 39)
      = clearNulls (fun c => decide (c ≠ .odo ∧ channelIn c s.params.p39polarity
          ≠ channelIn c (s.reconfigured dt tag id v 39).params.p39polarity)) allChannels (s.reconfigured dt tag id v 39) :=
    changePolarity_eq _ _
  have hexec := configure_acts_uncounted h hacts hdenulled.uncounted
  have hparams := congrArg Fixed.params hdenulled.uncounted
  obtain ⟨⟨hslp, hcyc, hseg, -⟩, -, hfilters, hchannels⟩ := hdenulled
  generalize clearNulls _ allChannels (s.reconfigured dt tag id v 39) = t at *
  refine ⟨_, hexec, hparams, hslp, hcyc, hseg, hfilters, fun c => (hchannels c).trans ?_⟩
  have hkept : (!(decide (c ∈ allChannels) && decide (c ≠ .odo ∧ channelIn c s.params.p39polarity
        ≠ channelIn c (s.params.put 39 v.toNat).p39polarity)))
      = decide (c = .odo ∨ channelIn c (s.params.put 39 v.toNat).p39polarity = channelIn c s.params.p39polarity) := by
    rw [decide_eq_true (mem_allChannels c), Bool.true_and, ← decide_not, decide_eq_decide, not_and_or, not_not, not_not]
    exact or_congr_right eq_comm
  rw [← hkept]
  rfl

end clauses

/-- P08 and P36 leave the chainages of the frame and of the head (R21). -/
theorem chainages_put {s : State} {n : Nat} (hn : n = 8 ∨ n = 36) (dt w : Nat) {x : State}
    (hx : x = { s.beginAt dt with params := s.params.put n w }) :
    detectorChainage x = max (-2000000000) (min 2000000000 (frameChainage s + (s.params.put n w).p08))
      ∧ frameChainage x = frameChainage s ∧ headChainage x = headChainage s := by
  subst hx
  rcases hn with rfl | rfl
  · exact ⟨rfl, rfl, rfl⟩
  · exact ⟨rfl, rfl, rfl⟩

/-- The stroke term under new limits (R35), and where it tightens (R36). -/
theorem stroke_tightens {s : State} {n : Nat} (hn : n = 10 ∨ n = 11) {dt : Nat} {tag id : Byte} {v : BitVec 32} {o : Int}
    (hmode : s.cyc.mode = .work) (hdrive : s.pos.drive = .holding) (hoffset : satOffset s = some o) :
    (o ≤ (s.params.put n v.toNat).p11 → s.pos.strokeTerm ≠ .stop →
        tightened s.pos.strokeTerm (strokeTermOf (s.reconfigured dt tag id v n)) = true)
      ∧ (o ≤ (s.params.put n v.toNat).p10 → s.pos.strokeTerm = .go →
        tightened s.pos.strokeTerm (strokeTermOf (s.reconfigured dt tag id v n)) = true) := by
  have hsame : satOffset (s.reconfigured dt tag id v n) = some o := by
    rw [← hoffset]
    rcases hn with rfl | rfl
    · rfl
    · rfl
  have hterm : strokeTermOf (s.reconfigured dt tag id v n)
      = if o ≤ (s.params.put n v.toNat).p11 then .stop else if o ≤ (s.params.put n v.toNat).p10 then .creep else .go := by
    unfold strokeTermOf
    rw [hsame]
    exact if_pos ⟨hmode, hdrive⟩
  rw [hterm]
  refine ⟨fun hend hterm => ?_, fun hlow hterm => ?_⟩
  · rw [if_pos hend]
    cases hs : s.pos.strokeTerm with
    | stop => exact absurd hs hterm
    | go => rfl
    | creep => rfl
  · rw [hterm]
    rw [if_pos hlow]
    split
    · rfl
    · rfl

/-- Settles O59: parameter by parameter. -/
theorem parameterChangesActed : Obligations.ParameterChangesActed := by
  unfold Obligations.ParameterChangesActed
  intro s dt tag id v hs _ n rest put order replaced replied htimely hinside hcrossed hnew
  have hchanges (hknown : 1 ≤ n ∧ n ≤ 39) (hfree : n ≠ 33) : s.Changes id v n :=
    ⟨hs, rfl, hknown, hfree, htimely, hinside, hcrossed, hnew⟩
  refine ⟨fun hlo hhi => ?_, fun hn hmode hpass => ?_, fun hn => ?_, fun hn tgt d o htarget hhead hoffset hmode => ?_,
    fun hn => ?_, fun hn hno => ?_⟩
  · have hready : s.cyc.mode = .ready := htimely (.inl (by omega))
    have hout : (s.reconfigured dt tag id v n).cyc.mode ≠ .work := by
      show s.cyc.mode ≠ .work
      rw [hready]
      decide
    obtain ⟨t, hexec, ⟨hparams, heng⟩, hslp⟩ := configure_arms (dt := dt) (tag := tag)
      (hchanges (by omega) (by omega)) ⟨hlo, hhi⟩
    have hrearmed := changeArms_rearmed hout
    refine ⟨t, hexec, hparams, ?_, fun i q q' hq hq' hdesigned => ?_, fun p hp => ?_, fun hsegs htarget hrequest => ?_⟩
    · rw [hslp, hrearmed.length]
      exact List.length_map _
    · rw [hslp] at hq'
      exact changeArms_undesigns hout hq hq' hdesigned
    · rw [heng] at hp
      exact hrearmed.arms (fun p hp => absurd hp (disarmed_idle _ p)) p hp
    · have hempty := changeArms_empty hout hsegs htarget hrequest
      rw [heng, hslp]
      exact hempty
  · intro segs reach
    exact ⟨configure_bounds (hchanges (by omega) (by omega)) hn hmode hpass rfl rfl rfl, chainages_put hn dt v.toNat rfl⟩
  · obtain ⟨t, hexec, hparams, hdemand, hcount, hrest, hflag⟩ := configure_stroke (dt := dt) (tag := tag)
      (hchanges (by omega) (by omega)) hn
    refine ⟨t, hexec, hparams, hdemand, hcount, hrest, fun o hmode hdrive hoffset => ?_⟩
    obtain ⟨hend, hlow⟩ := stroke_tightens (dt := dt) (tag := tag) (id := id) (v := v) hn hmode hdrive hoffset
    exact ⟨fun h h' => hflag (hend h h'), fun h h' => hflag (hlow h h')⟩
  · exact configure_drive (hchanges (by omega) (by omega)) hn rfl htarget hhead hoffset hmode
  · exact configure_window (hchanges (by omega) (by omega)) hn
  · exact configure_polarity (hchanges (by omega) (by omega)) hn hno

end Sys2Proof.Machine
end
